-- ==== Sys2Proof/Word.lean ====
section
/-! DEFINITION. The word types of the UA-416 and the names of its numbered resources (TABLE 1-5). -/

namespace Sys2Proof

/-- A byte of the scan link, the peer bus or the maintenance port (Section 13). -/
abbrev Byte := BitVec 8

/-- A value of the station clock: a 32-bit tick count (R1). -/
abbrev Stamp := BitVec 32

/-- A trunk T0-T31; also names its call record. -/
abbrev Trunk := Fin 32
/-- A position P0-P23; also names its agent record. -/
abbrev Position := Fin 24
/-- A service queue Q0-Q7. -/
abbrev QueueNo := Fin 8
/-- A profile F0-F7. -/
abbrev ProfileNo := Fin 8
/-- A station S0-S15. -/
abbrev Station := Fin 16
/-- A clip C0-C31. -/
abbrev Clip := Fin 32
/-- A junctor J0-J7 of one station. -/
abbrev Junctor := Fin 8
/-- A guest record G0-G15. -/
abbrev GuestNo := Fin 16
/-- An offer slot O0-O3. -/
abbrev SlotNo := Fin 4
/-- A playback channel in the order of the channels table (TABLE 12-6): A0, A1, M0, M1, M2, M3. -/
abbrev Channel := Fin 6
/-- A priority 0-3, 3 highest. -/
abbrev Priority := Fin 4
/-- A programme 0-3, which selects a music channel. -/
abbrev Programme := Fin 4
/-- A generation 0-15 (R19). -/
abbrev Generation := BitVec 4

end Sys2Proof
end

