-- ==== Sys2Proof/Config.lean ====
section
/-! DEFINITION. What is fixed in the part (TABLE 1-6), and the one free value of the model. -/

namespace Sys2Proof.Config

/-- Entries of the order queue (R14). -/
abbrev orderQueueSize : Nat := 64
/-- Frames of the transmit queue, beside the placeholder (R146). -/
abbrev txQueueSize : Nat := 8
/-- Reports of the report FIFO (R190). -/
abbrev fifoSize : Nat := 64
/-- Blocks of a channel buffer (R103). -/
abbrev bufferSize : Nat := 2
/-- Attempts of one frame (R151). -/
abbrev attemptLimit : Nat := 8
/-- AVAIL_GAP in ticks (R148). -/
abbrev availGap : Nat := 2
/-- Free places that the transmit queue must have for an offer (R168). -/
abbrev offerPlaces : Nat := 3
/-- MORE_TIME keys taken in one wrap-up at most (R74). -/
abbrev extensionLimit : Nat := 2
/-- Frame sync pulses of one tick (R1). -/
abbrev framesPerTick : Nat := 800
/-- Frame sync pulses of one block (R108). -/
abbrev framesPerBlock : Nat := 256

/-- The silence code of the highways (R129). FREE VALUE: no rule states the code, so nothing is known of it
(assumption 16). -/
opaque silenceCode : Byte

end Sys2Proof.Config
end

