-- ==== Sys2Proof/Syntax.lean ====
section
/-! DEFINITION. The commands of the UA-416: one constructor per row of spec/opcode_table.json. A command that comes
from outside carries the bytes that arrive, and its meaning decodes them (assumption 1). -/

namespace Sys2Proof

/-- The loop state that a LOOP character reports (TABLE 13-3: 21H OPEN, 22H CLOSED). -/
inductive LoopState where
  | opened | closed
deriving DecidableEq, Repr

/-- The headset state that a HEADSET character reports (TABLE 13-3: 31H ABSENT, 32H PRESENT). -/
inductive HeadsetState where
  | absent | present
deriving DecidableEq, Repr

/-- A frame received on the peer bus, as its characters arrived. The row of the table gives the kind code that stands in
bits 7-4 of the second character. -/
structure RxFrame where
  /-- The first, marked character (TABLE 13-1). -/
  head : Byte
  /-- Bits 3-0 of the second character: the source station. -/
  source : BitVec 4
  /-- The characters after the second, the check character among them, as many as arrived. -/
  rest : List Byte
  /-- Some character's stop bit was found low (R140). -/
  damaged : Bool
  /-- The frame was ended by another marked character, and not by an idle character time (R141). -/
  endedByMark : Bool
deriving DecidableEq, Repr

/-- A received frame of which no kind is known (LENGTH_ERROR_FRAME): every character after the marked one is given. -/
structure RawFrame where
  head : Byte
  rest : List Byte
  damaged : Bool
  endedByMark : Bool
deriving DecidableEq, Repr

/-- What is seen on the peer bus beside whole frames (R140): the bus found idle for a number of character times, or the start bit
of another station's character, which a mark bit makes the first of a frame (R141). -/
inductive BusSign where
  | idle (chars : Nat)
  | startBit (marked : Bool)
deriving DecidableEq, Repr

/-- A piece of work that a block does at a tick, or a division completion that falls among them (R1, R89). -/
inductive TickEvent where
  | disconnectFilter (t : Trunk)
  | headsetFilter (p : Position)
  | sweepEnd
  | ring (p : Position)
  | readyAtMin (p : Position)
  | wrapExpiry (p : Position)
  | nextDue (t : Trunk)
  | holdoffEnd
  | availPeriod
  | presence
  | offer
  | lent
  | connect
  | spacingEnd
  | division
deriving DecidableEq, Repr

/-- The order in which the blocks take one tick, which the spec leaves open (assumption 3): the work in `first` is done
first and in this order; the work in `later` is left to commands of its own; everything else follows in the default
order. -/
structure TickPlan where
  first : List TickEvent
  later : List TickEvent
deriving DecidableEq, Repr

/-- The commands, in the order of spec/opcode_table.json. -/
inductive Instr where
  | resetPin (straps : Station)
  | tick (plan : TickPlan)
  | blockBoundary (order : List Channel)
  | seize (trunk code : Byte)
  | loop (state : LoopState) (trunk : Byte)
  | headset (state : HeadsetState) (position : Byte)
  | scanByteUndecodable (bytes : List Byte)
  | signOnKey (byte : Byte)
  | readyKey (byte : Byte)
  | notReadyKey (byte : Byte)
  | signOffKey (byte : Byte)
  | answerKey (byte : Byte)
  | releaseKey (byte : Byte)
  | moreTimeKey (byte : Byte)
  | orderSent
  | disconnectFilterExpiry (t : Trunk)
  | headsetFilterExpiry (p : Position)
  | startSweepEnd
  | ringDeadline (p : Position)
  | wrapExpiry (p : Position)
  | readyAtMin (p : Position)
  | nextDueReached (t : Trunk)
  | junctorHoldoffEnd
  | offerDeadline
  | lentDeadline
  | connectDeadline
  | availPeriodExpiry
  | presenceTimeout
  | availSpacingEnd
  | divisionComplete
  | fetchComplete (samples : List Byte) (fault : Bool)
  | attemptBegin (sign : BusSign)
  | attemptLost
  | attemptComplete
  | avail (f : RxFrame)
  | offer (f : RxFrame)
  | take (f : RxFrame)
  | decline (f : RxFrame)
  | connect (f : RxFrame)
  | answered (f : RxFrame)
  | bounce (f : RxFrame)
  | releaseAgentDone (f : RxFrame)
  | releaseCallerGone (f : RxFrame)
  | releaseTooLate (f : RxFrame)
  | withdraw (f : RxFrame)
  | set (data : List Byte)
  | start (data : List Byte)
  | restart (data : List Byte)
  | select (data : List Byte)
  | readNext (data : List Byte)
  | reportNext (data : List Byte)
  | status (data : List Byte)
  | transactionAbandoned (bytes : List Byte)
  | lengthErrorFrame (f : RawFrame)
  | unknownCommandCode (bytes : List Byte)
deriving DecidableEq, Repr

end Sys2Proof
end

