-- ==== Sys2Proof/Decode.lean ====
section
/-! DEFINITION. The command that a word spells. spec/opcode_table.json gives no row any bits, so no word spells a
command (assumption 33); the bytes that the commands carry are decoded in Sys2Proof/Machine/Formats.lean. -/

namespace Sys2Proof

/-- The command that the word `w` of `nbits` bits spells by the table: none, since no row of the table has bits. -/
def decodeTableWord (_nbits _w : Nat) : Option Instr := none

end Sys2Proof
end

