-- ==== Sys2Proof/Machine/Image.lean ====
section
/-! DEFINITION. The configuration image (TABLE 12-2 to TABLE 12-5): the items that SET writes, with their defaults. The
blocks read their items from it (R186); the service map, the profiles and the clip table have their one home here. -/

namespace Sys2Proof.Machine

/-- POLICY of a queue (TABLE 12-4). -/
inductive Policy where
  | longestIdle | circular
deriving DecidableEq, Repr

/-- ATTN_ENABLE: one enable for each report kind (TABLE 13-5, bits 0-4). -/
structure AttnEnable where
  callEnd : Bool
  wrapEnd : Bool
  agentState : Bool
  peerState : Bool
  storeFault : Bool
deriving DecidableEq, Repr

/-- The station items (TABLE 12-3). -/
structure StationItems where
  disconnectFilter : Nat
  headsetFilter : Nat
  ringLimit : Nat
  offerLimit : Nat
  connectLimit : Nat
  lentLimit : Nat
  availPeriod : Nat
  presenceLimit : Nat
  junctorHoldoff : Nat
  guestLimit : Nat
  bandWidth : Nat
  attnEnable : AttnEnable
deriving DecidableEq, Repr

/-- The items of one queue (TABLE 12-4). -/
structure QueueItems where
  policy : Policy
  depthLimit : Nat
  wrapTime : Nat
  wrapMin : Nat
  wrapExt : Nat
  ahtSeed : Nat
  initialClip : Option Clip
  bandBase : Option Clip
  annInterval : Nat
  ovfWait : Nat
  ovfBand : Nat
deriving DecidableEq, Repr

/-- The items of one music channel (R113). -/
structure MusicItems where
  clip : Clip
  segBlocks : Nat
deriving DecidableEq, Repr

/-- An entry of the service map (2.2, R20). -/
structure ServiceEntry where
  valid : Bool
  queue : QueueNo
  priority : Priority
  programme : Programme
deriving DecidableEq, Repr

/-- An entry of the clip table (TABLE 6-1, R98). -/
structure ClipEntry where
  valid : Bool
  page : BitVec 8
  offset : BitVec 16
  length : Nat
deriving DecidableEq, Repr

/-- The configuration image (R185). -/
structure Image where
  station : StationItems
  music : Vector MusicItems 4
  queues : Vector QueueItems 8
  profiles : Vector (List QueueNo) 8
  services : Vector ServiceEntry 64
  clips : Vector ClipEntry 32
deriving DecidableEq, Repr

/-- The defaults of TABLE 12-3. -/
def defaultStation : StationItems where
  disconnectFilter := 5
  headsetFilter := 10
  ringLimit := 150
  offerLimit := 5
  connectLimit := 5
  lentLimit := 300
  availPeriod := 20
  presenceLimit := 70
  junctorHoldoff := 30
  guestLimit := 8
  bandWidth := 600
  attnEnable := ⟨false, false, false, false, false⟩

/-- The defaults of TABLE 12-4. -/
def defaultQueue : QueueItems where
  policy := .longestIdle
  depthLimit := 32
  wrapTime := 150
  wrapMin := 0
  wrapExt := 300
  ahtSeed := 1800
  initialClip := none
  bandBase := none
  annInterval := 450
  ovfWait := 0
  ovfBand := 0

/-- Every item at the default of TABLE 12-3 to TABLE 12-5: music channel m names clip Cm with SEG_BLOCKS 16, the
profiles are empty, the service map and the clip table hold no valid entry. -/
def defaultImage : Image where
  station := defaultStation
  music := #v[⟨0, 16⟩, ⟨1, 16⟩, ⟨2, 16⟩, ⟨3, 16⟩]
  queues := Vector.replicate 8 defaultQueue
  profiles := Vector.replicate 8 []
  services := Vector.replicate 64 ⟨false, 0, 0, 0⟩
  clips := Vector.replicate 32 ⟨false, 0, 0, 1⟩

end Sys2Proof.Machine
end

