-- ==== Sys2Proof/Machine/State.lean ====
section
/-! DEFINITION. The state of the UA-416, block by block as TABLE 1-1 names them, as plain data; its reset value; the
setters through which the operations write it. A field that a record's state does not carry has no place in the data
(1.7.4): the state of a record is a constructor that holds the fields present in it. -/

namespace Sys2Proof.Machine

/-- What can stop the machine: nothing. The spec names no event that stops the part, and every command has a next state
in every state; no constructor, so no one raises it (safe). -/
inductive Fault where
deriving DecidableEq, Repr

/-- Why a command has no meaning. -/
inductive Refusal where
  /-- Raised by `exec` for a row of the table that has no meaning yet; no arm raises it. Safe. -/
  | notModelled (mnemonic : String)
deriving DecidableEq, Repr

/-! ## LSI (Section 1) -/

/-- The supervision record of a trunk (TABLE 1-7). -/
structure TrunkSup where
  raw : LoopState
  filtered : LoopState
  filterStart : Option Stamp
  reported : Bool
deriving DecidableEq, Repr

/-- The supervision record of a position (TABLE 1-7). -/
structure PositionSup where
  raw : HeadsetState
  filtered : HeadsetState
  filterStart : Option Stamp
  reported : Bool
deriving DecidableEq, Repr

/-- A line order (TABLE 1-10). -/
inductive Order where
  | ring (p : Position)
  | stopRing (p : Position)
  | reject (t : Trunk)
  | clear (t : Trunk)
  | keyRefused (p : Position)
  | scanAll
deriving DecidableEq, Repr

/-- The line scan interface (R4, R14, R194). -/
structure Lsi where
  trunks : Vector TrunkSup 32
  positions : Vector PositionSup 24
  scanErrors : Nat
  orderLosses : Nat
  orders : List Order
  scanOpen : List Byte
deriving DecidableEq, Repr

/-! ## CLK (R1) -/

/-- The station clock: the tick count and the frame count toward the next tick. -/
structure Clk where
  tickCount : Stamp
  frameCount : Nat
  /-- The ticks whose pulse has been counted and whose TICK command has not been taken yet (the model's own field,
  assumption 7). -/
  ticksDue : Nat
deriving DecidableEq, Repr

/-! ## CQM (Section 2) and the hold fields of the HTU (Section 7) -/

/-- Next-due (TABLE 7-1): a clock value, NEVER or DUE. -/
inductive NextDue where
  | at (stamp : Stamp)
  | never
  | due
deriving DecidableEq, Repr

/-- The state of a call record other than FREE, with the fields that TABLE 2-1 gives it in that state. -/
inductive CallPhase where
  | queued
  | offered (slot : SlotNo) (peer : Station) (junctor : Junctor)
  | alerting (agent : Position)
  | talking (agent : Position) (answer : Stamp)
  | lentAlerting (peer : Station) (junctor : Junctor) (deadline : Stamp)
  | lentTalking (peer : Station) (junctor : Junctor) (answer : Stamp)
deriving DecidableEq, Repr

/-- The fields of a call record that is not FREE (TABLE 2-1, TABLE 7-1). -/
structure CallBody where
  phase : CallPhase
  queue : QueueNo
  priority : Priority
  programme : Programme
  arrival : Stamp
  recovered : Bool
  source : Option Channel
  nextDue : NextDue
  waiting : Bool
deriving DecidableEq, Repr

/-- A call record: FREE where `body` is absent (R17). -/
structure CallRec where
  gen : Generation
  body : Option CallBody
deriving DecidableEq, Repr

/-- The call queue manager: 32 call records and 8 queue lists (R17, R24). -/
structure Cqm where
  calls : Vector CallRec 32
  lists : Vector (List Trunk) 8
deriving DecidableEq, Repr

/-! ## DSU (Section 3) and WTU (Section 4) -/

/-- A pending action (R42). -/
inductive PendingAction where
  | none | ready | notReady | signOff
deriving DecidableEq, Repr

/-- What an agent is bound to (R41): a local call or a guest. -/
inductive Bound where
  | call (t : Trunk)
  | guest (g : GuestNo)
deriving DecidableEq, Repr

/-- The wrap fields (TABLE 4-1). -/
structure WrapFields where
  queue : QueueNo
  start : Stamp
  wrapEnd : Stamp
  minEnd : Stamp
  extensions : Nat
  talk : Nat
deriving DecidableEq, Repr

/-- The state of an agent record other than SIGNED_OFF, with the fields that TABLE 3-1 gives it in that state. -/
inductive Duty where
  | notReady
  | ready (since : Stamp)
  | reserved (g : GuestNo)
  | alerting (bound : Bound) (deadline : Stamp)
  | talking (bound : Bound)
  | wrapup (fields : WrapFields)
deriving DecidableEq, Repr

/-- An agent who is signed on. -/
structure Post where
  profile : ProfileNo
  duty : Duty
deriving DecidableEq, Repr

/-- An agent record: SIGNED_OFF where `post` is absent (R40). -/
structure AgentRec where
  post : Option Post
  headset : HeadsetState
  pendingAction : PendingAction
deriving DecidableEq, Repr

/-- The distribution unit: agent records, idle list, hunt pointers (R40, R47, R58). -/
structure Dsu where
  agents : Vector AgentRec 24
  idleList : List Position
  hunt : Vector Position 8
deriving DecidableEq, Repr

/-- The seven agent states by name (R40), as reports give them. -/
inductive AgentKind where
  | signedOff | notReady | ready | reserved | alerting | talking | wrapup
deriving DecidableEq, Repr

/-! ## EST (Section 5) -/

/-- An estimate record (TABLE 5-1). The pending set is the set of queues whose flag is set (R82). -/
structure EstRec where
  aht16 : Nat
  step : Nat
  nUsed : Nat
  pendingFlag : Bool
  restarts : Nat
deriving DecidableEq, Repr

/-- The division in flight: its queue and the snapshot taken when it began (R82, R88). -/
structure Division where
  queue : QueueNo
  aht16 : Nat
  staffed : Nat
deriving DecidableEq, Repr

/-- The estimate unit. -/
structure Est where
  recs : Vector EstRec 8
  inFlight : Option Division
deriving DecidableEq, Repr

/-! ## PBC (Section 6) -/

/-- What a block sounds like: the samples that the store gave, or silence (R106). -/
inductive Audio where
  | samples (bytes : List Byte)
  | silence
deriving DecidableEq, Repr

/-- A fetched block with its last-of-clip mark (R100). -/
structure Block where
  audio : Audio
  last : Bool
deriving DecidableEq, Repr

/-- A playing block: a block of the clip, or a stall block (R109). -/
inductive Playing where
  | block (b : Block)
  | stall
deriving DecidableEq, Repr

/-- The fields of a channel in LOADING or PLAYING (TABLE 6-2). The segment counter belongs to music channels. -/
structure ClipRun where
  clip : Clip
  page : BitVec 8
  offset : BitVec 16
  remaining : Nat
  buffer : List Block
  segment : Nat
  fetching : Bool
deriving DecidableEq, Repr

/-- The state of a channel (R100). -/
inductive ChannelState where
  | idle
  | loading (run : ClipRun)
  | playing (run : ClipRun) (block : Option Playing)
deriving DecidableEq, Repr

/-- A channel record. -/
structure ChannelRec where
  state : ChannelState
  startNumber : BitVec 8
  underruns : Nat
  faults : Nat
deriving DecidableEq, Repr

/-- The fetch in flight on the audio store port: whose it is, and the block address that the grant has sent to the store
(R104). -/
structure Fetch where
  channel : Channel
  startNumber : BitVec 8
  page : BitVec 8
  offset : BitVec 16
deriving DecidableEq, Repr

/-- The playback controller. -/
structure Pbc where
  channels : Vector ChannelRec 6
  port : Option Fetch
  blockFrameCount : Nat
  /-- The block boundaries whose pulse has been counted and whose BLOCK_BOUNDARY command has not been taken yet (the model's
  own field, assumption 7). -/
  boundariesDue : Nat
deriving DecidableEq, Repr

/-! ## HTU (Section 7) -/

/-- An entry of the announcement waiting list (R118). -/
structure WaitEntry where
  trunk : Trunk
  clip : Clip
deriving DecidableEq, Repr

/-- The hold treatment unit's own list; its hold fields stand in the call records. -/
structure Htu where
  waiting : List WaitEntry
deriving DecidableEq, Repr

/-! ## SPS (Section 8) -/

/-- A source that a connection map entry can name (R129): a receive slot of the local highway, a playback channel's slot,
or a receive slot of the junctor highway. -/
inductive PathSource where
  | localSlot (slot : Nat)
  | channel (c : Channel)
  | junctorSlot (slot : Nat)
deriving DecidableEq, Repr

/-- The connection map of 80 entries (8.2). -/
structure ConnMap where
  trunks : Vector (Option PathSource) 32
  positions : Vector (Option PathSource) 24
  forward : Vector (Option PathSource) 8
  returns : Vector (Option PathSource) 16
deriving DecidableEq, Repr

/-- What the present frame of the two highways carries (R129): the sources of the trunk and position slots, and the junctor
slots that the part drives with their sources, as they stood when the frame began. -/
structure FramePaths where
  trunks : Vector (Option PathSource) 32
  positions : Vector (Option PathSource) 24
  driven : List (Nat × PathSource)
deriving DecidableEq, Repr

/-- A junctor record (TABLE 8-4). -/
inductive JunctorRec where
  | free
  | bound (t : Trunk)
  | holdoff (untilStamp : Stamp)
deriving DecidableEq, Repr

/-- The speech path switch. -/
structure Sps where
  map : ConnMap
  sending : FramePaths
  junctors : Vector JunctorRec 8
  freeOrder : List Junctor
  holdoffOrder : List Junctor
deriving DecidableEq, Repr

/-! ## Peer bus frames (Section 13) and PLC (Section 9) -/

/-- A call's tag (R19). -/
structure Tag where
  trunk : Trunk
  gen : Generation
deriving DecidableEq, Repr

/-- The contents of an availability notice (R156). -/
structure Notice where
  clock : Stamp
  room : Nat
  idle : Vector Nat 8
  band : Vector Nat 8
  map : Vector (Option Station) 8
deriving DecidableEq, Repr

/-- The contents of an OFFER (TABLE 13-2). -/
structure OfferData where
  tag : Tag
  queue : QueueNo
  priority : Priority
  programme : Programme
  junctor : Junctor
  waited : Nat
deriving DecidableEq, Repr

/-- The reason of a DECLINE (R177). -/
inductive DeclineReason where
  | notServed | noRoom | noAgent
deriving DecidableEq, Repr

/-- The cause of a BOUNCE (TABLE 13-2). -/
inductive BounceCause where
  | noAnswer | agentLost | noConnect | tooLate
deriving DecidableEq, Repr

/-- The cause of a RELEASE (TABLE 13-2). -/
inductive ReleaseCause where
  | agentDone | callerGone | tooLate
deriving DecidableEq, Repr

/-- The kind of a frame with its contents (TABLE 13-2). -/
inductive Payload where
  | avail (n : Notice)
  | offer (o : OfferData)
  | take (tag : Tag) (junctor : Junctor)
  | decline (tag : Tag) (reason : DeclineReason)
  | connect (tag : Tag) (junctor : Junctor)
  | answered (tag : Tag)
  | bounce (tag : Tag) (cause : BounceCause)
  | release (tag : Tag) (cause : ReleaseCause)
  | withdraw (tag : Tag)
deriving DecidableEq, Repr

/-- A frame that the OFU gives to the PLC: its destination and its contents (R146). -/
structure Frame where
  dest : Station
  payload : Payload
deriving DecidableEq, Repr

/-- What holds a place or a turn in the transmit queue: a frame, or the AVAIL placeholder, which has no contents of its
own (R147). -/
inductive TxBody where
  | frame (f : Frame)
  | notice
deriving DecidableEq, Repr

/-- An entry of the transmit queue with the number of attempts begun for it (R149). -/
structure TxEntry where
  body : TxBody
  tries : Nat
deriving DecidableEq, Repr

/-- The frame in progress on the peer bus (R141, R144): none; one that a marked character has begun; or one that the receive
side passes over to its end, because START was taken while it was in progress. -/
inductive BusFrame where
  | none | begun | passedOver
deriving DecidableEq, Repr

/-- The peer link controller. The placeholder is ABSENT, WAITING or SENDING as the queue holds no notice entry, one of no
attempt, or one whose attempts have begun (R147; `placeholder` in Flags.lean). -/
structure Plc where
  queue : List TxEntry
  renew : Bool
  /-- The characters of the attempt under way (R149). -/
  attempt : Option (List Byte)
  lastAvail : Option Stamp
  /-- The idle measure of R140, in character times. -/
  busIdle : Nat
  /-- The frame in progress on the bus (R141, R144). -/
  onBus : BusFrame
  /-- The characters of the last completed attempt, until the next frame ends on the bus (R143, assumption 10). -/
  echo : Option (List Byte)
  crcErr : Nat
  lengthErr : Nat
  idClash : Nat
  contentionDrop : Nat
  txqDrop : Nat
deriving DecidableEq, Repr

/-! ## PVT (Section 10) -/

/-- The data of a PRESENT entry (TABLE 10-1). -/
structure PeerData where
  lastClock : Stamp
  lastHeard : Stamp
  room : Nat
  idle : Vector Nat 8
  band : Vector Nat 8
  decline : Vector Bool 8
  map : Vector (Option Station) 8
deriving DecidableEq, Repr

/-- A peer entry (R155). -/
inductive PeerEntry where
  | unknown
  | present (d : PeerData)
  | absent (lastClock lastHeard : Stamp)
deriving DecidableEq, Repr

/-- The three states of a peer entry by name, as reports give them. -/
inductive PeerKind where
  | unknown | present | absent
deriving DecidableEq, Repr

/-- The peer view table with its period timer (R155, R157). -/
structure Pvt where
  peers : Vector PeerEntry 16
  periodDeadline : Option Stamp
deriving DecidableEq, Repr

/-! ## OFU (Section 11) -/

/-- A BUSY offer slot (TABLE 11-1). -/
structure OfferSlot where
  trunk : Trunk
  queue : QueueNo
  deadline : Stamp
deriving DecidableEq, Repr

/-- The state of a guest record in use, with the field that TABLE 11-4 gives it in that state. -/
inductive GuestPhase where
  | waitConnect (deadline : Stamp)
  | alerting
  | talking (answer : Stamp)
deriving DecidableEq, Repr

/-- A guest record in use (TABLE 11-4). -/
structure GuestRec where
  phase : GuestPhase
  origin : Station
  tag : Tag
  junctor : Junctor
  queue : QueueNo
  priority : Priority
  programme : Programme
  waited : Nat
  agent : Position
deriving DecidableEq, Repr

/-- The overflow unit: FREE slots and FREE guest records are absent. -/
structure Ofu where
  slots : Vector (Option OfferSlot) 4
  guests : Vector (Option GuestRec) 16
deriving DecidableEq, Repr

/-! ## Reports (Section 13, TABLE 13-6) and MPI (Section 12) -/

/-- The outcome of a CALL_END report (R39). -/
inductive CallOutcome where
  | answeredLocal | answeredPeer | abandoned | rejected
deriving DecidableEq, Repr

/-- The party of a CALL_END report (R39). -/
inductive Party where
  | none
  | agent (p : Position)
  | peer (x : Station)
deriving DecidableEq, Repr

/-- How a wrap-up ended (TABLE 4-4). -/
inductive EndedBy where
  | expiry | readyKey | readyAtMin | notReadyKey
deriving DecidableEq, Repr

/-- The cause of an AGENT_STATE report (R65). -/
inductive AgentCause where
  | key | headsetLoss | noAnswer | callGone | wrapEnd
deriving DecidableEq, Repr

/-- The cause of a PEER_STATE report (R165). -/
inductive PeerCause where
  | notice | timeout | restart
deriving DecidableEq, Repr

/-- What a STORE_FAULT report tells of the fault (R113): a read fault carries the address of the block. -/
inductive StoreFaultCause where
  | readFault (page : BitVec 8) (offset : BitVec 16)
  | invalidClip
deriving DecidableEq, Repr

/-- A report (1.7.6, TABLE 13-6). -/
inductive Report where
  | callEnd (trunk : Trunk) (gen : Generation) (queue : QueueNo) (outcome : CallOutcome) (waited talk : Nat) (party : Party)
      (recovered : Bool)
  | wrapEnd (position : Position) (queue : QueueNo) (ticks : Nat) (endedBy : EndedBy)
  | agentState (position : Position) (before after : AgentKind) (profile : Option ProfileNo) (cause : AgentCause)
  | peerState (station : Station) (before after : PeerKind) (cause : PeerCause) (lastClock : Stamp)
      (offers lent guests : Nat)
  | storeFault (channel : Channel) (clip : Clip) (cause : StoreFaultCause) (faults : Nat)
deriving DecidableEq, Repr

/-- The two modes of the part (R185). -/
inductive Mode where
  | config | run
deriving DecidableEq, Repr

/-- The table pointer (R189): one of the eight tables of TABLE 12-6 by its number in TABLE 13-4, and an index. -/
structure TablePointer where
  table : Fin 8
  index : Nat
deriving DecidableEq, Repr

/-- The maintenance port interface. -/
structure Mpi where
  mode : Mode
  station : Station
  image : Image
  pointer : TablePointer
  fifo : List Report
  lostReports : Nat
  /-- The ATTN line is active (R191). -/
  attn : Bool
  /-- The bytes of the response to the last transaction; none where it had none (R184, assumption 18). -/
  response : Option (List Byte)
deriving DecidableEq, Repr

/-! ## The state -/

/-- The state of the part, and the queue of the commands that wait (the model's own field). -/
structure State where
  lsi : Lsi
  clk : Clk
  cqm : Cqm
  dsu : Dsu
  est : Est
  pbc : Pbc
  htu : Htu
  sps : Sps
  plc : Plc
  pvt : Pvt
  ofu : Ofu
  mpi : Mpi
  pending : List Instr
deriving DecidableEq, Repr

/-! ## Reset -/

/-- R4: loops OPEN, headsets ABSENT, no filter, no mark, counts 0; R14: no order; 1.3: no character under way. -/
def Lsi.reset : Lsi where
  trunks := Vector.replicate 32 ⟨.opened, .opened, none, false⟩
  positions := Vector.replicate 24 ⟨.absent, .absent, none, false⟩
  scanErrors := 0
  orderLosses := 0
  orders := []
  scanOpen := []

/-- R2: the clock stands at 0. -/
def Clk.reset : Clk := ⟨0, 0, 0⟩

/-- R18: every record FREE with generation 0, every list empty. -/
def Cqm.reset : Cqm := ⟨Vector.replicate 32 ⟨0, none⟩, Vector.replicate 8 []⟩

/-- R43: every agent SIGNED_OFF, headset ABSENT, no pending action; no idle agent; hunt pointers 0. -/
def Dsu.reset : Dsu := ⟨Vector.replicate 24 ⟨none, .absent, .none⟩, [], Vector.replicate 8 0⟩

/-- R83: every estimate record 0, nothing pending, no division in flight. -/
def Est.reset : Est := ⟨Vector.replicate 8 ⟨0, 0, 0, false, 0⟩, none⟩

/-- R101: every channel IDLE with its counts 0, the port free, the block frame count 0. -/
def Pbc.reset : Pbc := ⟨Vector.replicate 6 ⟨.idle, 0, 0, 0⟩, none, 0, 0⟩

/-- R114: the waiting list is empty. -/
def Htu.reset : Htu := ⟨[]⟩

/-- R130: every entry holds none. -/
def ConnMap.empty : ConnMap :=
  ⟨Vector.replicate 32 none, Vector.replicate 24 none, Vector.replicate 8 none, Vector.replicate 16 none⟩

/-- R129: the silence code on every slot, and no junctor slot driven. -/
def FramePaths.silent : FramePaths := ⟨Vector.replicate 32 none, Vector.replicate 24 none, []⟩

/-- R130, R129, R135: no connection, nothing sent, every junctor FREE in the order J0 to J7. -/
def Sps.reset : Sps := ⟨ConnMap.empty, FramePaths.silent, Vector.replicate 8 .free, [0, 1, 2, 3, 4, 5, 6, 7], []⟩

/-- R145, R153: nothing queued, no attempt, no completion stamp, counts 0. The idle measure and the frame in progress are what
the part finds (R140); here 0 and none (assumption 8). -/
def Plc.reset : Plc where
  queue := []
  renew := false
  attempt := none
  lastAvail := none
  busIdle := 0
  onBus := .none
  echo := none
  crcErr := 0
  lengthErr := 0
  idClash := 0
  contentionDrop := 0
  txqDrop := 0

/-- R155, R157: every entry UNKNOWN, no period timer. -/
def Pvt.reset : Pvt := ⟨Vector.replicate 16 .unknown, none⟩

/-- R167, R176: every slot and every guest record FREE. -/
def Ofu.reset : Ofu := ⟨Vector.replicate 4 none, Vector.replicate 16 none⟩

/-- R185: CONFIG, the default image, the calls table at index 0, no report, ATTN inactive. Station 0 (assumption 17). -/
def Mpi.reset : Mpi where
  mode := .config
  station := 0
  image := defaultImage
  pointer := ⟨0, 0⟩
  fifo := []
  lostReports := 0
  attn := false
  response := none

/-- The part right after the RESET pin, with no command waiting. -/
def State.reset : State where
  lsi := .reset
  clk := .reset
  cqm := .reset
  dsu := .reset
  est := .reset
  pbc := .reset
  htu := .reset
  sps := .reset
  plc := .reset
  pvt := .reset
  ofu := .reset
  mpi := .reset
  pending := []

/-! ## Setters: each writes one piece of one block -/

namespace State
variable (s : State)

def setTrunkSup (t : Trunk) (x : TrunkSup) : State := { s with lsi := { s.lsi with trunks := s.lsi.trunks.set t x } }
def setPositionSup (p : Position) (x : PositionSup) : State :=
  { s with lsi := { s.lsi with positions := s.lsi.positions.set p x } }
def setOrders (x : List Order) : State := { s with lsi := { s.lsi with orders := x } }
def setOrderLosses (x : Nat) : State := { s with lsi := { s.lsi with orderLosses := x } }
def setScanErrors (x : Nat) : State := { s with lsi := { s.lsi with scanErrors := x } }
def setScanOpen (x : List Byte) : State := { s with lsi := { s.lsi with scanOpen := x } }
def setClk (x : Clk) : State := { s with clk := x }
def setCall (t : Trunk) (x : CallRec) : State := { s with cqm := { s.cqm with calls := s.cqm.calls.set t x } }
def setList (q : QueueNo) (x : List Trunk) : State := { s with cqm := { s.cqm with lists := s.cqm.lists.set q x } }
def setAgent (p : Position) (x : AgentRec) : State := { s with dsu := { s.dsu with agents := s.dsu.agents.set p x } }
def setIdleList (x : List Position) : State := { s with dsu := { s.dsu with idleList := x } }
def setHunt (q : QueueNo) (x : Position) : State := { s with dsu := { s.dsu with hunt := s.dsu.hunt.set q x } }
def setEst (q : QueueNo) (x : EstRec) : State := { s with est := { s.est with recs := s.est.recs.set q x } }
def setInFlight (x : Option Division) : State := { s with est := { s.est with inFlight := x } }
def setChannel (c : Channel) (x : ChannelRec) : State := { s with pbc := { s.pbc with channels := s.pbc.channels.set c x } }
def setPort (x : Option Fetch) : State := { s with pbc := { s.pbc with port := x } }
def setBlockFrame (x : Nat) : State := { s with pbc := { s.pbc with blockFrameCount := x } }
def setBoundariesDue (x : Nat) : State := { s with pbc := { s.pbc with boundariesDue := x } }
def setWaiting (x : List WaitEntry) : State := { s with htu := { s.htu with waiting := x } }
def setMap (x : ConnMap) : State := { s with sps := { s.sps with map := x } }
def setSending (x : FramePaths) : State := { s with sps := { s.sps with sending := x } }
def setJunctor (j : Junctor) (x : JunctorRec) : State := { s with sps := { s.sps with junctors := s.sps.junctors.set j x } }
def setFreeOrder (x : List Junctor) : State := { s with sps := { s.sps with freeOrder := x } }
def setHoldoffOrder (x : List Junctor) : State := { s with sps := { s.sps with holdoffOrder := x } }
def setPlc (x : Plc) : State := { s with plc := x }
def setPeer (x : Station) (e : PeerEntry) : State := { s with pvt := { s.pvt with peers := s.pvt.peers.set x e } }
def setPeriod (x : Option Stamp) : State := { s with pvt := { s.pvt with periodDeadline := x } }
def setSlot (o : SlotNo) (x : Option OfferSlot) : State := { s with ofu := { s.ofu with slots := s.ofu.slots.set o x } }
def setGuest (g : GuestNo) (x : Option GuestRec) : State := { s with ofu := { s.ofu with guests := s.ofu.guests.set g x } }
def setMode (x : Mode) : State := { s with mpi := { s.mpi with mode := x } }
def setImage (x : Image) : State := { s with mpi := { s.mpi with image := x } }
def setPointer (x : TablePointer) : State := { s with mpi := { s.mpi with pointer := x } }
def setFifo (x : List Report) : State := { s with mpi := { s.mpi with fifo := x } }
def setLostReports (x : Nat) : State := { s with mpi := { s.mpi with lostReports := x } }
def setAttn (x : Bool) : State := { s with mpi := { s.mpi with attn := x } }
def setResponse (x : Option (List Byte)) : State := { s with mpi := { s.mpi with response := x } }

end State

end Sys2Proof.Machine
end

