-- ==== Sys2Proof/Machine/Flags.lean ====
section
/-! DEFINITION. The views that the blocks compute from the state: time, sets, counts, waits and bands, the placeholder's
state, the connection map and the ATTN line. -/

namespace Sys2Proof.Machine

/-! ## Counts and time (1.7.4, R3) -/

/-- One more on a count that saturates at `top` (1.7.4). -/
def satUp (top n : Nat) : Nat := min (n + 1) top

/-- A value clamped at 65535 when it is recorded or sent (R39, R67, R79, R170). -/
def clamp16 (n : Nat) : Nat := min n 65535

/-- The time elapsed from stamp `a` to clock value `b`: (b - a) modulo 2^32 (R3). -/
def elapsed (a b : Stamp) : Nat := (b - a).toNat

/-- The deadline of a timer of `n` ticks started at stamp `a`: (a + n) modulo 2^32 (R3). -/
def deadline (a : Stamp) (n : Nat) : Stamp := a + BitVec.ofNat 32 n

/-- The member of an index type that a number names, where it names one. -/
def index? (n k : Nat) : Option (Fin n) := if h : k < n then some ⟨k, h⟩ else none

/-- The music channel of a programme: M0 for programme 0 to M3 for programme 3 (R114). -/
def musicChannel (p : Programme) : Channel := ⟨p.val + 2, by omega⟩

/-- The loop flag (TABLE 6-2): set for M0-M3, clear for A0-A1. -/
def isMusic (c : Channel) : Bool := 2 ≤ c.val

/-- The music channel's number, for a music channel. -/
def programmeOf (c : Channel) : Programme := ⟨c.val - 2, by omega⟩

namespace State

/-- The present clock value, the stamp of the event being described (R3). -/
def now (s : State) : Stamp := s.clk.tickCount

/-- The mode is RUN (R185). -/
def running (s : State) : Bool := s.mpi.mode == .run

/-- The station items (TABLE 12-3). -/
def items (s : State) : StationItems := s.mpi.image.station

/-- The items of queue `q` (TABLE 12-4). -/
def queueItems (s : State) (q : QueueNo) : QueueItems := s.mpi.image.queues[q]

/-- The queues of profile `f` in precedence order (R44). -/
def profileQueues (s : State) (f : ProfileNo) : List QueueNo := s.mpi.image.profiles[f]

/-- The fields of the call on trunk `t`, where the record is not FREE. -/
def call (s : State) (t : Trunk) : Option CallBody := s.cqm.calls[t].body

/-- The duty of the agent at `p`, where it is signed on. -/
def duty (s : State) (p : Position) : Option Duty := s.dsu.agents[p].post.map (·.duty)

end State

/-! ## Agents: states and sets (Section 3) -/

/-- The name of a duty (R40). -/
def Duty.kind : Duty → AgentKind
  | .notReady => .notReady
  | .ready _ => .ready
  | .reserved _ => .reserved
  | .alerting _ _ => .alerting
  | .talking _ => .talking
  | .wrapup _ => .wrapup

/-- The state of an agent record by name (R40). -/
def AgentRec.kind (a : AgentRec) : AgentKind :=
  match a.post with
  | none => .signedOff
  | some post => post.duty.kind

/-- The states of the staffed set (R45): READY, RESERVED, ALERTING, TALKING, WRAPUP. -/
def AgentKind.working : AgentKind → Bool
  | .signedOff | .notReady => false
  | .ready | .reserved | .alerting | .talking | .wrapup => true

namespace State

/-- The agent's profile names queue `q` (R44). -/
def skilled (s : State) (p : Position) (q : QueueNo) : Bool :=
  match s.dsu.agents[p].post with
  | none => false
  | some post => (s.profileQueues post.profile).contains q

/-- The agent at `p` is in the staffed set of `q` (R45). -/
def staffed (s : State) (q : QueueNo) (p : Position) : Bool := s.dsu.agents[p].kind.working && s.skilled p q

/-- N_q, the number of agents in the staffed set of `q` (R45). -/
def staffedCount (s : State) (q : QueueNo) : Nat := (List.finRange 24).countP (s.staffed q)

/-- The agent at `p` is in the idle set of `q` (R46). -/
def idle (s : State) (q : QueueNo) (p : Position) : Bool := s.dsu.agents[p].kind == .ready && s.skilled p q

/-- The idle set of `q`, by position (R46). -/
def idleSet (s : State) (q : QueueNo) : List Position := (List.finRange 24).filter (s.idle q)

/-! ## Queue lists (2.4) -/

/-- The call on `t` is in QUEUED. -/
def isQueued (s : State) (t : Trunk) : Bool :=
  match s.call t with
  | some b => b.phase == .queued
  | none => false

/-- The head eligible call of queue `q`: the first QUEUED record of its list (R25). -/
def headEligible (s : State) (q : QueueNo) : Option Trunk := s.cqm.lists[q].find? s.isQueued

/-- The position of trunk `t` in the list of `q`: one plus the number of records ahead of it (R25). -/
def queuePosition (s : State) (q : QueueNo) (t : Trunk) : Nat := s.cqm.lists[q].idxOf t + 1

/-- Of two waiting calls, `a` stands ahead of `b`: priority, then the older arrival stamp, then the trunk number (R24). -/
def ahead (s : State) (ta : Trunk) (a : CallBody) (tb : Trunk) (b : CallBody) : Bool :=
  if a.priority ≠ b.priority then b.priority < a.priority
  else if elapsed a.arrival s.now ≠ elapsed b.arrival s.now then elapsed b.arrival s.now < elapsed a.arrival s.now
  else ta < tb

/-! ## Waits and bands (5.5) -/

/-- EWT of position `p` in queue `q` from the published pair (R94): 65535 while N_used is 0, else p × STEP / 4096 rounded
up and limited to 65535. -/
def expectedWait (s : State) (q : QueueNo) (p : Nat) : Nat :=
  let r := s.est.recs[q]
  if r.nUsed = 0 then 65535 else min ((p * r.step + 4095) / 4096) 65535

/-- The band of position `p` in queue `q` (R95). -/
def band (s : State) (q : QueueNo) (p : Nat) : Nat :=
  if s.est.recs[q].nUsed = 0 then 7 else min (s.expectedWait q p / s.items.bandWidth) 7

/-! ## Guests, room and peers (Sections 10 and 11) -/

/-- The number of guest records in use (R176). -/
def guestsInUse (s : State) : Nat := (List.finRange 16).countP fun g => s.ofu.guests[g].isSome

/-- The room of this station: GUEST_LIMIT less the guest records in use (R156). -/
def room (s : State) : Nat := s.items.guestLimit - s.guestsInUse

/-- The guest record in use whose origin is `x` and whose tag is `tag`, the lowest where there were several (11.5). -/
def guestNamed (s : State) (x : Station) (tag : Tag) : Option GuestNo :=
  (List.finRange 16).find? fun g =>
    match s.ofu.guests[g] with
    | some r => r.origin == x && r.tag == tag
    | none => false

end State

/-! ## Start sweep (1.6) -/

/-- Some reported mark is clear: in RUN the start sweep lasts (R16). -/
def Lsi.unreported (l : Lsi) : Bool :=
  (List.finRange 32).any (fun t => !l.trunks[t].reported) || (List.finRange 24).any (fun p => !l.positions[p].reported)

/-! ## Transmit queue (9.3) -/

/-- The states of the AVAIL placeholder (R147). -/
inductive Placeholder where
  | absent | waiting | sending
deriving DecidableEq, Repr

/-- An entry of the transmit queue is a frame. -/
def TxEntry.isFrame (e : TxEntry) : Bool :=
  match e.body with
  | .frame _ => true
  | .notice => false

/-- The number of frames in the transmit queue; the placeholder is not counted (R146). -/
def Plc.frames (c : Plc) : Nat := c.queue.countP (·.isFrame)

/-- The free places of the transmit queue (R146). -/
def Plc.freePlaces (c : Plc) : Nat := Config.txQueueSize - c.frames

/-- The state of the AVAIL placeholder (R147): SENDING from the beginning of its first attempt. -/
def Plc.placeholder (c : Plc) : Placeholder :=
  match c.queue.find? (fun e => !e.isFrame) with
  | none => .absent
  | some e => if e.tries = 0 then .waiting else .sending

/-- The placeholder is held: fewer than AVAIL_GAP ticks have passed since the last AVAIL completed (R148). -/
def State.noticeHeld (s : State) : Bool :=
  match s.plc.lastAvail with
  | none => false
  | some c => elapsed c s.now < Config.availGap

/-! ## Connection map (8.2) -/

/-- The junctor highway slots of a junctor (TABLE 8-2). -/
def forwardSlot (x : Station) (j : Junctor) : Nat := 16 * x.val + 2 * j.val
def returnSlot (x : Station) (j : Junctor) : Nat := 16 * x.val + 2 * j.val + 1

/-- The local receive slot of a trunk (TABLE 8-1). -/
def trunkSlot (t : Trunk) : PathSource := .localSlot t.val
/-- The local receive slot of a position (TABLE 8-1). -/
def positionSlot (p : Position) : PathSource := .localSlot (32 + p.val)

namespace State

/-- What trunk `t` hears (R131, TABLE 8-3). -/
def trunkSource (s : State) (t : Trunk) : Option PathSource :=
  match s.call t with
  | none => none
  | some b =>
    match b.phase with
    | .queued | .offered _ _ _ => b.source.map .channel
    | .alerting _ => some (.channel (musicChannel b.programme))
    | .talking p _ => some (positionSlot p)
    | .lentAlerting _ j _ | .lentTalking _ j _ => some (.junctorSlot (returnSlot s.mpi.station j))

/-- What position `p` hears (R132). -/
def positionSource (s : State) (p : Position) : Option PathSource :=
  match s.duty p with
  | some (.talking (.call t)) => some (trunkSlot t)
  | some (.talking (.guest g)) => s.ofu.guests[g].map fun r => .junctorSlot (forwardSlot r.origin r.junctor)
  | _ => none

/-- What the forward slot of own junctor `j` carries (R133). -/
def forwardSource (s : State) (j : Junctor) : Option PathSource :=
  match s.sps.junctors[j] with
  | .bound t =>
    match s.call t with
    | none => none
    | some b =>
      match b.phase with
      | .lentAlerting _ _ _ | .lentTalking _ _ _ => some (trunkSlot t)
      | _ => none
  | _ => none

/-- What the return slot fed by guest record `g` carries (R134). -/
def returnSource (s : State) (g : GuestNo) : Option PathSource :=
  match s.ofu.guests[g] with
  | none => none
  | some r =>
    match r.phase with
    | .waitConnect _ => none
    | .alerting => some (.channel (musicChannel r.programme))
    | .talking _ => some (positionSlot r.agent)

/-- The connection map that the records call for (R130). -/
def connections (s : State) : ConnMap where
  trunks := Vector.ofFn s.trunkSource
  positions := Vector.ofFn s.positionSource
  forward := Vector.ofFn s.forwardSource
  returns := Vector.ofFn s.returnSource

end State

/-! ## ATTN (R191) -/

/-- The report's kind is enabled in ATTN_ENABLE (TABLE 13-5). -/
def AttnEnable.raises (e : AttnEnable) : Report → Bool
  | .callEnd .. => e.callEnd
  | .wrapEnd .. => e.wrapEnd
  | .agentState .. => e.agentState
  | .peerState .. => e.peerState
  | .storeFault .. => e.storeFault

/-- The level that the ATTN line must have: active in RUN while the FIFO holds a report of an enabled kind (R191). -/
def State.attnLevel (s : State) : Bool := s.running && s.mpi.fifo.any s.items.attnEnable.raises

end Sys2Proof.Machine
end

