-- ==== Sys2Proof/Machine/Formats.lean ====
section
/-! DEFINITION. Section 13: the bytes of peer bus frames, scan link characters, maintenance commands and responses, and
reports, written and read. -/

namespace Sys2Proof.Machine

/-! ## Bytes: every multi-byte field most significant byte first (13, opening) -/

/-- One byte of a number. -/
def byte (n : Nat) : Byte := BitVec.ofNat 8 n
/-- Two bytes of a number. -/
def bytes2 (n : Nat) : List Byte := [byte (n / 256), byte n]
/-- Four bytes of a number. -/
def bytes4 (n : Nat) : List Byte := [byte (n / 16777216), byte (n / 65536), byte (n / 256), byte n]
/-- A flag as a byte: clear 0, set 1 (TABLE 13-7). -/
def flagByte (b : Bool) : Byte := if b then 1 else 0
/-- The number of two bytes. -/
def number2 (a b : Byte) : Nat := a.toNat * 256 + b.toNat
/-- The clock value of four bytes. -/
def stamp4 (a b c d : Byte) : Stamp :=
  BitVec.ofNat 32 (a.toNat * 16777216 + b.toNat * 65536 + c.toNat * 256 + d.toNat)

/-! ## The check character (R192) -/

/-- One left shift of the check register, with 4DH XORed in where the outgoing bit was 1. -/
def crcShift (r : Byte) : Byte := if r.msb then (r <<< 1) ^^^ 0x4D#8 else r <<< 1
/-- The check register after one data byte. -/
def crcByte (r b : Byte) : Byte :=
  crcShift (crcShift (crcShift (crcShift (crcShift (crcShift (crcShift (crcShift (r ^^^ b))))))))
/-- The check character of the characters given, the register starting at FFH. -/
def checkCharacter (chars : List Byte) : Byte := chars.foldl crcByte 0xFF#8

/-! ## Frames (TABLES 9-2, 13-1, 13-2) -/

/-- The nine frame kinds. -/
inductive FrameKind where
  | avail | offer | take | decline | connect | answered | bounce | release | withdraw
deriving DecidableEq, Repr

/-- The kind code in bits 7-4 of the second character (TABLE 13-1). -/
def FrameKind.code : FrameKind → Nat
  | .avail => 1
  | .offer => 2
  | .take => 3
  | .decline => 4
  | .connect => 5
  | .answered => 6
  | .bounce => 7
  | .release => 8
  | .withdraw => 9

/-- The kind that a code names. -/
def FrameKind.ofCode : Nat → Option FrameKind
  | 1 => some .avail
  | 2 => some .offer
  | 3 => some .take
  | 4 => some .decline
  | 5 => some .connect
  | 6 => some .answered
  | 7 => some .bounce
  | 8 => some .release
  | 9 => some .withdraw
  | _ => none

/-- The number of characters of a frame of the kind, header and check character counted (TABLE 9-2). -/
def FrameKind.length : FrameKind → Nat
  | .avail => 24
  | .offer => 9
  | .take | .decline | .connect | .bounce | .release => 6
  | .answered | .withdraw => 5

/-- The kind of a payload. -/
def Payload.kind : Payload → FrameKind
  | .avail _ => .avail
  | .offer _ => .offer
  | .take _ _ => .take
  | .decline _ _ => .decline
  | .connect _ _ => .connect
  | .answered _ => .answered
  | .bounce _ _ => .bounce
  | .release _ _ => .release
  | .withdraw _ => .withdraw

def DeclineReason.code : DeclineReason → Nat
  | .notServed => 1
  | .noRoom => 2
  | .noAgent => 3
def DeclineReason.ofCode : Nat → Option DeclineReason
  | 1 => some .notServed
  | 2 => some .noRoom
  | 3 => some .noAgent
  | _ => none
def BounceCause.code : BounceCause → Nat
  | .noAnswer => 1
  | .agentLost => 2
  | .noConnect => 3
  | .tooLate => 4
def BounceCause.ofCode : Nat → Option BounceCause
  | 1 => some .noAnswer
  | 2 => some .agentLost
  | 3 => some .noConnect
  | 4 => some .tooLate
  | _ => none
def ReleaseCause.code : ReleaseCause → Nat
  | .agentDone => 1
  | .callerGone => 2
  | .tooLate => 3
def ReleaseCause.ofCode : Nat → Option ReleaseCause
  | 1 => some .agentDone
  | 2 => some .callerGone
  | 3 => some .tooLate
  | _ => none

/-- A tag's two bytes: the trunk, then the generation. -/
def Tag.bytes (t : Tag) : List Byte := [byte t.trunk.val, byte t.gen.toNat]

/-- A byte of a junctor map: the bound flag in bit 7 and the station in bits 3-0 (TABLE 13-2). -/
def mapByte : Option Station → Byte
  | none => 0
  | some x => byte (128 + x.val)

/-- A byte of the queue counts of an AVAIL: the idle count in bits 7-4 and the band in bits 3-0 (TABLE 13-2). -/
def idleBandByte (idle band : Nat) : Byte := byte (idle * 16 + band)

/-- The payload bytes of TABLE 13-2. -/
def Payload.bytes : Payload → List Byte
  | .avail n =>
    bytes4 n.clock.toNat ++ [byte n.room] ++ (List.finRange 8).map (fun q => idleBandByte n.idle[q] n.band[q]) ++
      (List.finRange 8).map fun j => mapByte n.map[j]
  | .offer o =>
    o.tag.bytes ++ [byte (o.programme.val * 32 + o.priority.val * 8 + o.queue.val), byte o.junctor.val] ++ bytes2 o.waited
  | .take t j | .connect t j => t.bytes ++ [byte j.val]
  | .decline t r => t.bytes ++ [byte r.code]
  | .answered t | .withdraw t => t.bytes
  | .bounce t c => t.bytes ++ [byte c.code]
  | .release t c => t.bytes ++ [byte c.code]

/-- The first character: broadcast flag and destination, 0 when broadcast (TABLE 13-1). Only an AVAIL is broadcast. -/
def headByte (dest : Station) : Payload → Byte
  | .avail _ => 0x80
  | _ => byte dest.val

/-- The second character: kind code and source station (TABLE 13-1). -/
def kindByte (k : FrameKind) (source : BitVec 4) : Byte := byte (k.code * 16 + source.toNat)

/-- A frame without its check character. -/
def frameBody (source : Station) (f : Frame) : List Byte :=
  headByte f.dest f.payload :: kindByte f.payload.kind (BitVec.ofNat 4 source.val) :: f.payload.bytes

/-- The characters of a frame as it is sent (TABLES 13-1, 13-2, R192). -/
def frameChars (source : Station) (f : Frame) : List Byte :=
  frameBody source f ++ [checkCharacter (frameBody source f)]

/-- A received tag: the trunk must be 0-31 and the generation 0-15 (R193). -/
def readTag (t g : Byte) : Option Tag := do
  let trunk ← index? 32 t.toNat
  if g.toNat < 16 then some ⟨trunk, BitVec.ofNat 4 g.toNat⟩ else none

/-- A received junctor map byte; the station bits are not read where the bound flag is clear (13.1). -/
def readMapByte (b : Byte) : Option Station :=
  if b.toNat < 128 then none else some ⟨b.toNat % 16, Nat.mod_lt _ (by decide)⟩

/-- The contents of a received AVAIL, clamped as R193 states: a room above 15 is 15, a band above 7 is 7. -/
def readNotice (payload : List Byte) : Option Notice :=
  match payload with
  | [c0, c1, c2, c3, room, i0, i1, i2, i3, i4, i5, i6, i7, j0, j1, j2, j3, j4, j5, j6, j7] =>
    let counts : Vector Byte 8 := #v[i0, i1, i2, i3, i4, i5, i6, i7]
    let maps : Vector Byte 8 := #v[j0, j1, j2, j3, j4, j5, j6, j7]
    some {
      clock := stamp4 c0 c1 c2 c3
      room := min room.toNat 15
      idle := counts.map fun b => b.toNat / 16
      band := counts.map fun b => min (b.toNat % 16) 7
      map := maps.map readMapByte }
  | _ => none

/-- The payload of a received frame of kind `k` whose fields all lie in their ranges (R193). -/
def readPayload (k : FrameKind) (payload : List Byte) : Option Payload :=
  match k, payload with
  | .avail, p => (readNotice p).map .avail
  | .offer, [t, g, b, j, w1, w0] => do
    let tag ← readTag t g
    let junctor ← index? 8 j.toNat
    some <| .offer {
      tag := tag
      queue := ⟨b.toNat % 8, Nat.mod_lt _ (by decide)⟩
      priority := ⟨b.toNat / 8 % 4, Nat.mod_lt _ (by decide)⟩
      programme := ⟨b.toNat / 32 % 4, Nat.mod_lt _ (by decide)⟩
      junctor := junctor
      waited := number2 w1 w0 }
  | .take, [t, g, j] => do some (.take (← readTag t g) (← index? 8 j.toNat))
  | .decline, [t, g, r] => do some (.decline (← readTag t g) (← DeclineReason.ofCode r.toNat))
  | .connect, [t, g, j] => do some (.connect (← readTag t g) (← index? 8 j.toNat))
  | .answered, [t, g] => do some (.answered (← readTag t g))
  | .bounce, [t, g, c] => do some (.bounce (← readTag t g) (← BounceCause.ofCode c.toNat))
  | .release, [t, g, c] => do some (.release (← readTag t g) (← ReleaseCause.ofCode c.toNat))
  | .withdraw, [t, g] => do some (.withdraw (← readTag t g))
  | _, _ => none

/-- The broadcast flag of a first character. -/
def broadcastFlag (head : Byte) : Bool := head.msb

/-- The destination of a first character. -/
def destination (head : Byte) : Nat := head.toNat % 16

/-- What the checks of R142 find of an accepted frame, in their order. -/
inductive FrameCheck where
  | lengthError
  | crcError
  | good (source : Station) (payload : Payload)
deriving DecidableEq, Repr

/-- The checks of R142 and the decoding of R193 over the characters of an accepted frame, of which `damaged` tells that
one had its stop bit low. -/
def checkFrame (chars : List Byte) (damaged : Bool) : FrameCheck :=
  match chars with
  | head :: second :: rest =>
    match FrameKind.ofCode (second.toNat / 16) with
    | none => .lengthError
    | some k =>
      if chars.length ≠ k.length then .lengthError
      else if damaged || chars.getLast? ≠ some (checkCharacter chars.dropLast) then .crcError
      else if broadcastFlag head ≠ (k == .avail) then .lengthError
      else
        match readPayload k rest.dropLast with
        | none => .lengthError
        | some p => .good ⟨second.toNat % 16, Nat.mod_lt _ (by decide)⟩ p
  | _ => .lengthError

/-- The characters of a received frame of a kind that the row gives. -/
def rxChars (k : FrameKind) (f : RxFrame) : List Byte := f.head :: kindByte k f.source :: f.rest

/-! ## Scan link characters (TABLE 13-3) -/

/-- The seven keys (3.4). -/
inductive Key where
  | signOn | ready | notReady | signOff | answer | release | moreTime
deriving DecidableEq, Repr

def Key.code : Key → Nat
  | .signOn => 1
  | .ready => 2
  | .notReady => 3
  | .signOff => 4
  | .answer => 5
  | .release => 6
  | .moreTime => 7

def Key.ofCode : Nat → Option Key
  | 1 => some .signOn
  | 2 => some .ready
  | 3 => some .notReady
  | 4 => some .signOff
  | 5 => some .answer
  | 6 => some .release
  | 7 => some .moreTime
  | _ => none

/-- A decoded inbound character. -/
inductive ScanChar where
  | seize (t : Trunk) (code : Fin 64)
  | loop (state : LoopState) (t : Trunk)
  | headset (state : HeadsetState) (p : Position)
  | key (k : Key) (profile : ProfileNo) (p : Position)
deriving DecidableEq, Repr

/-- The number of bytes of the character that an inbound type code opens (R194); none where the byte opens none. -/
def scanLength (b : Byte) : Option Nat :=
  let n := b.toNat
  if n = 0x10 then some 3
  else if n = 0x21 || n = 0x22 || n = 0x31 || n = 0x32 then some 2
  else if 0x40 ≤ n && n ≤ 0x4F then some 2
  else none

/-- The type code of a LOOP character (TABLE 13-3). -/
def loopCode : LoopState → Byte
  | .opened => 0x21
  | .closed => 0x22

/-- The type code of a HEADSET character (TABLE 13-3). -/
def headsetCode : HeadsetState → Byte
  | .absent => 0x31
  | .present => 0x32

/-- The type code of a KEY character (TABLE 13-3). -/
def keyCode (k : Key) : Byte := byte (0x40 + k.code)

/-- The position in bits 4-0 of a byte, where it is one of P0-P23 (13.2). -/
def readPosition (b : Byte) : Option Position := index? 24 (b.toNat % 32)

/-- A complete character decoded; none where it is undecodable (R194). -/
def readScan (chars : List Byte) : Option ScanChar :=
  match chars with
  | [c, t, k] =>
    if c.toNat = 0x10 then do some (.seize (← index? 32 t.toNat) (← index? 64 k.toNat)) else none
  | [c, b] =>
    if c.toNat = 0x21 then do some (.loop .opened (← index? 32 b.toNat))
    else if c.toNat = 0x22 then do some (.loop .closed (← index? 32 b.toNat))
    else if c.toNat = 0x31 then do some (.headset .absent (← readPosition b))
    else if c.toNat = 0x32 then do some (.headset .present (← readPosition b))
    else if c.toNat / 16 = 4 then do
      some (.key (← Key.ofCode (c.toNat % 16)) ⟨b.toNat / 32 % 8, Nat.mod_lt _ (by decide)⟩ (← readPosition b))
    else none
  | _ => none

/-- The bytes of an outbound order (TABLE 13-3). -/
def Order.bytes : Order → List Byte
  | .ring p => [0x81, byte p.val]
  | .stopRing p => [0x82, byte p.val]
  | .reject t => [0x83, byte t.val]
  | .clear t => [0x84, byte t.val]
  | .keyRefused p => [0x85, byte p.val]
  | .scanAll => [0x86]

/-! ## Maintenance port (TABLES 13-4, 13-5) -/

/-- The six status codes (R184). -/
inductive StatusCode where
  | ok | badItem | badValue | wrongMode | length | empty
deriving DecidableEq, Repr

def StatusCode.byte : StatusCode → Byte
  | .ok => 0
  | .badItem => 1
  | .badValue => 2
  | .wrongMode => 3
  | .length => 4
  | .empty => 5

/-- The seven commands. -/
inductive Command where
  | set | start | restart | select | readNext | reportNext | status
deriving DecidableEq, Repr

def Command.code : Command → Byte
  | .set => 1
  | .start => 2
  | .restart => 3
  | .select => 4
  | .readNext => 5
  | .reportNext => 6
  | .status => 7

def Command.ofCode (b : Byte) : Option Command :=
  match b.toNat with
  | 1 => some .set
  | 2 => some .start
  | 3 => some .restart
  | 4 => some .select
  | 5 => some .readNext
  | 6 => some .reportNext
  | 7 => some .status
  | _ => none

/-- The bytes of a whole command: the count of the bytes that follow it, the code, the data (13.3). -/
def commandBytes (c : Command) (data : List Byte) : List Byte := byte (data.length + 1) :: c.code :: data

/-! ## Reports (TABLE 13-6) -/

def AgentKind.code : AgentKind → Nat
  | .signedOff => 0
  | .notReady => 1
  | .ready => 2
  | .reserved => 3
  | .alerting => 4
  | .talking => 5
  | .wrapup => 6

def PeerKind.code : PeerKind → Nat
  | .unknown => 0
  | .present => 1
  | .absent => 2

def CallOutcome.code : CallOutcome → Nat
  | .answeredLocal => 1
  | .answeredPeer => 2
  | .abandoned => 3
  | .rejected => 4

def EndedBy.code : EndedBy → Nat
  | .expiry => 1
  | .readyKey => 2
  | .readyAtMin => 3
  | .notReadyKey => 4

def AgentCause.code : AgentCause → Nat
  | .key => 1
  | .headsetLoss => 2
  | .noAnswer => 3
  | .callGone => 4
  | .wrapEnd => 5

def PeerCause.code : PeerCause → Nat
  | .notice => 1
  | .timeout => 2
  | .restart => 3

/-- The party byte: bits 7-6 none 0, agent 1, peer 2; bits 4-0 the number. -/
def Party.byte : Party → Byte
  | .none => 0
  | .agent p => Machine.byte (64 + p.val)
  | .peer x => Machine.byte (128 + x.val)

/-- A report record (TABLE 13-6). The address of an INVALID_CLIP report is absent and sent as 0. -/
def Report.bytes : Report → List Byte
  | .callEnd t g q o w k p r =>
    [1, byte t.val, byte g.toNat, byte q.val, byte o.code] ++ bytes2 w ++ bytes2 k ++ [p.byte, flagByte r]
  | .wrapEnd p q w e => [2, byte p.val, byte q.val] ++ bytes2 w ++ [byte e.code]
  | .agentState p a b f c =>
    [3, byte p.val, byte a.code, byte b.code, (match f with | none => 0xFF | some f => byte f.val), byte c.code]
  | .peerState x a b c k o l g =>
    [4, byte x.val, byte a.code, byte b.code, byte c.code] ++ bytes4 k.toNat ++ [byte o, byte l, byte g]
  | .storeFault c k cause n =>
    [5, byte c.val, byte k.val] ++
      (match cause with
        | .readFault page offset => [1, byte page.toNat] ++ bytes2 offset.toNat
        | .invalidClip => [2, 0] ++ bytes2 0) ++ [byte n]

end Sys2Proof.Machine
end

