-- ==== Sys2Proof/Machine/Ops.lean ====
section
/-! DEFINITION. The operations that the blocks share: reports and line orders, junctors, the transmit queue, hold fields,
queue lists, the choice of an agent, the returns and ends of calls, wrap-up, guests, the loss of a peer, playback; and the
close of an event. None of them writes AGENT_STATE by itself: the event that changed the agent does (`reportAgent`). -/

namespace Sys2Proof.Machine

/-- Where an agent goes at the end of a wrap-up (R70). -/
inductive Destination where
  | ready | notReady | signedOff
deriving DecidableEq, Repr

namespace State

/-! ## Reports and line orders -/

/-- A report joins the FIFO, or is dropped and counted where 64 are held (R190). -/
def writeReport (s : State) (r : Report) : State :=
  if s.mpi.fifo.length < Config.fifoSize then s.setFifo (s.mpi.fifo ++ [r])
  else s.setLostReports (satUp 255 s.mpi.lostReports)

/-- A line order joins the order queue, or is dropped where it holds 64 orders; a drop is counted in RUN (R14). -/
def issue (s : State) (o : Order) : State :=
  if s.lsi.orders.length < Config.orderQueueSize then s.setOrders (s.lsi.orders ++ [o])
  else if s.running then s.setOrderLosses (satUp 255 s.lsi.orderLosses)
  else s

/-- One more scan error (R4, R6). -/
def scanError (s : State) : State := s.setScanErrors (satUp 65535 s.lsi.scanErrors)

/-! ## Junctors (8.3) -/

/-- A junctor is freed into holdoff; a junctor that is not BOUND is left as it was (R137). -/
def freeJunctor (s : State) (j : Junctor) : State :=
  match s.sps.junctors[j] with
  | .bound _ =>
    (s.setJunctor j (.holdoff (deadline s.now s.items.junctorHoldoff))).setHoldoffOrder (s.sps.holdoffOrder ++ [j])
  | _ => s

/-- The holdoff of junctor `j` has been reached (R137, R3). -/
def holdoffReached (s : State) (j : Junctor) : Bool :=
  match s.sps.junctors[j] with
  | .holdoff u => u == s.now
  | _ => false

/-- Every HOLDOFF junctor whose until stamp is reached becomes FREE, in holdoff order, at the tail of the free order
(R137). -/
def endHoldoffs (s : State) : State :=
  let freed := s.sps.holdoffOrder.filter s.holdoffReached
  let s1 := freed.foldl (fun u j => u.setJunctor j .free) s
  (s1.setHoldoffOrder (s.sps.holdoffOrder.filter fun j => !s.holdoffReached j)).setFreeOrder (s.sps.freeOrder ++ freed)

/-! ## The transmit queue (9.3) -/

/-- A frame is given to the PLC: it joins the tail, or is dropped and counted where 8 frames stand (R146). -/
def give (s : State) (dest : Station) (payload : Payload) : State :=
  if s.plc.frames < Config.txQueueSize then
    s.setPlc { s.plc with queue := s.plc.queue ++ [⟨.frame ⟨dest, payload⟩, 0⟩] }
  else s.setPlc { s.plc with txqDrop := satUp 65535 s.plc.txqDrop }

/-- The PVT asks for a notice (R147). -/
def requestNotice (s : State) : State :=
  match s.plc.placeholder with
  | .absent => s.setPlc { s.plc with queue := s.plc.queue ++ [⟨.notice, 0⟩] }
  | .waiting => s
  | .sending => s.setPlc { s.plc with renew := true }

/-! ## Call records -/

/-- The fields of the call on `t` are changed; a FREE record stays FREE. -/
def modifyCall (s : State) (t : Trunk) (f : CallBody → CallBody) : State :=
  s.setCall t { s.cqm.calls[t] with body := (s.call t).map f }

/-- The call on `t` changes its state (R26, R27). -/
def setPhase (s : State) (t : Trunk) (p : CallPhase) : State := s.modifyCall t fun b => { b with phase := p }

/-- The record on `t` stands ahead of the record on `u` (R24). -/
def standsAhead (s : State) (t u : Trunk) : Bool :=
  match s.call t, s.call u with
  | some a, some b => s.ahead t a u b
  | _, _ => false

/-- Trunk `t` is inserted in the list of queue `q` at the place that the three keys give it (R24). -/
def insertCall (s : State) (q : QueueNo) (t : Trunk) : State :=
  let list := s.cqm.lists[q]
  s.setList q (list.takeWhile (fun u => !s.standsAhead t u) ++ t :: list.dropWhile fun u => !s.standsAhead t u)

/-- Trunk `t` is removed from the list of queue `q` (R24). -/
def removeCall (s : State) (q : QueueNo) (t : Trunk) : State := s.setList q (s.cqm.lists[q].erase t)

/-! ## Hold fields and the waiting list (Section 7) -/

/-- Next-due for a call of queue `q` counted from now: NEVER where ANN_INTERVAL is 0 (R115, R120, R122). -/
def freshDue (s : State) (q : QueueNo) : NextDue :=
  if (s.queueItems q).annInterval = 0 then .never else .at (deadline s.now (s.queueItems q).annInterval)

/-- The entry of trunk `t` leaves the waiting list and its waiting flag is cleared (R118). -/
def removeEntry (s : State) (t : Trunk) : State :=
  (s.setWaiting (s.htu.waiting.filter fun e => e.trunk ≠ t)).modifyCall t fun b => { b with waiting := false }

/-- An entry of trunk `t` with a clip joins the tail of the waiting list and the waiting flag is set (R118). -/
def joinWaiting (s : State) (t : Trunk) (clip : Clip) : State :=
  (s.setWaiting (s.htu.waiting ++ [⟨t, clip⟩])).modifyCall t fun b => { b with waiting := true }

/-- The source of the call on `t` becomes M[programme] (R115, R123, R126). -/
def sourceToMusic (s : State) (t : Trunk) : State :=
  s.modifyCall t fun b => { b with source := some (musicChannel b.programme) }

/-- The source of the call on `t` becomes none (R123, R124). -/
def sourceToNone (s : State) (t : Trunk) : State := s.modifyCall t fun b => { b with source := none }

/-! ## Agents -/

/-- The duty of a signed-on agent changes. -/
def setDuty (s : State) (p : Position) (d : Duty) : State :=
  s.setAgent p { s.dsu.agents[p] with post := s.dsu.agents[p].post.map fun x => { x with duty := d } }

/-- The pending action of an agent changes (R42). -/
def setPendingAction (s : State) (p : Position) (a : PendingAction) : State :=
  s.setAgent p { s.dsu.agents[p] with pendingAction := a }

/-- An agent leaves the idle list (R47). -/
def leaveIdle (s : State) (p : Position) : State := s.setIdleList (s.dsu.idleList.erase p)

/-- The agent goes to NOT_READY, out of the idle list, its pending action cleared (R42, R47). -/
def toNotReady (s : State) (p : Position) : State := ((s.leaveIdle p).setDuty p .notReady).setPendingAction p .none

/-- The agent goes to SIGNED_OFF: no profile, out of the idle list, its pending action cleared (R42, R51). -/
def toSignedOff (s : State) (p : Position) : State :=
  let u := s.leaveIdle p
  u.setAgent p { u.dsu.agents[p] with post := none, pendingAction := .none }

/-- The agent who is given up on goes to NOT_READY, or to SIGNED_OFF if that is pending (R54, R61). -/
def outOfService (s : State) (p : Position) : State :=
  match s.dsu.agents[p].pendingAction with
  | .signOff => s.toSignedOff p
  | _ => s.toNotReady p

/-- The agent is rung for a bound call: out of the idle list, ALERTING with its ring deadline, RING issued (R59, R63). -/
def ringAgent (s : State) (p : Position) (bound : Bound) : State :=
  ((s.leaveIdle p).setDuty p (.alerting bound (deadline s.now s.items.ringLimit))).issue (.ring p)

/-- The agent at `p` is rung for the QUEUED call on `t`: the record becomes ALERTING, leaves its list, and hears the music
of its programme with no waiting entry (R26, R59, R123). -/
def ringForCall (s : State) (p : Position) (t : Trunk) : State :=
  match s.call t with
  | none => s
  | some b =>
    ((((s.ringAgent p (.call t)).removeCall b.queue t).setPhase t (.alerting p)).removeEntry t).sourceToMusic t

/-- The agent that the POLICY of `q` chooses of the idle set of `q`, and the hunt pointer moved by a CIRCULAR choice
(R57, R58); none where the idle set is empty. -/
def chooseAgent (s : State) (q : QueueNo) : Option (Position × State) :=
  match (s.queueItems q).policy with
  | .longestIdle => (s.dsu.idleList.find? (s.idle q)).map fun p => (p, s)
  | .circular =>
    (((List.finRange 24).map fun i => s.dsu.hunt[q] + i).find? (s.idle q)).map fun p => (p, s.setHunt q (p + 1))

/-- The match attempt for a call that has become QUEUED (R56). -/
def matchCall (s : State) (t : Trunk) : State :=
  match s.call t with
  | none => s
  | some b =>
    match s.chooseAgent b.queue with
    | none => s
    | some (p, u) => u.ringForCall p t

/-- The call that an agent becoming READY takes: the head eligible call of the first queue of its profile, in precedence
order, that has one (R60). -/
def profileWalk (s : State) (p : Position) : Option Trunk :=
  match s.dsu.agents[p].post with
  | none => none
  | some x => (s.profileQueues x.profile).findSome? s.headEligible

/-- The agent becomes READY: it is rung for the call of its profile walk, or stays READY at the tail of the idle list
(R60, R46, R47). Its pending action is cleared (R42). -/
def becomeReady (s : State) (p : Position) : State :=
  let u := s.setPendingAction p .none
  match u.profileWalk p with
  | some t => u.ringForCall p t
  | none => (u.setDuty p (.ready u.now)).setIdleList (u.dsu.idleList.erase p ++ [p])

/-- The agent whose bound call has gone before the answer takes its pending action, or becomes READY (R62, R64). A pending
READY, which no agent holds here, counts as none (assumption 27). -/
def takePending (s : State) (p : Position) : State :=
  match s.dsu.agents[p].pendingAction with
  | .notReady => s.toNotReady p
  | .signOff => s.toSignedOff p
  | .none | .ready => s.becomeReady p

/-- AGENT_STATE for the agent at `p`, where the event that began in `before` leaves it in SIGNED_OFF, NOT_READY or READY
and it was in another state (R65). -/
def reportAgent (s before : State) (p : Position) (cause : AgentCause) : State :=
  let was := before.dsu.agents[p]
  let is := s.dsu.agents[p]
  match is.kind with
  | .signedOff | .notReady | .ready =>
    if was.kind = is.kind then s
    else
      let profile := match is.post with
        | some x => some x.profile
        | none => was.post.map (·.profile)
      s.writeReport (.agentState p was.kind is.kind profile cause)
  | _ => s

/-! ## Estimates: samples and marks (Section 5) -/

/-- What a handle sample adds to AHT16: an eighth of the difference, rounded to nearest, halves away from zero (R85). -/
def smoothed (aht16 sample : Nat) : Nat :=
  if aht16 ≤ 16 * sample then aht16 + (16 * sample - aht16 + 4) / 8 else aht16 - (aht16 - 16 * sample + 4) / 8

/-- A handle sample for queue `q` (R85, R79). -/
def sample (s : State) (q : QueueNo) (n : Nat) : State :=
  s.setEst q { s.est.recs[q] with aht16 := smoothed s.est.recs[q].aht16 n, pendingFlag := true }

/-! ## Wrap-up (Section 4) -/

/-- The destination at expiry (TABLE 4-3). The two cells that cannot occur: assumption 15. -/
def expiryDestination (a : AgentRec) : Destination :=
  match a.pendingAction with
  | .notReady => .notReady
  | .signOff => .signedOff
  | .none | .ready => if a.headset = .present then .ready else .notReady

/-- A wrap-up ends: WRAP_END, then the handle sample, then the agent's change of state (R77, R78, R79, R70). -/
def endWrap (s : State) (p : Position) (w : WrapFields) (by_ : EndedBy) (dest : Destination) : State :=
  let ticks := elapsed w.start s.now
  let u := (s.writeReport (.wrapEnd p w.queue ticks by_)).sample w.queue (clamp16 (w.talk + ticks))
  match dest with
  | .ready => u.becomeReady p
  | .notReady => u.toNotReady p
  | .signedOff => u.toSignedOff p

/-- The agent whose bound call has ended from TALKING enters WRAPUP (R67); with a WRAP_TIME of 0 the wrap-up ends within
the event (R68). -/
def openWrap (s : State) (p : Position) (q : QueueNo) (talk : Nat) : State :=
  let w : WrapFields := {
    queue := q
    start := s.now
    wrapEnd := deadline s.now (s.queueItems q).wrapTime
    minEnd := deadline s.now (s.queueItems q).wrapMin
    extensions := 0
    talk := clamp16 talk }
  let u := s.setDuty p (.wrapup w)
  if (s.queueItems q).wrapTime = 0 then u.endWrap p w .expiry (expiryDestination u.dsu.agents[p]) else u

/-! ## Ends and returns of calls (2.6, 2.7) -/

/-- CLEAR is issued for the trunk, its disconnect filter is cancelled and its filtered loop takes the raw state (R13). -/
def clearTrunk (s : State) (t : Trunk) : State :=
  let u := s.issue (.clear t)
  u.setTrunkSup t { u.lsi.trunks[t] with filtered := u.lsi.trunks[t].raw, filterStart := none }

/-- The CALL_END report of a call that ends now (R39, TABLE 2-3). -/
def callEndReport (s : State) (t : Trunk) (b : CallBody) : Report :=
  let whole (outcome : CallOutcome) (party : Party) : Report :=
    .callEnd t s.cqm.calls[t].gen b.queue outcome (clamp16 (elapsed b.arrival s.now)) 0 party b.recovered
  let answered (outcome : CallOutcome) (answer : Stamp) (party : Party) : Report :=
    .callEnd t s.cqm.calls[t].gen b.queue outcome (clamp16 (elapsed b.arrival answer)) (clamp16 (elapsed answer s.now)) party
      b.recovered
  match b.phase with
  | .queued => whole .abandoned .none
  | .offered _ x _ => whole .abandoned (.peer x)
  | .alerting p => whole .abandoned (.agent p)
  | .talking p a => answered .answeredLocal a (.agent p)
  | .lentAlerting x _ _ => whole .abandoned (.peer x)
  | .lentTalking x _ a => answered .answeredPeer a (.peer x)

/-- What OFFERED and LENT states hold beside the record: the slot becomes FREE and the junctor goes into holdoff
(R29 to R31, R34, R36, R38). -/
def freeOverflow (s : State) (p : CallPhase) : State :=
  match p with
  | .offered o _ j => (s.setSlot o none).freeJunctor j
  | .lentAlerting _ j _ | .lentTalking _ j _ => s.freeJunctor j
  | .queued | .alerting _ | .talking _ _ => s

/-- The end of a call in any state (R33): CLEAR, out of its list and of the waiting list, FREE with its generation kept,
and CALL_END from the record as it stood. -/
def endCall (s : State) (t : Trunk) : State :=
  match s.call t with
  | none => s
  | some b =>
    let u := (((s.clearTrunk t).freeOverflow b.phase).removeCall b.queue t).removeEntry t
    (u.setCall t ⟨u.cqm.calls[t].gen, none⟩).writeReport (s.callEndReport t b)

/-- A return from OFFERED: QUEUED in its place, the slot free, the junctor in holdoff, then the match attempt (R29, R28).
A record in another state is left (R32). -/
def failOffer (s : State) (t : Trunk) : State :=
  match s.call t with
  | some { phase := .offered o x j, .. } =>
    ((s.freeOverflow (.offered o x j)).setPhase t .queued).matchCall t
  | _ => s

/-- A returned call stands in its list again, has its music back, and then its match attempt (R28, R126). -/
def requeue (s : State) (q : QueueNo) (t : Trunk) : State :=
  (((s.insertCall q t).removeEntry t).sourceToMusic t).matchCall t

/-- A return from ALERTING, LENT_ALERTING or LENT_TALKING (R28, R30, R31): the junctor in holdoff, the record QUEUED at the
place its keys give, its music back, then the match attempt. From LENT_TALKING it is a recovery with priority 3 and the
recovered flag. A record in another state is left (R32). -/
def returnCall (s : State) (t : Trunk) : State :=
  match s.call t with
  | none => s
  | some b =>
    match b.phase with
    | .alerting _ | .lentAlerting _ _ _ => ((s.freeOverflow b.phase).setPhase t .queued).requeue b.queue t
    | .lentTalking _ _ _ =>
      ((s.freeOverflow b.phase).modifyCall t fun c => { c with phase := .queued, priority := 3, recovered := true }).requeue
        b.queue t
    | .queued | .offered _ _ _ | .talking _ _ => s

/-- A caller release for trunk `t`, in an event that began in `before` (R34, R35, R36). -/
def callerRelease (s before : State) (t : Trunk) : State :=
  match s.call t with
  | none => s
  | some b =>
    let tag : Tag := ⟨t, s.cqm.calls[t].gen⟩
    match b.phase with
    | .queued => s.endCall t
    | .offered _ x _ => (s.give x (.withdraw tag)).endCall t
    | .alerting p => (((s.issue (.stopRing p)).endCall t).takePending p).reportAgent before p .callGone
    | .talking p a => ((s.endCall t).openWrap p b.queue (elapsed a s.now)).reportAgent before p .wrapEnd
    | .lentAlerting x _ _ | .lentTalking x _ _ => (s.give x (.release tag .callerGone)).endCall t

/-! ## Guests (11.4) -/

/-- The guest record `g` is freed and its agent is dealt with by the agent's state (R176, R64): to WRAPUP from TALKING;
otherwise STOP_RING where it was ringing, and its pending action or READY. No AGENT_STATE is written here. -/
def freeGuest (s : State) (g : GuestNo) : State :=
  match s.ofu.guests[g] with
  | none => s
  | some r =>
    let u := s.setGuest g none
    match s.duty r.agent with
    | some (.talking _) =>
      match r.phase with
      | .talking a => u.openWrap r.agent r.queue (elapsed a s.now)
      | _ => u.openWrap r.agent r.queue 0
    | some (.alerting _ _) => (u.issue (.stopRing r.agent)).takePending r.agent
    | _ => u.takePending r.agent

/-- The cause of the AGENT_STATE report of an agent whose guest has ended (R64, R65, R68). -/
def guestEndCause (before : State) (p : Position) : AgentCause :=
  match before.duty p with
  | some (.talking _) => .wrapEnd
  | _ => .callGone

/-- A guest is released with no frame sent, and its agent's AGENT_STATE is written (R161, R163, R178, R181). -/
def releaseGuest (s before : State) (g : GuestNo) : State :=
  match s.ofu.guests[g] with
  | none => s
  | some r => (s.freeGuest g).reportAgent before r.agent (before.guestEndCause r.agent)

/-! ## The loss of a peer (10.4) -/

/-- The peer that a call record names (TABLE 2-1). -/
def peerOf : CallPhase → Option Station
  | .offered _ x _ | .lentAlerting x _ _ | .lentTalking x _ _ => some x
  | .queued | .alerting _ | .talking _ _ => none

/-- The call on `t` names `x` as its peer. -/
def callNames (s : State) (x : Station) (t : Trunk) : Bool :=
  match s.call t with
  | some b => peerOf b.phase == some x
  | none => false

/-- The call on `t` is OFFERED to `x`. -/
def offeredTo (s : State) (x : Station) (t : Trunk) : Bool :=
  match s.call t with
  | some { phase := .offered _ y _, .. } => y == x
  | _ => false

/-- The guest record `g` is in use with origin `x`. -/
def guestFrom (s : State) (x : Station) (g : GuestNo) : Bool :=
  match s.ofu.guests[g] with
  | some r => r.origin == x
  | none => false

/-- The call on `t` is returned by the rule of its state: R29 from OFFERED, R30 and R31 from a LENT state (R163). -/
def settleCall (s : State) (t : Trunk) : State :=
  match s.call t with
  | some { phase := .offered _ _ _, .. } => s.failOffer t
  | _ => s.returnCall t

/-- The loss handling for station `x` in an event that began in `before` (R163): its calls in trunk order, then its guests
in record order. No frame is sent. -/
def losePeer (s before : State) (x : Station) : State :=
  let u := ((List.finRange 32).filter (s.callNames x)).foldl (fun v t => v.settleCall t) s
  ((List.finRange 16).filter (s.guestFrom x)).foldl (fun v g => v.releaseGuest before g) u

/-- The PEER_STATE report of `x` after a loss found in state `s`, with the three counts of what the loss handling settled,
clamped at 255 (R165, TABLE 13-6). -/
def lossReport (s : State) (x : Station) (after : PeerKind) (cause : PeerCause) (clock : Stamp) : Report :=
  let offers := (List.finRange 32).countP (s.offeredTo x)
  .peerState x .present after cause clock (min offers 255) (min ((List.finRange 32).countP (s.callNames x) - offers) 255)
    (min ((List.finRange 16).countP (s.guestFrom x)) 255)

end State

end Sys2Proof.Machine
end

