-- ==== Sys2Proof/Machine/Playback.lean ====
section
/-! DEFINITION. Section 6 and the announcements of Section 7: loading and starting channels, the fetch arbiter, fetch
completions, block boundaries, segment boundaries, gates and the start check. -/

namespace Sys2Proof.Machine

/-! ## Channel records -/

/-- What a channel holds in LOADING and PLAYING (TABLE 6-2). -/
def ChannelState.run : ChannelState → Option ClipRun
  | .idle => none
  | .loading r => some r
  | .playing r _ => some r

/-- The same state with other contents; IDLE has none. -/
def ChannelState.withRun (c : ChannelState) (r : ClipRun) : ChannelState :=
  match c with
  | .idle => .idle
  | .loading _ => .loading r
  | .playing _ b => .playing r b

/-- The channel requests a fetch (R103). -/
def ChannelRec.requests (r : ChannelRec) : Bool :=
  match r.state.run with
  | none => false
  | some x => x.buffer.length < Config.bufferSize && !x.fetching && 0 < x.remaining

/-- The clip that a channel in LOADING loads. -/
def ChannelRec.loadingClip (r : ChannelRec) : Option Clip :=
  match r.state with
  | .loading x => some x.clip
  | _ => none

/-- The announcement channels in the order in which they are started: A0, A1 (R119). -/
def announcementChannels : List Channel := [0, 1]

/-- What a channel raises when it finishes a block (R110, R111). -/
inductive Raised where
  | nothing | segment | ended
deriving DecidableEq, Repr

/-- A fetched block joins a channel's contents: the tail of the buffer, the mark of the block that empties the clip, the
address one further within its page (R99), one block fewer; a music channel reloads its clip (R105). -/
def ClipRun.addBlock (x : ClipRun) (audio : Audio) (music : Bool) (entry : ClipEntry) : ClipRun :=
  let last := x.remaining ≤ 1
  let y := { x with
    buffer := x.buffer ++ [⟨audio, last⟩]
    fetching := false
    offset := x.offset + 1
    remaining := x.remaining - 1 }
  if last && music then { y with page := entry.page, offset := entry.offset, remaining := entry.length } else y

/-- The finished block raises a segment boundary of a music channel: it was a block of the clip, and the counter reaches
SEG_BLOCKS or the block is the last of the clip (R110). -/
def raisesSegment (segBlocks counter : Nat) : Option Playing → Bool
  | some (.block b) => segBlocks ≤ counter + 1 || b.last
  | _ => false

/-- The segment counter after a finished block: a stall block leaves it, a segment boundary brings it to 0 (R110). -/
def segmentAfter (segBlocks counter : Nat) (finished : Option Playing) : Nat :=
  if raisesSegment segBlocks counter finished then 0
  else
    match finished with
    | some (.block _) => counter + 1
    | _ => counter

/-- The finished block ends the announcement: it carries the last-of-clip mark (R111). -/
def endsAnnouncement : Option Playing → Bool
  | some (.block b) => b.last
  | _ => false

/-- A PLAYING channel's contents, playing block and underrun count after it takes its next block: the oldest of its buffer,
or a stall block and an underrun where the buffer is empty (R108, R109). -/
def takeNext (r : ChannelRec) (x : ClipRun) : ChannelRec :=
  match x.buffer with
  | b :: rest => { r with state := .playing { x with buffer := rest } (some (.block b)) }
  | [] => { r with state := .playing x (some .stall), underruns := satUp 255 r.underruns }

namespace State

/-- The entry of a clip in the clip table (R98). -/
def clipEntry (s : State) (k : Clip) : ClipEntry := s.mpi.image.clips[k]

/-- A clip is loaded into a channel, which enters LOADING (R101, R102). -/
def loadChannel (s : State) (c : Channel) (k : Clip) : State :=
  let e := s.clipEntry k
  let r := s.pbc.channels[c]
  s.setChannel c { r with
    state := .loading ⟨k, e.page, e.offset, e.length, [], 0, false⟩
    startNumber := r.startNumber + 1 }

/-- The fetch arbiter (R104): where the port is free, the first requesting channel in the order A0, A1, M0 to M3 has it, and
the port sends the channel's page and offset to the store. -/
def grant (s : State) : State :=
  match s.pbc.port with
  | some _ => s
  | none =>
    match (List.finRange 6).find? fun c => s.pbc.channels[c].requests with
    | none => s
    | some c =>
      let r := s.pbc.channels[c]
      match r.state.run with
      | none => s
      | some x =>
        (s.setChannel c { r with state := r.state.withRun { x with fetching := true } }).setPort
          (some ⟨c, r.startNumber, x.page, x.offset⟩)

/-- A store fault of a channel: its fault count rises and STORE_FAULT carries the count (R106, R102, R113). -/
def storeFault (s : State) (c : Channel) (k : Clip) (cause : StoreFaultCause) : State :=
  let r := s.pbc.channels[c]
  let n := satUp 255 r.faults
  (s.setChannel c { r with faults := n }).writeReport (.storeFault c k cause n)

/-! ## Announcements (7.4) -/

/-- The trunks of the entries that name a clip, in list order. -/
def waitingFor (s : State) (k : Clip) : List Trunk := (s.htu.waiting.filter fun e => e.clip = k).map (·.trunk)

/-- Every entry that names a clip leaves the waiting list (R120, R121). -/
def dropEntries (s : State) (k : Clip) : State := s.setWaiting (s.htu.waiting.filter fun e => e.clip ≠ k)

/-- A refused start: the entries of the clip leave the list, each call's waiting flag clear and next-due set afresh
(R120). -/
def refuseClip (s : State) (k : Clip) : State :=
  (s.waitingFor k).foldl
    (fun u t => u.modifyCall t fun b => { b with waiting := false, nextDue := u.freshDue b.queue }) (s.dropEntries k)

/-- The gate of a channel that begins to play a clip: the entries of the clip leave the list, and their trunks hear the
channel (R121). -/
def closeGate (s : State) (c : Channel) (k : Clip) : State :=
  (s.waitingFor k).foldl
    (fun u t => u.modifyCall t fun b => { b with waiting := false, source := some c }) (s.dropEntries k)

/-- The HTU starts an IDLE announcement channel with a clip: it is loaded, or refused where the clip's entry is invalid
(R102, R120). -/
def startAnnouncement (s : State) (c : Channel) (k : Clip) : State :=
  if (s.clipEntry k).valid then s.loadChannel c k else (s.storeFault c k .invalidClip).refuseClip k

/-- The oldest entry whose clip no announcement channel is loading (R119). -/
def startable (s : State) : Option WaitEntry :=
  s.htu.waiting.find? fun e => !announcementChannels.any fun c => s.pbc.channels[c].loadingClip == some e.clip

/-- The lowest-numbered IDLE announcement channel (R119). -/
def idleAnnouncement (s : State) : Option Channel :=
  announcementChannels.find? fun c => s.pbc.channels[c].state == .idle

/-- The start check, repeated until no channel is IDLE or no entry qualifies (R119). Each turn loads one of two channels or
removes one of at most 32 entries, so `fuel` 35 is never used up. -/
def startCheck (fuel : Nat) (s : State) : State :=
  match fuel with
  | 0 => s
  | n + 1 =>
    match s.startable, s.idleAnnouncement with
    | some e, some c => (s.startAnnouncement c e.clip).startCheck n
    | _, _ => s
termination_by structural fuel

/-- The call on `t`, where it hears announcement channel `c`, returns to music with next-due set afresh (R122). -/
def returnListener (s : State) (c : Channel) (t : Trunk) : State :=
  match s.call t with
  | some b =>
    if b.source = some c then
      s.modifyCall t fun b => { b with source := some (musicChannel b.programme), nextDue := s.freshDue b.queue }
    else s
  | none => s

/-- Every record that hears announcement channel `c` returns to music (R122). -/
def endAnnouncement (s : State) (c : Channel) : State := (List.finRange 32).foldl (fun u t => u.returnListener c t) s

/-- The clip of a periodic announcement: BAND_BASE plus the band of the call's present position, limited to C31 (R117). -/
def bandClip (s : State) (t : Trunk) (q : QueueNo) (base : Clip) : Clip :=
  ⟨min (base.val + s.band q (s.queuePosition q t)) 31, by omega⟩

/-- The call on `t` is taken up at a segment boundary of channel `c`: QUEUED or OFFERED, hearing `c`, not waiting, DUE, and
its queue has BAND_BASE (R117). -/
def takeUp (s : State) (c : Channel) (t : Trunk) : State :=
  match s.call t with
  | none => s
  | some b =>
    match b.phase with
    | .queued | .offered _ _ _ =>
      if b.source = some c && !b.waiting && b.nextDue == .due then
        match (s.queueItems b.queue).bandBase with
        | some base => s.joinWaiting t (s.bandClip t b.queue base)
        | none => s
      else s
    | .alerting _ | .talking _ _ | .lentAlerting _ _ _ | .lentTalking _ _ _ => s

/-- The HTU takes a segment boundary of music channel `c`: the records in trunk order (R117). -/
def segmentBoundary (s : State) (c : Channel) : State := (List.finRange 32).foldl (fun u t => u.takeUp c t) s

/-! ## Block boundaries (6.4) -/

/-- One channel takes a block boundary: it finishes its playing block and takes the next, and tells what it raises (R108 to
R111). A channel in IDLE or LOADING does nothing. -/
def channelBoundary (s : State) (c : Channel) : State × Raised :=
  let r := s.pbc.channels[c]
  match r.state with
  | .playing x b =>
    if isMusic c then
      let seg := s.mpi.image.music[programmeOf c].segBlocks
      (s.setChannel c (takeNext r { x with segment := segmentAfter seg x.segment b }),
        if raisesSegment seg x.segment b then .segment else .nothing)
    else if endsAnnouncement b then (s.setChannel c { r with state := .idle }, .ended)
    else (s.setChannel c (takeNext r x), .nothing)
  | .idle | .loading _ => (s, .nothing)

/-- One channel takes a block boundary and the HTU takes what it raises (R110, R111, R117, R122). -/
def boundaryOf (s : State) (c : Channel) : State :=
  match s.channelBoundary c with
  | (u, .nothing) => u
  | (u, .segment) => u.segmentBoundary c
  | (u, .ended) => u.endAnnouncement c

/-- The event that began in `before` has added an entry to the waiting list or returned an announcement channel to IDLE, so
that its close makes a start check (R119). -/
def wantsStartCheck (s before : State) : Bool :=
  before.htu.waiting.length < s.htu.waiting.length ||
    announcementChannels.any fun c => s.pbc.channels[c].state == .idle && before.pbc.channels[c].state != .idle

/-- The order in which the channels take one boundary: those named first, then the others (assumption 19). -/
def boundaryOrder (order : List Channel) : List Channel :=
  order.eraseDups ++ (List.finRange 6).filter fun c => !order.contains c

/-- What the event of a block boundary does in a PLAYING channel: the boundary itself, then the start check where the event
calls for one (R119), and a grant (R104; assumption 23). -/
def boundaryWork (s : State) (c : Channel) : State :=
  let u := s.boundaryOf c
  (if u.wantsStartCheck s then u.startCheck 35 else u).grant

/-! ## Fetch completions (6.3) -/

/-- A block arrives for channel `c` (R105, R106): it joins the buffer, a LOADING channel enters PLAYING and an announcement
channel's gate closes. -/
def receiveBlock (s : State) (c : Channel) (x : ClipRun) (audio : Audio) : State :=
  let r := s.pbc.channels[c]
  let y := x.addBlock audio (isMusic c) (s.clipEntry x.clip)
  match r.state with
  | .loading _ =>
    let u := s.setChannel c { r with state := .playing y none }
    if isMusic c then u else u.closeGate c x.clip
  | .playing _ b => s.setChannel c { r with state := .playing y b }
  | .idle => s

/-- The fetch in flight completes (R105, R106, R107); then the arbiter grants (R104). Nothing happens where none is. -/
def fetchDone (s : State) (samples : List Byte) (fault : Bool) : State :=
  match s.pbc.port with
  | none => s
  | some f =>
    let u := s.setPort none
    let r := u.pbc.channels[f.channel]
    match r.state.run with
    | none => u.grant
    | some x =>
      if r.startNumber ≠ f.startNumber then u.grant
      else if fault then
        ((u.storeFault f.channel x.clip (.readFault x.page x.offset)).receiveBlock f.channel x .silence).grant
      else (u.receiveBlock f.channel x (.samples samples)).grant

end State

end Sys2Proof.Machine
end

