-- ==== Sys2Proof/Machine/Event.lean ====
section
/-! DEFINITION. The close of an event: what the EST, the PVT and the PLC do with the difference that the event has made, and
the values that follow the records (the connection map and the ATTN line). -/

namespace Sys2Proof.Machine

namespace State

/-! ## EST (5.3, 5.4) -/

/-- The divider, standing free, begins the division of the lowest pending queue with a snapshot of its inputs (R88). -/
def beginDivision (s : State) : State :=
  match s.est.inFlight with
  | some _ => s
  | none =>
    match (List.finRange 8).find? fun q => s.est.recs[q].pendingFlag with
    | none => s
    | some q =>
      let r := s.est.recs[q]
      (s.setEst q { r with pendingFlag := false }).setInFlight (some ⟨q, r.aht16, s.staffedCount q⟩)

/-- Every queue whose N has changed between the start and the close of the event is marked pending (R45, R86). -/
def markStaffing (s before : State) : State :=
  (List.finRange 8).foldl
    (fun u q =>
      if s.staffedCount q = before.staffedCount q then u else u.setEst q { u.est.recs[q] with pendingFlag := true }) s

/-- The division in flight is abandoned where its inputs differ from its snapshot (R91). -/
def abandonStale (s : State) : State :=
  match s.est.inFlight with
  | none => s
  | some d =>
    let r := s.est.recs[d.queue]
    if r.aht16 = d.aht16 && s.staffedCount d.queue = d.staffed then s
    else (s.setEst d.queue { r with pendingFlag := true, restarts := satUp 65535 r.restarts }).setInFlight none

/-- The EST at the close of an event (R86, R88, R91). -/
def closeEst (s before : State) : State := (s.markStaffing before).abandonStale.beginDivision

/-- The division in flight completes and publishes (R90). -/
def completeDivision (s : State) : State :=
  match s.est.inFlight with
  | none => s
  | some d =>
    (s.setEst d.queue { s.est.recs[d.queue] with step := d.aht16 * 256 / max d.staffed 1, nUsed := d.staffed }).setInFlight
      none

/-! ## PVT: crossings (R158) and notices (R156) -/

/-- Some idle count, or the room, has crossed between 0 and a value above 0 (R158). -/
def crossed (s before : State) : Bool :=
  (List.finRange 8).any (fun q => (s.idleSet q).isEmpty != (before.idleSet q).isEmpty) ||
    (s.room == 0) != (before.room == 0)

/-- One request for all the crossings of the event (R158). -/
def askOnCrossing (s before : State) : State := if s.crossed before then s.requestNotice else s

/-- This station's junctor map as a notice carries it: the peer of each BOUND junctor's record (R138). -/
def junctorMap (s : State) : Vector (Option Station) 8 :=
  Vector.ofFn fun j =>
    match s.sps.junctors[j] with
    | .bound t => (s.call t).bind fun b => peerOf b.phase
    | _ => none

/-- The contents of a notice built now (R156). -/
def buildNotice (s : State) : Notice where
  clock := s.now
  room := min s.room 15
  idle := Vector.ofFn fun q => min (s.idleSet q).length 15
  band := Vector.ofFn fun q => s.band q (s.cqm.lists[q].length + 1)
  map := s.junctorMap

/-! ## PLC: the beginning of an attempt (R149) -/

/-- The idle time that an entry's next attempt calls for (R149, R151). -/
def idleNeeded (s : State) (e : TxEntry) : Nat :=
  if e.tries = 0 then 2 else 1 + (5 * s.mpi.station.val + 3 * e.tries) % 16

/-- The place in the queue of the frame that begins: the one that awaits its retry, else the first that is not a held
placeholder (R148, R149, R151). The hold is judged by the clock as it stands, within a tick by the advanced one
(assumption 35). -/
def beginPlace (s : State) : Option Nat :=
  match s.plc.queue.findIdx? fun e => 0 < e.tries with
  | some i => some i
  | none => s.plc.queue.findIdx? fun e => e.isFrame || !s.noticeHeld

/-- The characters of an attempt of an entry; a notice is built now (R149, R156). -/
def attemptChars (s : State) (e : TxEntry) : List Byte :=
  match e.body with
  | .frame f => frameChars s.mpi.station f
  | .notice => frameChars s.mpi.station ⟨s.mpi.station, .avail s.buildNotice⟩

/-- An attempt begins, in RUN, where none is under way, an entry may begin, and the bus has been idle for the time that it
needs (R149, R153). Its first character is a marked one on the bus (R140, R141). -/
def beginAttempt (s : State) : State :=
  if s.running && s.plc.attempt.isNone then
    match s.beginPlace with
    | none => s
    | some i =>
      match s.plc.queue[i]? with
      | none => s
      | some e =>
        if s.idleNeeded e ≤ s.plc.busIdle then
          s.setPlc { s.plc with
            queue := s.plc.queue.set i { e with tries := e.tries + 1 }
            attempt := some (s.attemptChars e)
            busIdle := 0
            onBus := .begun }
        else s
  else s

/-! ## What follows the records -/

/-- The connection map and the ATTN line take the values that the records call for (R130, R191; assumption 25). -/
def refresh (s : State) : State := (s.setMap s.connections).setAttn s.attnLevel

/-- The close of an event that began in `before`. -/
def close (s before : State) : State := ((s.closeEst before).askOnCrossing before).beginAttempt.refresh

/-- One whole event: its own changes, then its close (1.7.5). -/
def event (s : State) (f : State → State) : State := (f s).close s

end State

end Sys2Proof.Machine
end

