-- ==== Sys2Proof/Machine/Highway.lean ====
section
/-! DEFINITION. R129: what the part sends on each slot of the two highways in the present frame, as functions of the state and
of what it receives in that frame. No row of the table is a frame, so no command calls the samples; the frames that TICK and
BLOCK_BOUNDARY count take up the connection map (assumption 20). -/

namespace Sys2Proof.Machine

namespace State

/-- The sample that channel `c` drives in the present frame: of its playing block, else silence (R100, R129). -/
def channelSample (s : State) (c : Channel) : Byte :=
  match s.pbc.channels[c].state with
  | .playing _ (some (.block ⟨.samples bytes, _⟩)) => bytes.getD s.pbc.blockFrameCount Config.silenceCode
  | _ => Config.silenceCode

/-- The sample of a source, from what is received on the two highways in the same frame; silence where an entry holds none, and
from a junctor slot that no station drives (R129). -/
def sourceSample (s : State) (localIn : List Byte) (junctorIn : List (Option Byte)) : Option PathSource → Byte
  | some (.localSlot n) => localIn.getD n Config.silenceCode
  | some (.channel c) => s.channelSample c
  | some (.junctorSlot n) => (junctorIn.getD n none).getD Config.silenceCode
  | none => Config.silenceCode

/-- What the part sends on a transmit slot of the local highway, from the paths of the present frame (TABLE 8-1, R129). -/
def localOut (s : State) (localIn : List Byte) (junctorIn : List (Option Byte)) (slot : Fin 64) : Byte :=
  let n := slot.val
  if h : n < 32 then s.sourceSample localIn junctorIn s.sps.sending.trunks[n]
  else if h : n < 56 then s.sourceSample localIn junctorIn s.sps.sending.positions[n - 32]
  else if h : n < 60 then s.channelSample ⟨n - 54, by omega⟩
  else if h : n < 62 then s.channelSample ⟨n - 60, by omega⟩
  else Config.silenceCode

/-- The junctor slots that the map has the part drive with the sources that it sends there: the forward slots of its own
junctors and the return slots of its guests' junctors (TABLE 8-2, R133, R134). -/
def junctorDriven (s : State) : List (Nat × PathSource) :=
  (List.finRange 8).filterMap (fun j => (s.sps.map.forward[j]).map fun x => (forwardSlot s.mpi.station j, x)) ++
    (List.finRange 16).filterMap fun g =>
      match s.sps.map.returns[g], s.ofu.guests[g] with
      | some x, some r => some (returnSlot r.origin r.junctor, x)
      | _, _ => none

/-- What the part sends on a transmit slot of the junctor highway, from the paths of the present frame; none where it does not
drive the slot (R129). -/
def junctorOut (s : State) (localIn : List Byte) (junctorIn : List (Option Byte)) (slot : Fin 256) : Option Byte :=
  (s.sps.sending.driven.find? fun e => e.1 = slot.val).map fun e => s.sourceSample localIn junctorIn (some e.2)

/-- The paths of a frame that begins now: the connection map as the events before it have left it (R129). -/
def framePaths (s : State) : FramePaths := ⟨s.sps.map.trunks, s.sps.map.positions, s.junctorDriven⟩

end State

end Sys2Proof.Machine
end

