-- ==== Sys2Proof/Machine/Keys.lean ====
section
/-! DEFINITION. Sections 3 and 4: the seven keys in the seven agent states (TABLE 3-2, TABLE 4-2), headset loss, the ring
deadline and the two deadlines of a wrap-up; and the commands of the deadlines. -/

namespace Sys2Proof.Machine

namespace State

/-- A key is refused: KEY_REFUSED and no change of the record (3.4). -/
def refuseKey (s : State) (p : Position) : State := s.issue (.keyRefused p)

/-! ## Wrap-up times (R69, R3) -/

/-- The minimum end of a wrap-up has been reached (R69, R71). -/
def minReached (s : State) (w : WrapFields) : Bool := elapsed w.start w.minEnd ≤ elapsed w.start s.now

/-- The wrap end has been reached (R69). -/
def wrapReached (s : State) (w : WrapFields) : Bool := elapsed w.start w.wrapEnd ≤ elapsed w.start s.now

/-! ## Keys -/

/-- SIGN_ON (R48). -/
def keySignOn (s : State) (p : Position) (f : ProfileNo) : State :=
  let a := s.dsu.agents[p]
  match a.post with
  | some _ => s.refuseKey p
  | none =>
    if a.headset = .present && !(s.profileQueues f).isEmpty then
      (s.setAgent p { a with post := some ⟨f, .notReady⟩, pendingAction := .none }).reportAgent s p .key
    else s.refuseKey p

/-- READY (R49); in WRAPUP by the WTU (R71). -/
def keyReady (s : State) (p : Position) : State :=
  let a := s.dsu.agents[p]
  match s.duty p with
  | some .notReady =>
    if a.headset = .present then (s.becomeReady p).reportAgent s p .key else s.refuseKey p
  | some (.wrapup w) =>
    if a.headset = .absent then s.refuseKey p
    else if s.minReached w then (s.endWrap p w .readyKey .ready).reportAgent s p .wrapEnd
    else s.setPendingAction p .ready
  | some (.ready _) | some (.reserved _) | some (.alerting _ _) | some (.talking _) | none => s.refuseKey p

/-- NOT_READY (R50); in WRAPUP by the WTU (R73). -/
def keyNotReady (s : State) (p : Position) : State :=
  match s.duty p with
  | some (.ready _) => (s.toNotReady p).reportAgent s p .key
  | some (.reserved _) | some (.alerting _ _) | some (.talking _) => s.setPendingAction p .notReady
  | some (.wrapup w) => (s.endWrap p w .notReadyKey .notReady).reportAgent s p .wrapEnd
  | some .notReady | none => s.refuseKey p

/-- SIGN_OFF (R51, R75). -/
def keySignOff (s : State) (p : Position) : State :=
  match s.duty p with
  | some .notReady | some (.ready _) => (s.toSignedOff p).reportAgent s p .key
  | some (.reserved _) | some (.alerting _ _) | some (.talking _) | some (.wrapup _) => s.setPendingAction p .signOff
  | none => s.refuseKey p

/-- The answer of a guest's agent: the guest TALKING, ANSWERED to its origin (R180). -/
def answerGuest (s : State) (g : GuestNo) : State :=
  match s.ofu.guests[g] with
  | none => s
  | some r => (s.setGuest g (some { r with phase := .talking s.now })).give r.origin (.answered r.tag)

/-- ANSWER (R52, R26, R123, R180). -/
def keyAnswer (s : State) (p : Position) : State :=
  match s.duty p with
  | some (.alerting (.call t) _) =>
    ((s.setDuty p (.talking (.call t))).setPhase t (.talking p s.now)).sourceToNone t
  | some (.alerting (.guest g) _) => (s.setDuty p (.talking (.guest g))).answerGuest g
  | some .notReady | some (.ready _) | some (.reserved _) | some (.talking _) | some (.wrapup _) | none => s.refuseKey p

/-- The talk ticks of the call on `t`: from its answer stamp to now (R62, R67). -/
def talkTicks (s : State) (t : Trunk) : Nat :=
  match s.call t with
  | some { phase := .talking _ a, .. } => elapsed a s.now
  | _ => 0

/-- The agent at `p` ends the local call on `t`: the call's end, then WRAPUP for its queue (R37, R62). -/
def releaseCall (s : State) (p : Position) (t : Trunk) : State :=
  match s.call t with
  | none => s
  | some b => ((s.endCall t).openWrap p b.queue (s.talkTicks t)).reportAgent s p .wrapEnd

/-- The agent ends its guest: RELEASE AGENT_DONE to the origin, the guest freed, WRAPUP for its queue (R53, R180). -/
def releaseByAgent (s : State) (g : GuestNo) : State :=
  match s.ofu.guests[g] with
  | none => s
  | some r => ((s.give r.origin (.release r.tag .agentDone)).freeGuest g).reportAgent s r.agent .wrapEnd

/-- RELEASE (R53). -/
def keyRelease (s : State) (p : Position) : State :=
  match s.duty p with
  | some (.talking (.call t)) => s.releaseCall p t
  | some (.talking (.guest g)) => s.releaseByAgent g
  | some .notReady | some (.ready _) | some (.reserved _) | some (.alerting _ _) | some (.wrapup _) | none => s.refuseKey p

/-- A pending READY is cleared; any other pending action is kept (R74). -/
def clearPendingReady : PendingAction → PendingAction
  | .ready => .none
  | .none => .none
  | .notReady => .notReady
  | .signOff => .signOff

/-- MORE_TIME (R74). -/
def keyMoreTime (s : State) (p : Position) : State :=
  match s.duty p with
  | some (.wrapup w) =>
    if w.extensions < Config.extensionLimit then
      let w' := { w with
        wrapEnd := deadline w.wrapEnd (s.queueItems w.queue).wrapExt
        extensions := w.extensions + 1 }
      (s.setDuty p (.wrapup w')).setPendingAction p (clearPendingReady s.dsu.agents[p].pendingAction)
    else s.refuseKey p
  | some .notReady | some (.ready _) | some (.reserved _) | some (.alerting _ _) | some (.talking _) | none => s.refuseKey p

/-! ## Headset loss (R54, R76) -/

/-- The pending action that a headset loss sets (R42, R76). -/
def lossPending : PendingAction → PendingAction
  | .signOff => .signOff
  | .none | .ready | .notReady => .notReady

/-- A guest whose agent is lost or does not answer: BOUNCE to the origin and the guest record freed; the agent is dealt with
by its own rule (R54, R61, R180). -/
def bounceGuest (s : State) (g : GuestNo) (cause : BounceCause) : State :=
  match s.ofu.guests[g] with
  | none => s
  | some r => (s.give r.origin (.bounce r.tag cause)).setGuest g none

/-- The agent at `p`, who is being rung for `bound`, is given up: STOP_RING, the agent out of service with its AGENT_STATE,
then the call back to its queue or the guest bounced (R54, R61, R30). -/
def giveUp (s before : State) (p : Position) (bound : Bound) (cause : AgentCause) (bounce : BounceCause) : State :=
  let u := ((s.issue (.stopRing p)).outOfService p).reportAgent before p cause
  match bound with
  | .call t => u.returnCall t
  | .guest g => u.bounceGuest g bounce

/-- A headset loss at `p` in an event that began in `before` (R54, TABLE 3-3). -/
def headsetLoss (s before : State) (p : Position) : State :=
  let a := s.dsu.agents[p]
  let u := s.setAgent p { a with headset := .absent }
  match s.duty p with
  | none | some .notReady => u
  | some (.ready _) => (u.toNotReady p).reportAgent before p .headsetLoss
  | some (.reserved g) => ((u.outOfService p).reportAgent before p .headsetLoss).bounceGuest g .agentLost
  | some (.alerting bound _) => u.giveUp before p bound .headsetLoss .agentLost
  | some (.talking _) | some (.wrapup _) => u.setPendingAction p (lossPending a.pendingAction)

/-! ## Deadlines -/

/-- The ring deadline of the agent at `p` is reached (R61, R3). -/
def ringReached (s : State) (p : Position) : Bool :=
  match s.duty p with
  | some (.alerting _ d) => d == s.now
  | _ => false

/-- The ring is given up as no answer (R61). -/
def ringExpiry (s : State) (p : Position) : State :=
  match s.duty p with
  | some (.alerting bound _) => s.giveUp s p bound .noAnswer .noAnswer
  | _ => s

/-- The minimum end of the agent's wrap-up is reached with a pending READY (R69, R72). -/
def readyAtMinReached (s : State) (p : Position) : Bool :=
  match s.duty p with
  | some (.wrapup w) => s.dsu.agents[p].pendingAction == .ready && s.minReached w
  | _ => false

/-- The wrap-up ends into READY at its minimum (R72). -/
def readyAtMin (s : State) (p : Position) : State :=
  match s.duty p with
  | some (.wrapup w) => (s.endWrap p w .readyAtMin .ready).reportAgent s p .wrapEnd
  | _ => s

/-- The wrap end is reached, and R72 does not end the wrap-up first (R69). -/
def wrapExpiryReached (s : State) (p : Position) : Bool :=
  match s.duty p with
  | some (.wrapup w) => !s.readyAtMinReached p && s.wrapReached w
  | _ => false

/-- The wrap-up expires (R69, R70). -/
def wrapExpiry (s : State) (p : Position) : State :=
  match s.duty p with
  | some (.wrapup w) => (s.endWrap p w .expiry (expiryDestination s.dsu.agents[p])).reportAgent s p .wrapEnd
  | _ => s

end State

/-! ## The commands -/

/-- RING_DEADLINE (R61) of position `p`, where it is reached. -/
def execRingDeadline (p : Position) (s : State) : Host.Outcome State Fault Refusal :=
  .next (if s.ringReached p then s.event (·.ringExpiry p) else s)

/-- WRAP_EXPIRY (R69) of position `p`, where the wrap end is reached. -/
def execWrapExpiry (p : Position) (s : State) : Host.Outcome State Fault Refusal :=
  .next (if s.wrapExpiryReached p then s.event (·.wrapExpiry p) else s)

/-- READY_AT_MIN (R72) of position `p`, where the minimum end is reached with a pending READY. -/
def execReadyAtMin (p : Position) (s : State) : Host.Outcome State Fault Refusal :=
  .next (if s.readyAtMinReached p then s.event (·.readyAtMin p) else s)

end Sys2Proof.Machine
end

