-- ==== Sys2Proof/Machine/Operands.lean ====
section
/-! DEFINITION. What arrives: the bytes of the scan link put together into characters (R194), and the received frame tested
by the address filter and the checks (R141 to R143), with the echo examination. -/

namespace Sys2Proof.Machine

/-! ## Scan link reception (R194) -/

/-- What one received byte brings: nothing yet, a byte or character that cannot be decoded, or a character. -/
inductive ScanResult where
  | more
  | undecodable
  | char (c : ScanChar)
deriving DecidableEq, Repr

/-- A complete character: decoded, or undecodable (R194). -/
def scanComplete (chars : List Byte) : ScanResult :=
  match readScan chars with
  | some c => .char c
  | none => .undecodable

/-- One received byte: the bytes of the open character after it, and what it brings. A byte is the first of a character
where none is open; one that opens none is undecodable alone (R194). -/
def scanByte (opened : List Byte) (b : Byte) : List Byte × ScanResult :=
  match opened with
  | [] =>
    match scanLength b with
    | none => ([], .undecodable)
    | some _ => ([b], .more)
  | first :: _ =>
    let chars := opened ++ [b]
    match scanLength first with
    | none => ([], .undecodable)
    | some n => if n ≤ chars.length then ([], scanComplete chars) else (chars, .more)

/-! ## Frame reception (9.2) -/

/-- What the receive side finds of a frame at its end (R141 to R143). -/
inductive RxResult where
  /-- Not for this station: skipped, neither checked nor counted (R141). -/
  | skipped
  | lengthError
  | crcError
  /-- This station's own echo (R143). -/
  | echo
  /-- Another station with this station's number (R143). -/
  | clash
  | deliver (source : Station) (payload : Payload)
deriving DecidableEq, Repr

/-- The address filter over a first character (R141). -/
def addressed (station : Station) (head : Byte) : Bool := broadcastFlag head || destination head == station.val

/-- A frame's characters taken through the filter, the checks and the echo examination (R141, R142, R143). -/
def receive (station : Station) (echo : Option (List Byte)) (chars : List Byte) (damaged : Bool) : RxResult :=
  match chars with
  | [] => .skipped
  | head :: _ =>
    if !addressed station head then .skipped
    else
      match checkFrame chars damaged with
      | .lengthError => .lengthError
      | .crcError => .crcError
      | .good source payload =>
        if source = station then (if echo = some chars then .echo else .clash) else .deliver source payload

end Sys2Proof.Machine
end

