-- ==== Sys2Proof/Machine/Lines.lean ====
section
/-! DEFINITION. Sections 1 to 2 from the scan link: what each character does in each mode, the filters and the end of the
start sweep, the order that has been sent; and the commands that bring them. -/

namespace Sys2Proof.Machine

namespace State

/-! ## Seizures (2.3) -/

/-- The trunk's loop is recorded as CLOSED and its reported mark set (R7). -/
def loopSeized (s : State) (t : Trunk) : State :=
  s.setTrunkSup t { s.lsi.trunks[t] with raw := .closed, filtered := .closed, reported := true }

/-- A seizure is admitted under a valid service entry (R21, R115): the record QUEUED under the next generation, in its
place in the list, its music and any initial entry, then the match attempt; and the start check where an entry was added
(R119). -/
def admitSeize (s : State) (t : Trunk) (e : ServiceEntry) : State :=
  let body : CallBody := {
    phase := .queued
    queue := e.queue
    priority := e.priority
    programme := e.programme
    arrival := s.now
    recovered := false
    source := some (musicChannel e.programme)
    nextDue := s.freshDue e.queue
    waiting := false }
  let u := (s.setCall t ⟨s.cqm.calls[t].gen + 1, some body⟩).insertCall e.queue t
  match (s.queueItems e.queue).initialClip with
  | none => u.matchCall t
  | some k => (((u.joinWaiting t k).matchCall t).startCheck 35).grant

/-- A SEIZE in RUN: ignored and counted, refused, or admitted (R7, R21, R22, R23). -/
def takeSeize (s : State) (t : Trunk) (code : Fin 64) : State :=
  match s.call t with
  | some _ => s.scanError
  | none =>
    let e := s.mpi.image.services[code]
    if !e.valid then (s.issue (.reject t)).loopSeized t
    else if (s.queueItems e.queue).depthLimit ≤ s.cqm.lists[e.queue].length then
      ((s.issue (.reject t)).writeReport
        (.callEnd t s.cqm.calls[t].gen e.queue .rejected 0 0 .none false)).loopSeized t
    else (s.admitSeize t e).loopSeized t

/-! ## Loop and headset characters (1.4, 1.6) -/

/-- A LOOP for a trunk, of which `free` tells that its record is FREE: what the supervision record becomes (TABLE 1-8). -/
def loopTaken (x : TrunkSup) (free : Bool) (r : LoopState) (now : Stamp) : TrunkSup :=
  if x.raw = r then { x with reported := true }
  else if free then { x with raw := r, filtered := r, reported := true }
  else
    match r with
    | .opened =>
      if x.filtered = .closed && x.filterStart.isNone then
        { x with raw := .opened, filterStart := some now, reported := true }
      else { x with raw := .opened, reported := true }
    | .closed =>
      if x.filterStart.isSome then { x with raw := .closed, filterStart := none, reported := true }
      else { x with raw := .closed, filtered := .closed, reported := true }

/-- A LOOP in RUN: a first report while the sweep lasts and the mark is clear (R15), else by TABLE 1-8 (R9). -/
def takeLoop (s : State) (r : LoopState) (t : Trunk) : State :=
  let x := s.lsi.trunks[t]
  if s.lsi.unreported && !x.reported then s.setTrunkSup t ⟨r, r, none, true⟩
  else s.setTrunkSup t (loopTaken x (s.call t).isNone r s.now)

/-- The DSU takes a headset return: the flag only (R55). -/
def headsetReturn (s : State) (p : Position) : State := s.setAgent p { s.dsu.agents[p] with headset := .present }

/-- A HEADSET in RUN: a first report while the sweep lasts and the mark is clear (R15), else by TABLE 1-9 (R11). -/
def takeHeadset (s : State) (r : HeadsetState) (p : Position) : State :=
  let x := s.lsi.positions[p]
  if s.lsi.unreported && !x.reported then
    let u := s.setPositionSup p ⟨r, r, none, true⟩
    match r with
    | .present => u.headsetReturn p
    | .absent => u
  else if x.raw = r then s.setPositionSup p { x with reported := true }
  else
    match r with
    | .absent =>
      if x.filtered = .present && x.filterStart.isNone then
        s.setPositionSup p { x with raw := .absent, filterStart := some s.now, reported := true }
      else s.setPositionSup p { x with raw := .absent, reported := true }
    | .present =>
      if x.filterStart.isSome then
        s.setPositionSup p { x with raw := .present, filterStart := none, reported := true }
      else
        (s.setPositionSup p { x with raw := .present, filtered := .present, reported := true }).headsetReturn p

/-! ## Characters (1.3) -/

/-- A decoded character in CONFIG: seizures and keys are refused, the others dropped (R5). -/
def takeCharConfig (s : State) : ScanChar → State
  | .seize t _ => s.issue (.reject t)
  | .key _ _ p => s.issue (.keyRefused p)
  | .loop _ _ | .headset _ _ => s

/-- A decoded character in RUN (R7, R8, R9, R11). -/
def takeCharRun (s : State) : ScanChar → State
  | .seize t code => s.takeSeize t code
  | .loop r t => s.takeLoop r t
  | .headset r p => s.takeHeadset r p
  | .key .signOn f p => s.keySignOn p f
  | .key .ready _ p => s.keyReady p
  | .key .notReady _ p => s.keyNotReady p
  | .key .signOff _ p => s.keySignOff p
  | .key .answer _ p => s.keyAnswer p
  | .key .release _ p => s.keyRelease p
  | .key .moreTime _ p => s.keyMoreTime p

/-- What a received byte brings, taken in the present mode (R5, R6). -/
def takeScan (s : State) : ScanResult → State
  | .more => s
  | .undecodable => if s.running then s.scanError else s
  | .char c => if s.running then s.event (·.takeCharRun c) else s.takeCharConfig c

/-- The LSI receives one byte (R194). -/
def scanReceive (s : State) (b : Byte) : State :=
  let r := scanByte s.lsi.scanOpen b
  (s.setScanOpen r.1).takeScan r.2

/-- The LSI receives bytes, one after another. -/
def scanReceiveAll (s : State) (bytes : List Byte) : State := bytes.foldl scanReceive s

/-! ## Filters and the end of the sweep -/

/-- The disconnect filter of trunk `t` has reached DISCONNECT_FILTER (R10). -/
def disconnectReached (s : State) (t : Trunk) : Bool :=
  match s.lsi.trunks[t].filterStart with
  | some a => s.items.disconnectFilter ≤ elapsed a s.now
  | none => false

/-- The disconnect filter ends: the filtered loop OPEN and a caller release to the CQM (R10). -/
def disconnectExpiry (s : State) (t : Trunk) : State :=
  (s.setTrunkSup t { s.lsi.trunks[t] with filtered := .opened, filterStart := none }).callerRelease s t

/-- The headset filter of position `p` has reached HEADSET_FILTER (R12). -/
def headsetReached (s : State) (p : Position) : Bool :=
  match s.lsi.positions[p].filterStart with
  | some a => s.items.headsetFilter ≤ elapsed a s.now
  | none => false

/-- The headset filter ends: the filtered headset ABSENT and a headset loss to the DSU (R12). -/
def headsetExpiry (s : State) (p : Position) : State :=
  (s.setPositionSup p { s.lsi.positions[p] with filtered := .absent, filterStart := none }).headsetLoss s p

/-- The start sweep lasts and the clock has reached 2 (R16). -/
def sweepReached (s : State) : Bool := s.lsi.unreported && s.now == 2

/-- The start sweep ends at the tick: every clear mark is set and counted as a scan error (R16). -/
def endSweep (s : State) : State :=
  let late := (List.finRange 32).countP (fun t => !s.lsi.trunks[t].reported) +
    (List.finRange 24).countP fun p => !s.lsi.positions[p].reported
  { s with lsi := { s.lsi with
      trunks := s.lsi.trunks.map fun x => { x with reported := true }
      positions := s.lsi.positions.map fun x => { x with reported := true }
      scanErrors := min (s.lsi.scanErrors + late) 65535 } }

end State

/-! ## The commands -/

/-- SEIZE (R5, R7, R21 to R23, R194): the character 10H, trunk, service code arrives. -/
def execSeize (trunk code : Byte) (s : State) : Host.Outcome State Fault Refusal :=
  .next (s.scanReceiveAll [0x10, trunk, code])

/-- LOOP (R5, R9, R15, R194): the character 21H or 22H, trunk arrives. -/
def execLoop (state : LoopState) (trunk : Byte) (s : State) : Host.Outcome State Fault Refusal :=
  .next (s.scanReceiveAll [loopCode state, trunk])

/-- HEADSET (R5, R11, R15, R194): the character 31H or 32H, position arrives. -/
def execHeadset (state : HeadsetState) (position : Byte) (s : State) : Host.Outcome State Fault Refusal :=
  .next (s.scanReceiveAll [headsetCode state, position])

/-- SCAN_BYTE_UNDECODABLE (R6, R194): bytes arrive that are no character. -/
def execScanByteUndecodable (bytes : List Byte) (s : State) : Host.Outcome State Fault Refusal :=
  .next (s.scanReceiveAll bytes)

/-- SIGN_ON_KEY (R48): the KEY character with key 1 arrives. -/
def execSignOnKey (byte : Byte) (s : State) : Host.Outcome State Fault Refusal :=
  .next (s.scanReceiveAll [keyCode .signOn, byte])

/-- READY_KEY (R49, R71): the KEY character with key 2 arrives. -/
def execReadyKey (byte : Byte) (s : State) : Host.Outcome State Fault Refusal :=
  .next (s.scanReceiveAll [keyCode .ready, byte])

/-- NOT_READY_KEY (R50, R73): the KEY character with key 3 arrives. -/
def execNotReadyKey (byte : Byte) (s : State) : Host.Outcome State Fault Refusal :=
  .next (s.scanReceiveAll [keyCode .notReady, byte])

/-- SIGN_OFF_KEY (R51, R75): the KEY character with key 4 arrives. -/
def execSignOffKey (byte : Byte) (s : State) : Host.Outcome State Fault Refusal :=
  .next (s.scanReceiveAll [keyCode .signOff, byte])

/-- ANSWER_KEY (R52): the KEY character with key 5 arrives. -/
def execAnswerKey (byte : Byte) (s : State) : Host.Outcome State Fault Refusal :=
  .next (s.scanReceiveAll [keyCode .answer, byte])

/-- RELEASE_KEY (R53): the KEY character with key 6 arrives. -/
def execReleaseKey (byte : Byte) (s : State) : Host.Outcome State Fault Refusal :=
  .next (s.scanReceiveAll [keyCode .release, byte])

/-- MORE_TIME_KEY (R74): the KEY character with key 7 arrives. -/
def execMoreTimeKey (byte : Byte) (s : State) : Host.Outcome State Fault Refusal :=
  .next (s.scanReceiveAll [keyCode .moreTime, byte])

/-- ORDER_SENT (R14): the order at the head has been sent and leaves the queue. -/
def execOrderSent (s : State) : Host.Outcome State Fault Refusal := .next (s.setOrders s.lsi.orders.tail)

/-- DISCONNECT_FILTER_EXPIRY (R10) of trunk `t`, where its filter has reached its limit. -/
def execDisconnectFilterExpiry (t : Trunk) (s : State) : Host.Outcome State Fault Refusal :=
  .next (if s.disconnectReached t then s.event (·.disconnectExpiry t) else s)

/-- HEADSET_FILTER_EXPIRY (R12) of position `p`, where its filter has reached its limit. -/
def execHeadsetFilterExpiry (p : Position) (s : State) : Host.Outcome State Fault Refusal :=
  .next (if s.headsetReached p then s.event (·.headsetExpiry p) else s)

/-- START_SWEEP_END (R16), where the sweep lasts at clock 2. -/
def execStartSweepEnd (s : State) : Host.Outcome State Fault Refusal :=
  .next (if s.running && s.sweepReached then s.event (·.endSweep) else s)

end Sys2Proof.Machine
end

