-- ==== Sys2Proof/Machine/Overflow.lean ====
section
/-! DEFINITION. Section 11: the origin's and the host's side of every frame kind, the OFU's three deadlines, the offer scan;
and the commands of the deadlines. -/

namespace Sys2Proof.Machine

namespace State

/-- The tag of the call on `t` (R19). -/
def tagOf (s : State) (t : Trunk) : Tag := ⟨t, s.cqm.calls[t].gen⟩

/-! ## The origin's side (11.3) -/

/-- The call that a frame for the origin side carrying `tag` may match: the record's generation is the tag's (R171). -/
def taggedCall (s : State) (tag : Tag) : Option CallBody :=
  if s.cqm.calls[tag.trunk].gen = tag.gen then s.call tag.trunk else none

/-- A TAKE matches: the OFFERED record names the sender as its peer and holds the frame's junctor (R171). -/
def takeMatches (s : State) (x : Station) (tag : Tag) (j : Junctor) : Bool :=
  match s.taggedCall tag with
  | some { phase := .offered _ y k, .. } => y == x && k == j
  | _ => false

/-- The call on `t` is lent to `x` over `j` (R171, R27, R124): LENT_ALERTING with its deadline, out of its list and the
waiting list, no source, its slot free. -/
def lendCall (s : State) (t : Trunk) (x : Station) (j : Junctor) : State :=
  match s.call t with
  | some { phase := .offered o _ _, queue := q, .. } =>
    ((((s.setSlot o none).removeCall q t).setPhase t (.lentAlerting x j (deadline s.now s.items.lentLimit))).removeEntry
      t).sourceToNone t
  | _ => s

/-- TAKE from `x` (R171). -/
def takeTake (s : State) (x : Station) (tag : Tag) (j : Junctor) : State :=
  if s.takeMatches x tag j then (s.lendCall tag.trunk x j).give x (.connect tag j)
  else s.give x (.release tag .tooLate)

/-- The data of a PRESENT peer entry are changed; another entry is left. -/
def modifyPeer (s : State) (x : Station) (f : PeerData → PeerData) : State :=
  match s.pvt.peers[x] with
  | .present d => s.setPeer x (.present (f d))
  | .unknown | .absent _ _ => s

/-- The PVT marks queue `q` of `x` declined and its viewed idle count 0 (R164). -/
def markDecline (s : State) (x : Station) (q : QueueNo) : State :=
  s.modifyPeer x fun d => { d with decline := d.decline.set q true, idle := d.idle.set q 0 }

/-- The PVT lowers the viewed idle count of queue `q` of `x` by one, unless it is 0 (R164). -/
def lowerView (s : State) (x : Station) (q : QueueNo) : State :=
  s.modifyPeer x fun d => { d with idle := d.idle.set q (d.idle[q] - 1) }

/-- DECLINE from `x` (R172): the offer fails and the view is marked, where it matches. -/
def takeDecline (s : State) (x : Station) (tag : Tag) : State :=
  match s.taggedCall tag with
  | some { phase := .offered _ y _, queue := q, .. } =>
    if y = x then (s.markDecline x q).failOffer tag.trunk else s
  | _ => s

/-- ANSWERED from `x` (R173): LENT_TALKING where it matches, else RELEASE TOO_LATE. -/
def takeAnswered (s : State) (x : Station) (tag : Tag) : State :=
  match s.taggedCall tag with
  | some { phase := .lentAlerting y j _, .. } =>
    if y = x then s.setPhase tag.trunk (.lentTalking y j s.now) else s.give x (.release tag .tooLate)
  | _ => s.give x (.release tag .tooLate)

/-- BOUNCE from `x` (R173): the call returns where it matches. -/
def takeBounce (s : State) (x : Station) (tag : Tag) : State :=
  match s.taggedCall tag with
  | some { phase := .lentAlerting y _ _, .. } => if y = x then s.returnCall tag.trunk else s
  | _ => s

/-- RELEASE AGENT_DONE from `x` (R174, R38): the call ends where it matches. -/
def takeAgentDone (s : State) (x : Station) (tag : Tag) : State :=
  match s.taggedCall tag with
  | some { phase := .lentTalking y _ _, .. } => if y = x then s.endCall tag.trunk else s
  | _ => s

/-! ## The host's side (11.5) -/

/-- The reason for which an offer of queue `q` is declined, the first that applies (R177). -/
def declineReason (s : State) (q : QueueNo) : Option DeclineReason :=
  if s.staffedCount q = 0 then some .notServed
  else if s.items.guestLimit ≤ s.guestsInUse then some .noRoom
  else if (s.idleSet q).isEmpty then some .noAgent
  else none

/-- The lowest-numbered FREE guest record (R177). -/
def freeGuestRecord (s : State) : Option GuestNo := (List.finRange 16).find? fun g => (s.ofu.guests[g]).isNone

/-- The guest of an offer is taken (R177, R63): an agent chosen and RESERVED, the record in WAIT_CONNECT, TAKE given. -/
def hostOffer (s : State) (x : Station) (o : OfferData) : State :=
  match s.freeGuestRecord, s.chooseAgent o.queue with
  | some g, some (p, u) =>
    let r : GuestRec := {
      phase := .waitConnect (deadline s.now s.items.connectLimit)
      origin := x
      tag := o.tag
      junctor := o.junctor
      queue := o.queue
      priority := o.priority
      programme := o.programme
      waited := o.waited
      agent := p }
    (((u.leaveIdle p).setDuty p (.reserved g)).setGuest g (some r)).give x (.take o.tag o.junctor)
  | _, _ => s

/-- OFFER from `x` (R177): a stale guest of the same tag is released, then the offer is declined or taken. The AGENT_STATE of
the stale guest's agent follows at the end of the event, where the agent has not been taken again (assumption 22). -/
def takeOffer (s : State) (x : Station) (o : OfferData) : State :=
  let stale := s.guestNamed x o.tag
  let u := match stale with
    | some g => s.freeGuest g
    | none => s
  let v := match u.declineReason o.queue with
    | some r => u.give x (.decline o.tag r)
    | none => u.hostOffer x o
  match stale.bind fun g => s.ofu.guests[g] with
  | some r => v.reportAgent s r.agent (s.guestEndCause r.agent)
  | none => v

/-- The guest that a CONNECT matches: named by sender and tag, in WAIT_CONNECT, with the frame's junctor (R178). -/
def connectMatch (s : State) (x : Station) (tag : Tag) (j : Junctor) : Option GuestNo :=
  match s.guestNamed x tag with
  | none => none
  | some g =>
    match s.ofu.guests[g] with
    | some { phase := .waitConnect _, junctor := k, .. } => if k = j then some g else none
    | _ => none

/-- Guest record `g` holds junctor `j` of origin `x`: it is ALERTING or TALKING (R176). -/
def guestHolds (s : State) (x : Station) (j : Junctor) (g : GuestNo) : Bool :=
  match s.ofu.guests[g] with
  | some r =>
    r.origin == x && r.junctor == j &&
      match r.phase with
      | .waitConnect _ => false
      | .alerting | .talking _ => true
  | none => false

/-- The matched guest becomes ALERTING and its agent is rung (R178, R63). -/
def connectGuest (s : State) (g : GuestNo) : State :=
  match s.ofu.guests[g] with
  | none => s
  | some r => (s.setGuest g (some { r with phase := .alerting })).ringAgent r.agent (.guest g)

/-- CONNECT from `x` (R178): another guest that holds the junctor is displaced, then the matched guest is rung; without a
match, BOUNCE TOO_LATE. -/
def takeConnect (s : State) (x : Station) (tag : Tag) (j : Junctor) : State :=
  match s.connectMatch x tag j with
  | none => s.give x (.bounce tag .tooLate)
  | some g =>
    let displaced := (List.finRange 16).filter fun h => h != g && s.guestHolds x j h
    (displaced.foldl (fun u h => u.releaseGuest s h) s).connectGuest g

/-- WITHDRAW, or RELEASE with cause CALLER_GONE or TOO_LATE, from `x` (R181): the guest that it names is released. -/
def takeWithdraw (s : State) (x : Station) (tag : Tag) : State :=
  match s.guestNamed x tag with
  | none => s
  | some g => s.releaseGuest s g

/-! ## Deadlines (R168, R172, R174, R179) -/

/-- The offer deadline of a BUSY slot is reached. -/
def offerReached (s : State) (o : SlotNo) : Bool :=
  match s.ofu.slots[o] with
  | some d => d.deadline == s.now
  | none => false

/-- The lowest slot whose offer deadline is reached (R168). -/
def offerDue (s : State) : Option SlotNo := (List.finRange 4).find? s.offerReached

/-- The offer of a slot fails at its deadline (R172). -/
def offerExpiry (s : State) (o : SlotNo) : State :=
  match s.ofu.slots[o] with
  | some d => s.failOffer d.trunk
  | none => s

/-- The lent deadline of a LENT_ALERTING record is reached. -/
def lentReached (s : State) (t : Trunk) : Bool :=
  match s.call t with
  | some { phase := .lentAlerting _ _ d, .. } => d == s.now
  | _ => false

/-- The first trunk whose lent deadline is reached (R168). -/
def lentDue (s : State) : Option Trunk := (List.finRange 32).find? s.lentReached

/-- The lent deadline: WITHDRAW to the peer, then the return (R174). -/
def lentExpiry (s : State) (t : Trunk) : State :=
  match s.call t with
  | some { phase := .lentAlerting x _ _, .. } => (s.give x (.withdraw (s.tagOf t))).returnCall t
  | _ => s

/-- The connect deadline of a guest in WAIT_CONNECT is reached. -/
def connectReached (s : State) (g : GuestNo) : Bool :=
  match s.ofu.guests[g] with
  | some { phase := .waitConnect d, .. } => d == s.now
  | _ => false

/-- The first guest record whose connect deadline is reached (R168). -/
def connectDue (s : State) : Option GuestNo := (List.finRange 16).find? s.connectReached

/-- The connect deadline: BOUNCE NO_CONNECT to the origin, the guest freed, its agent pending or READY (R179). -/
def connectExpiry (s : State) (g : GuestNo) : State :=
  match s.ofu.guests[g] with
  | none => s
  | some r => ((s.give r.origin (.bounce r.tag .noConnect)).freeGuest g).reportAgent s r.agent .callGone

/-! ## The offer scan (R168, R169, R170) -/

/-- The viewed idle count of queue `q` at an eligible peer; none where `x` is not eligible for `q` (R169). -/
def eligibleIdle (s : State) (q : QueueNo) (x : Station) : Option Nat :=
  match s.pvt.peers[x] with
  | .present d => if 1 ≤ d.room && 1 ≤ d.idle[q] && !d.decline[q] then some d.idle[q] else none
  | .unknown | .absent _ _ => none

/-- Of the choice so far and the next peer in cyclic order, the one with the higher viewed idle count; the earlier on a
tie (R169). -/
def betterPeer (s : State) (q : QueueNo) (best : Option Station) (x : Station) : Option Station :=
  match s.eligibleIdle q x with
  | none => best
  | some n =>
    match best.bind fun y => s.eligibleIdle q y with
    | none => some x
    | some m => if m < n then some x else best

/-- The eligible peer chosen for queue `q` (R169): the stations are taken in cyclic order after this one. -/
def choosePeer (s : State) (q : QueueNo) : Option Station :=
  ((List.finRange 16).map fun i => s.mpi.station + 1 + i).foldl (s.betterPeer q) none

/-- A trigger holds for the call on `t`, the head eligible call of `q` (R168). -/
def offerTrigger (s : State) (q : QueueNo) (t : Trunk) (b : CallBody) : Bool :=
  let items := s.queueItems q
  (items.ovfWait != 0 && items.ovfWait ≤ elapsed b.arrival s.now) ||
    (items.ovfBand != 0 && items.ovfBand ≤ s.band q (s.queuePosition q t))

/-- A BUSY slot serves queue `q` (R168). -/
def slotServes (s : State) (q : QueueNo) : Bool :=
  (List.finRange 4).any fun o =>
    match s.ofu.slots[o] with
    | some d => d.queue == q
    | none => false

/-- The lowest-numbered FREE slot (R170). -/
def freeSlot (s : State) : Option SlotNo := (List.finRange 4).find? fun o => (s.ofu.slots[o]).isNone

/-- The offer of the call on `t` to `x` in slot `o` over junctor `j`, the head of the free order (R170, R136, R27, R164). -/
def makeOffer (s : State) (q : QueueNo) (t : Trunk) (b : CallBody) (o : SlotNo) (j : Junctor) (x : Station) : State :=
  let u := ((s.setSlot o (some ⟨t, q, deadline s.now s.items.offerLimit⟩)).setFreeOrder s.sps.freeOrder.tail).setJunctor j
    (.bound t)
  let v := (u.setPhase t (.offered o x j)).give x (.offer {
    tag := s.tagOf t
    queue := q
    priority := b.priority
    programme := b.programme
    junctor := j
    waited := clamp16 (elapsed b.arrival s.now) })
  v.lowerView x q

/-- The scan takes queue `q` (R168). -/
def scanQueue (s : State) (q : QueueNo) : State :=
  if s.slotServes q then s
  else
    match s.headEligible q with
    | none => s
    | some t =>
      match s.call t, s.freeSlot, s.sps.freeOrder.head?, s.choosePeer q with
      | some b, some o, some j, some x =>
        if s.offerTrigger q t b && Config.offerPlaces ≤ s.plc.freePlaces then s.makeOffer q t b o j x else s
      | _, _, _, _ => s

/-- The offer scan: the queues in ascending order, each offer completed before the next (R168). -/
def offerScan (s : State) : State := (List.finRange 8).foldl scanQueue s

end State

/-! ## The commands of the deadlines -/

/-- OFFER_DEADLINE (R172): the lowest slot whose deadline is reached. -/
def execOfferDeadline (s : State) : Host.Outcome State Fault Refusal :=
  match s.offerDue with
  | some o => .next (s.event (·.offerExpiry o))
  | none => .next s

/-- LENT_DEADLINE (R174): the lowest trunk whose deadline is reached. -/
def execLentDeadline (s : State) : Host.Outcome State Fault Refusal :=
  match s.lentDue with
  | some t => .next (s.event (·.lentExpiry t))
  | none => .next s

/-- CONNECT_DEADLINE (R179): the lowest guest record whose deadline is reached. -/
def execConnectDeadline (s : State) : Host.Outcome State Fault Refusal :=
  match s.connectDue with
  | some g => .next (s.event (·.connectExpiry g))
  | none => .next s

end Sys2Proof.Machine
end

