-- ==== Sys2Proof/Machine/Peers.lean ====
section
/-! DEFINITION. Section 10: applying a received notice, guest reconciliation, the presence limit and the period timer; and
the commands of the two timers. -/

namespace Sys2Proof.Machine

/-- The name of a peer entry's state (R155). -/
def PeerEntry.kind : PeerEntry → PeerKind
  | .unknown => .unknown
  | .present _ => .present
  | .absent _ _ => .absent

/-- The data that a notice received at stamp `now` puts into an entry (R160). -/
def Notice.view (n : Notice) (now : Stamp) : PeerData where
  lastClock := n.clock
  lastHeard := now
  room := n.room
  idle := n.idle
  band := n.band
  decline := Vector.replicate 8 false
  map := n.map

namespace State

/-- The notice shows that `x` has restarted: the entry is PRESENT and the clock is lower than its last (R160). -/
def restarted (s : State) (x : Station) (n : Notice) : Bool :=
  match s.pvt.peers[x] with
  | .present d => n.clock.toNat < d.lastClock.toNat
  | .unknown | .absent _ _ => false

/-- Guest record `g` is released by the map of its origin `x`: ALERTING or TALKING, on a junctor that the map shows not
bound to this station (R161). -/
def staleGuest (s : State) (x : Station) (map : Vector (Option Station) 8) (g : GuestNo) : Bool :=
  match s.ofu.guests[g] with
  | some r =>
    r.origin == x && map[r.junctor] != some s.mpi.station &&
      match r.phase with
      | .waitConnect _ => false
      | .alerting | .talking _ => true
  | none => false

/-- Guest reconciliation, the guests in record order (R161). -/
def reconcile (s before : State) (x : Station) (map : Vector (Option Station) 8) : State :=
  ((List.finRange 16).filter (s.staleGuest x map)).foldl (fun u g => u.releaseGuest before g) s

/-- AVAIL from `x` (R160): the loss handling of a restart, the entry, the report, the reconciliation. -/
def takeNotice (s : State) (x : Station) (n : Notice) : State :=
  let was := s.pvt.peers[x]
  let restart := s.restarted x n
  let u := (if restart then s.losePeer s x else s).setPeer x (.present (n.view s.now))
  let v :=
    if restart then u.writeReport (s.lossReport x .present .restart n.clock)
    else
      match was with
      | .present _ => u
      | .unknown | .absent _ _ => u.writeReport (.peerState x was.kind .present .notice n.clock 0 0 0)
  v.reconcile s x n.map

/-- The entry of `x` has not been heard for PRESENCE_LIMIT ticks (R162). -/
def presenceReached (s : State) (x : Station) : Bool :=
  match s.pvt.peers[x] with
  | .present d => s.items.presenceLimit ≤ elapsed d.lastHeard s.now
  | .unknown | .absent _ _ => false

/-- The first station whose presence limit is reached (R162). -/
def presenceDue (s : State) : Option Station := (List.finRange 16).find? s.presenceReached

/-- Presence timeout of `x`: the entry ABSENT, the loss handling, the report (R162, R163). -/
def presenceExpiry (s : State) (x : Station) : State :=
  match s.pvt.peers[x] with
  | .present d =>
    ((s.losePeer s x).setPeer x (.absent d.lastClock d.lastHeard)).writeReport
      (s.lossReport x .absent .timeout d.lastClock)
  | .unknown | .absent _ _ => s

/-- The period timer's deadline is reached (R157). -/
def periodReached (s : State) : Bool := s.pvt.periodDeadline == some s.now

/-- The period timer asks for a notice and reloads itself (R157). -/
def periodExpiry (s : State) : State := s.requestNotice.setPeriod (some (deadline s.now s.items.availPeriod))

end State

/-- AVAIL_PERIOD_EXPIRY (R157), where the deadline is reached. -/
def execAvailPeriodExpiry (s : State) : Host.Outcome State Fault Refusal :=
  .next (if s.periodReached then s.event (·.periodExpiry) else s)

/-- PRESENCE_TIMEOUT (R162): the first station whose limit is reached. -/
def execPresenceTimeout (s : State) : Host.Outcome State Fault Refusal :=
  match s.presenceDue with
  | some x => .next (s.event (·.presenceExpiry x))
  | none => .next s

end Sys2Proof.Machine
end

