-- ==== Sys2Proof/Machine/Link.lean ====
section
/-! DEFINITION. Section 9: the end of attempts, the frames that are received and delivered; and the commands that bring
them. -/

namespace Sys2Proof.Machine

namespace State

/-! ## Attempts (9.4) -/

/-- The entry whose attempts have begun: the one under way or awaiting its retry (R149, R151). -/
def triedEntry (s : State) : Option TxEntry := s.plc.queue.find? fun e => 0 < e.tries

/-- That entry leaves the queue (R151, R152). -/
def dropTried (s : State) : State := s.setPlc { s.plc with queue := s.plc.queue.eraseP fun e => 0 < e.tries }

/-- An OFFER that has been dropped fails, where the record is still OFFERED under it (R175, R151; assumption 14). -/
def failDropped (s : State) (f : Frame) : State :=
  match f.payload with
  | .offer o => if s.takeMatches f.dest o.tag o.junctor then s.failOffer o.tag.trunk else s
  | _ => s

/-- The originator of a dropped entry is told: the PVT asks again, an OFFER fails, nothing else is done (R151, R159,
R175). -/
def tellDropped (s : State) (e : TxEntry) : State :=
  match e.body with
  | .notice => s.requestNotice
  | .frame f => s.failDropped f

/-- The attempt under way is lost (R150, R151): the bus is busy, a notice loses its renew mark, and the eighth loss drops
the entry. -/
def attemptLost (s : State) : State :=
  let u := s.setPlc { s.plc with attempt := none, busIdle := 0 }
  match s.triedEntry with
  | none => u
  | some e =>
    let v := if e.isFrame then u else u.setPlc { u.plc with renew := false }
    if e.tries < Config.attemptLimit then v
    else
      let w := v.dropTried
      (w.setPlc { w.plc with contentionDrop := satUp 65535 w.plc.contentionDrop }).tellDropped e

/-- The attempt under way, of the characters `chars`, completes (R152, R147, R148). -/
def attemptDone (s : State) (chars : List Byte) : State :=
  let u := s.dropTried
  let v := u.setPlc { u.plc with attempt := none, busIdle := 0, echo := some chars }
  match s.triedEntry with
  | none => v
  | some e =>
    if e.isFrame then v
    else
      let w := v.setPlc { v.plc with lastAvail := some s.now, renew := false }
      if s.plc.renew then w.requestNotice else w

/-- The hold of a waiting placeholder has ended (R148). -/
def spacingEnded (s : State) : Bool :=
  match s.plc.lastAvail with
  | some c => Config.availGap ≤ elapsed c s.now && s.plc.placeholder == .waiting
  | none => false

/-! ## Deliveries (R144, TABLE 11-2) -/

/-- A good frame from `x` is delivered. -/
def deliver (s : State) (x : Station) : Payload → State
  | .avail n => s.takeNotice x n
  | .offer o => s.takeOffer x o
  | .take tag j => s.takeTake x tag j
  | .decline tag _ => s.takeDecline x tag
  | .connect tag j => s.takeConnect x tag j
  | .answered tag => s.takeAnswered x tag
  | .bounce tag _ => s.takeBounce x tag
  | .release tag .agentDone => s.takeAgentDone x tag
  | .release tag .callerGone | .release tag .tooLate => s.takeWithdraw x tag
  | .withdraw tag => s.takeWithdraw x tag

/-- What the receive side found of a frame takes effect (R142, R143, R144). -/
def takeRx (s : State) : RxResult → State
  | .skipped | .echo => s
  | .lengthError => s.setPlc { s.plc with lengthErr := satUp 65535 s.plc.lengthErr }
  | .crcError => s.setPlc { s.plc with crcErr := satUp 65535 s.plc.crcErr }
  | .clash => s.setPlc { s.plc with idClash := satUp 65535 s.plc.idClash }
  | .deliver x p => s.deliver x p

/-- What is seen on the bus (R140, R141; assumption 8). A start bit of another station restarts the idle measure, and one of a
marked character begins a frame; two character times of idle bus leave no frame in progress. -/
def busSeen (s : State) : BusSign → State
  | .idle n => s.setPlc { s.plc with busIdle := n, onBus := if 2 ≤ n then .none else s.plc.onBus }
  | .startBit marked => s.setPlc { s.plc with busIdle := 0, onBus := if marked then .begun else s.plc.onBus }

/-- The bus after a frame has ended, and the echo examined with it gone (R140, R141, R143; assumptions 8 and 10): one character
time of idle bus ended it, unless a marked character did, which begins the next frame, or an attempt of this station is under
way. -/
def frameEnds (s : State) (endedByMark : Bool) : State :=
  s.setPlc { s.plc with
    busIdle := if endedByMark || s.plc.attempt.isSome then 0 else 1
    onBus := if endedByMark || s.plc.attempt.isSome then .begun else .none
    echo := none }

/-- A frame ends on the bus. In CONFIG, and where START was taken in the midst of the frame, the measures of the bus are kept and
nothing else is done; otherwise in RUN the frame is taken (R140, R144). -/
def frameReceived (s : State) (chars : List Byte) (damaged endedByMark : Bool) : State :=
  if s.running then
    s.event fun u =>
      let v := u.frameEnds endedByMark
      if u.plc.onBus = .passedOver then v else v.takeRx (receive u.mpi.station u.plc.echo chars damaged)
  else s.frameEnds endedByMark

end State

/-! ## The commands -/

/-- ATTEMPT_BEGIN (R149, R140): the bus is found idle for a number of character times, and what may begin then begins; or
another station's start bit is seen, and nothing may (assumptions 8 and 9). While an attempt is under way the bus is not idle and
nothing begins. -/
def execAttemptBegin (sign : BusSign) (s : State) : Host.Outcome State Fault Refusal :=
  .next
    (if s.plc.attempt.isSome then s
     else if s.running then s.event (·.busSeen sign)
     else s.busSeen sign)

/-- ATTEMPT_LOST (R150, R151), where an attempt is under way. -/
def execAttemptLost (s : State) : Host.Outcome State Fault Refusal :=
  .next (if s.plc.attempt.isSome then s.event (·.attemptLost) else s)

/-- ATTEMPT_COMPLETE (R152), where an attempt is under way. -/
def execAttemptComplete (s : State) : Host.Outcome State Fault Refusal :=
  match s.plc.attempt with
  | some chars => .next (s.event (·.attemptDone chars))
  | none => .next s

/-- AVAIL_SPACING_END (R148), where the spacing of a waiting placeholder has ended: it may begin at the close. -/
def execAvailSpacingEnd (s : State) : Host.Outcome State Fault Refusal :=
  .next (if s.spacingEnded then s.event id else s)

/-- AVAIL (R160): a frame of kind code 1 ends on the bus. -/
def execAvail (f : RxFrame) (s : State) : Host.Outcome State Fault Refusal :=
  .next (s.frameReceived (rxChars .avail f) f.damaged f.endedByMark)

/-- OFFER (R177): a frame of kind code 2. -/
def execOffer (f : RxFrame) (s : State) : Host.Outcome State Fault Refusal :=
  .next (s.frameReceived (rxChars .offer f) f.damaged f.endedByMark)

/-- TAKE (R171): a frame of kind code 3. -/
def execTake (f : RxFrame) (s : State) : Host.Outcome State Fault Refusal :=
  .next (s.frameReceived (rxChars .take f) f.damaged f.endedByMark)

/-- DECLINE (R172): a frame of kind code 4. -/
def execDecline (f : RxFrame) (s : State) : Host.Outcome State Fault Refusal :=
  .next (s.frameReceived (rxChars .decline f) f.damaged f.endedByMark)

/-- CONNECT (R178): a frame of kind code 5. -/
def execConnect (f : RxFrame) (s : State) : Host.Outcome State Fault Refusal :=
  .next (s.frameReceived (rxChars .connect f) f.damaged f.endedByMark)

/-- ANSWERED (R173): a frame of kind code 6. -/
def execAnswered (f : RxFrame) (s : State) : Host.Outcome State Fault Refusal :=
  .next (s.frameReceived (rxChars .answered f) f.damaged f.endedByMark)

/-- BOUNCE (R173): a frame of kind code 7. -/
def execBounce (f : RxFrame) (s : State) : Host.Outcome State Fault Refusal :=
  .next (s.frameReceived (rxChars .bounce f) f.damaged f.endedByMark)

/-- RELEASE with cause AGENT_DONE (R174): a frame of kind code 8; its cause byte dispatches it (assumption 26). -/
def execReleaseAgentDone (f : RxFrame) (s : State) : Host.Outcome State Fault Refusal :=
  .next (s.frameReceived (rxChars .release f) f.damaged f.endedByMark)

/-- RELEASE with cause CALLER_GONE (R181): a frame of kind code 8; its cause byte dispatches it (assumption 26). -/
def execReleaseCallerGone (f : RxFrame) (s : State) : Host.Outcome State Fault Refusal :=
  .next (s.frameReceived (rxChars .release f) f.damaged f.endedByMark)

/-- RELEASE with cause TOO_LATE (R181): a frame of kind code 8; its cause byte dispatches it (assumption 26). -/
def execReleaseTooLate (f : RxFrame) (s : State) : Host.Outcome State Fault Refusal :=
  .next (s.frameReceived (rxChars .release f) f.damaged f.endedByMark)

/-- WITHDRAW (R181): a frame of kind code 9. -/
def execWithdraw (f : RxFrame) (s : State) : Host.Outcome State Fault Refusal :=
  .next (s.frameReceived (rxChars .withdraw f) f.damaged f.endedByMark)

/-- LENGTH_ERROR_FRAME (R142): a frame of which every character is given, its kind included. -/
def execLengthErrorFrame (f : RawFrame) (s : State) : Host.Outcome State Fault Refusal :=
  .next (s.frameReceived (f.head :: f.rest) f.damaged f.endedByMark)

end Sys2Proof.Machine
end

