-- ==== Sys2Proof/Machine/Clock.lean ====
section
/-! DEFINITION. The station clock and what happens by it: next-due values, junctor holdoffs, divisions, fetches, block
boundaries, and the tick with the order in which the blocks take it; and their commands. -/

namespace Sys2Proof.Machine

/-- Next-due becomes DUE where the clock has reached its value (R116). -/
def NextDue.reach (d : NextDue) (now : Stamp) : NextDue :=
  match d with
  | .at a => if a = now then .due else .at a
  | .never => .never
  | .due => .due

namespace State

/-- The next-due value of the call on `t` is reached (R116). -/
def dueReached (s : State) (t : Trunk) : Bool :=
  match s.call t with
  | some b => b.nextDue == .at s.now
  | none => false

/-- Next-due of the call on `t` becomes DUE (R116). -/
def becomeDue (s : State) (t : Trunk) : State := s.modifyCall t fun b => { b with nextDue := b.nextDue.reach s.now }

/-- Some junctor's holdoff is reached (R137). -/
def holdoffDue (s : State) : Bool := s.sps.holdoffOrder.any s.holdoffReached

/-! ## Frame sync pulses (R1, R108, R129) -/

/-- `n` frame sync pulses are counted, each on both counts: a pulse that takes the frame count to 800 sets it to 0 and makes a
tick due, one that takes the block frame count to 256 sets it to 0 and makes a block boundary due, and one pulse can do both
(R1, R108; assumption 7). The frame that the last of them begins takes up the connection map (R129). -/
def countPulses (s : State) (n : Nat) : State :=
  let f := s.clk.frameCount + n
  let b := s.pbc.blockFrameCount + n
  let u := s.setClk { s.clk with
    frameCount := f % Config.framesPerTick
    ticksDue := s.clk.ticksDue + f / Config.framesPerTick }
  let v := (u.setBlockFrame (b % Config.framesPerBlock)).setBoundariesDue
    (s.pbc.boundariesDue + b / Config.framesPerBlock)
  if n = 0 then v else v.setSending s.framePaths

/-- The pulses up to the next tick, none where a tick is due already. -/
def pulsesToTick (s : State) : Nat :=
  if s.clk.ticksDue = 0 then Config.framesPerTick - s.clk.frameCount else 0

/-- The pulses up to the next block boundary, none where a boundary is due already. -/
def pulsesToBoundary (s : State) : Nat :=
  if s.pbc.boundariesDue = 0 then Config.framesPerBlock - s.pbc.blockFrameCount else 0

/-! ## One piece of work at a tick -/

/-- What an event of the tick does where its condition holds; none where it does not. -/
def tickWork (s : State) (e : TickEvent) : Option (State → State) :=
  match e with
  | .disconnectFilter t => if s.disconnectReached t then some (·.disconnectExpiry t) else none
  | .headsetFilter p => if s.headsetReached p then some (·.headsetExpiry p) else none
  | .sweepEnd => if s.sweepReached then some (·.endSweep) else none
  | .ring p => if s.ringReached p then some (·.ringExpiry p) else none
  | .readyAtMin p => if s.readyAtMinReached p then some (·.readyAtMin p) else none
  | .wrapExpiry p => if s.wrapExpiryReached p then some (·.wrapExpiry p) else none
  | .nextDue t => if s.dueReached t then some (·.becomeDue t) else none
  | .holdoffEnd => if s.holdoffDue then some (·.endHoldoffs) else none
  | .availPeriod => if s.periodReached then some (·.periodExpiry) else none
  | .presence => s.presenceDue.map fun x => (·.presenceExpiry x)
  | .offer => s.offerDue.map fun o => (·.offerExpiry o)
  | .lent => s.lentDue.map fun t => (·.lentExpiry t)
  | .connect => s.connectDue.map fun g => (·.connectExpiry g)
  | .spacingEnd => if s.spacingEnded then some id else none
  | .division => if s.est.inFlight.isSome then some (·.completeDivision) else none

/-- One event of the tick is taken, where its condition holds, with a close of its own, so that crossings (R158) and attempts
(R149) fall between one deadline of a tick and the next (assumption 34). -/
def tickEvent (s : State) (e : TickEvent) : State :=
  match s.tickWork e with
  | some f => s.event f
  | none => s

/-- Events of the tick, one after another. -/
def tickEvents (s : State) (es : List TickEvent) : State := es.foldl tickEvent s

end State

/-- The order in which the model takes one tick where the command does not say otherwise (assumption 3): the filters, the
end of the sweep, the ring deadlines, the wrap-ups, next-due, the holdoffs, the notices, the lost peers, then the OFU's own
deadlines in the order of R168. -/
def defaultTick : List TickEvent :=
  (List.finRange 32).map .disconnectFilter ++ (List.finRange 24).map .headsetFilter ++ [.sweepEnd] ++
    (List.finRange 24).map .ring ++ (List.finRange 24).flatMap (fun p => [.readyAtMin p, .wrapExpiry p]) ++
    (List.finRange 32).map .nextDue ++ [.holdoffEnd, .availPeriod] ++ List.replicate 16 .presence ++
    List.replicate 4 .offer ++ List.replicate 32 .lent ++ List.replicate 16 .connect

/-- What the tick does after the work that is named first: the default order, without what is left to later commands. -/
def restOfTick (plan : TickPlan) : List TickEvent := defaultTick.filter fun e => !plan.later.contains e

namespace State

/-- The divisions in flight and pending complete before the tick (R89; assumption 5): at most the one in flight and eight
pending. -/
def drainDivisions (s : State) : State := s.tickEvents (List.replicate 9 .division)

/-- The clock advances by one tick: the pulses up to the tick are counted, and the tick that is due is taken, the tick count
rising by one, 4,294,967,295 being followed by 0 (R1; assumption 7). -/
def advance (s : State) : State :=
  let u := s.countPulses s.pulsesToTick
  u.setClk { u.clk with tickCount := u.clk.tickCount + 1, ticksDue := u.clk.ticksDue - 1 }

/-- A tick in RUN: what an earlier tick has left, the divisions, the advance of the clock, then the blocks' work, the offer
scan after the OFU's deadlines (R168), and the end of the spacing hold (R1; assumption 3). Each piece of work and the offer
scan is an event with its own close (assumption 34). The hold of a notice is judged at each of these closes by the advanced
clock, so a placeholder whose hold this tick ends may begin, with the notice built then, at the first close of the tick, before
the work that follows (R148; assumption 35). A division that the tick's own work begins can complete within the tick only where
the plan names `.division` first, so one begun by the OFU's deadlines, which no plan names, is in flight at the offer scan
(R89; assumption 36). -/
def tick (s : State) (plan : TickPlan) : State :=
  let ready := (s.tickEvents defaultTick).drainDivisions
  let worked := (ready.advance.tickEvents plan.first).tickEvents (restOfTick plan)
  (worked.event offerScan).tickEvent .spacingEnd

/-! ## A block boundary -/

/-- Channel `c` takes the boundary as an event of its own record; in IDLE and LOADING it does nothing (R108, R127;
assumption 23). -/
def takeBoundary (s : State) (c : Channel) : State :=
  match s.pbc.channels[c].state with
  | .playing _ _ => s.event (·.boundaryWork c)
  | .idle | .loading _ => s

/-- The pulses up to the boundary are counted, and the channels take the boundary that is due, one after another (R108;
assumptions 7, 19 and 23). -/
def blockBoundary (s : State) (order : List Channel) : State :=
  let u := s.countPulses s.pulsesToBoundary
  (boundaryOrder order).foldl takeBoundary (u.setBoundariesDue (u.pbc.boundariesDue - 1))

end State

/-! ## The commands -/

/-- TICK (R1, R2): in RUN the clock advances and every block examines its deadlines; in CONFIG the clock is stopped. -/
def execTick (plan : TickPlan) (s : State) : Host.Outcome State Fault Refusal :=
  .next (if s.running then s.tick plan else s)

/-- BLOCK_BOUNDARY (R108): in RUN the pulses up to the boundary are counted and every channel takes the boundary that is due;
in CONFIG no pulse is counted. -/
def execBlockBoundary (order : List Channel) (s : State) : Host.Outcome State Fault Refusal :=
  .next (if s.running then s.blockBoundary order else s)

/-- NEXT_DUE_REACHED (R116) of trunk `t`, where the clock has reached its next-due value. -/
def execNextDueReached (t : Trunk) (s : State) : Host.Outcome State Fault Refusal :=
  .next (if s.dueReached t then s.event (·.becomeDue t) else s)

/-- JUNCTOR_HOLDOFF_END (R137): every junctor whose holdoff is reached becomes FREE. -/
def execJunctorHoldoffEnd (s : State) : Host.Outcome State Fault Refusal :=
  .next (if s.holdoffDue then s.event (·.endHoldoffs) else s)

/-- DIVISION_COMPLETE (R90), where a division is in flight. -/
def execDivisionComplete (s : State) : Host.Outcome State Fault Refusal :=
  .next (if s.est.inFlight.isSome then s.event (·.completeDivision) else s)

/-- FETCH_COMPLETE (R105 to R107), where a fetch is in flight: the samples that the store gave and the level of its read
fault line. -/
def execFetchComplete (samples : List Byte) (fault : Bool) (s : State) : Host.Outcome State Fault Refusal :=
  .next (if s.pbc.port.isSome then s.event (·.fetchDone samples fault) else s)

end Sys2Proof.Machine
end

