-- ==== Sys2Proof/Machine/Items.lean ====
section
/-! DEFINITION. The items that SET writes (TABLE 12-2), the reading and range of their values (TABLE 12-3 to TABLE 12-5,
TABLE 13-5, R195), and the relations that START checks (R187). -/

namespace Sys2Proof.Machine

/-- A configuration item (TABLE 12-2). The numbers within `station` and `queue` count the rows of TABLE 12-3 and of
TABLE 12-4 from 0. -/
inductive Item where
  | station (row : Fin 12)
  | musicClip (m : Programme)
  | musicSeg (m : Programme)
  | queue (q : QueueNo) (row : Fin 11)
  | profile (f : ProfileNo)
  | service (code : Fin 64)
  | clip (c : Clip)
deriving DecidableEq, Repr

/-- The item that a number names (TABLE 12-2). -/
def itemOf (n : Nat) : Option Item :=
  if n < 16 then (if 1 ≤ n then (index? 12 (n - 1)).map .station else none)
  else if n < 24 then
    (index? 4 ((n - 16) / 2)).map fun m => if n % 2 = 0 then .musicClip m else .musicSeg m
  else if n < 32 then none
  else if n < 160 then
    match index? 8 ((n - 32) / 16), index? 11 ((n - 32) % 16) with
    | some q, some r => some (.queue q r)
    | _, _ => none
  else if n < 168 then (index? 8 (n - 160)).map .profile
  else if n < 192 then none
  else if n < 256 then (index? 64 (n - 192)).map .service
  else (index? 32 (n - 256)).map .clip

/-- The number of bytes of an item's value is one that the item takes (TABLE 13-5, R195). -/
def Item.lengthFits (i : Item) (n : Nat) : Bool :=
  match i with
  | .station _ | .musicClip _ | .musicSeg _ | .queue _ _ => n == 2
  | .profile _ => n ≤ 8
  | .service _ => n == 1
  | .clip _ => n == 6

/-- A value that lies from `lo` to `hi`. -/
def inRange (lo hi n : Nat) : Bool := lo ≤ n && n ≤ hi

/-- Bit `k` of a number. -/
def bitOf (n k : Nat) : Bool := n / 2 ^ k % 2 == 1

/-- ATTN_ENABLE from its two bytes: bits 0-4 (TABLE 13-5); the others are not examined (assumption 13). -/
def readAttn (n : Nat) : AttnEnable := ⟨bitOf n 0, bitOf n 1, bitOf n 2, bitOf n 3, bitOf n 4⟩

/-- A station item takes a number (TABLE 12-3); none where the number lies outside its range. -/
def StationItems.put (x : StationItems) (row : Fin 12) (n : Nat) : Option StationItems :=
  match row with
  | 0 => if inRange 2 20 n then some { x with disconnectFilter := n } else none
  | 1 => if inRange 1 50 n then some { x with headsetFilter := n } else none
  | 2 => if inRange 50 600 n then some { x with ringLimit := n } else none
  | 3 => if inRange 2 20 n then some { x with offerLimit := n } else none
  | 4 => if inRange 2 20 n then some { x with connectLimit := n } else none
  | 5 => if inRange 60 1200 n then some { x with lentLimit := n } else none
  | 6 => if inRange 5 100 n then some { x with availPeriod := n } else none
  | 7 => if inRange 15 600 n then some { x with presenceLimit := n } else none
  | 8 => if inRange 5 100 n then some { x with junctorHoldoff := n } else none
  | 9 => if inRange 0 16 n then some { x with guestLimit := n } else none
  | 10 => if inRange 60 3000 n then some { x with bandWidth := n } else none
  | 11 => some { x with attnEnable := readAttn n }

/-- A clip number or NONE, which is 255 (TABLE 13-5); none where the number is neither. -/
def readClip (n : Nat) : Option (Option Clip) := if n = 255 then some none else (index? 32 n).map some

/-- A queue item takes a number (TABLE 12-4); none where the number lies outside its range. -/
def QueueItems.put (x : QueueItems) (row : Fin 11) (n : Nat) : Option QueueItems :=
  match row with
  | 0 =>
    match n with
    | 0 => some { x with policy := .longestIdle }
    | 1 => some { x with policy := .circular }
    | _ => none
  | 1 => if inRange 1 32 n then some { x with depthLimit := n } else none
  | 2 => if inRange 0 3000 n then some { x with wrapTime := n } else none
  | 3 => if inRange 0 3000 n then some { x with wrapMin := n } else none
  | 4 => if inRange 0 1200 n then some { x with wrapExt := n } else none
  | 5 => if inRange 0 65535 n then some { x with ahtSeed := n } else none
  | 6 => (readClip n).map fun k => { x with initialClip := k }
  | 7 => (readClip n).map fun k => { x with bandBase := k }
  | 8 => if n = 0 || inRange 100 6000 n then some { x with annInterval := n } else none
  | 9 => if inRange 0 6000 n then some { x with ovfWait := n } else none
  | 10 => if inRange 0 7 n then some { x with ovfBand := n } else none

/-- A profile from its bytes: distinct queues 0-7 (R186). -/
def readProfile (bytes : List Byte) : Option (List QueueNo) :=
  let queues := bytes.filterMap fun b => index? 8 b.toNat
  if queues.length = bytes.length && queues.Nodup then some queues else none

/-- A service map entry from its byte: bit 7 valid; bits 6-4 queue; bits 3-2 priority; bits 1-0 programme (TABLE 13-5). -/
def readService (b : Byte) : ServiceEntry where
  valid := b.msb
  queue := ⟨b.toNat / 16 % 8, Nat.mod_lt _ (by decide)⟩
  priority := ⟨b.toNat / 4 % 4, Nat.mod_lt _ (by decide)⟩
  programme := ⟨b.toNat % 4, Nat.mod_lt _ (by decide)⟩

/-- A clip table entry from its six bytes: the valid byte 0 or 1 and the length 1-4095 (TABLE 13-5, R195). -/
def readClipEntry (bytes : List Byte) : Option ClipEntry :=
  match bytes with
  | [v, page, o1, o0, l1, l0] =>
    if v.toNat ≤ 1 && inRange 1 4095 (number2 l1 l0) then
      some ⟨v.toNat == 1, page, BitVec.ofNat 16 (number2 o1 o0), number2 l1 l0⟩
    else none
  | _ => none

/-- The image after an item takes a value of a fitting length; none where the value, or a field of it, lies outside its
range (R186). -/
def Image.put (m : Image) (i : Item) (value : List Byte) : Option Image :=
  match i, value with
  | .station r, [b1, b0] => (m.station.put r (number2 b1 b0)).map fun x => { m with station := x }
  | .musicClip c, [b1, b0] =>
    (index? 32 (number2 b1 b0)).map fun k => { m with music := m.music.set c { m.music[c] with clip := k } }
  | .musicSeg c, [b1, b0] =>
    if inRange 1 255 (number2 b1 b0) then
      some { m with music := m.music.set c { m.music[c] with segBlocks := number2 b1 b0 } }
    else none
  | .queue q r, [b1, b0] => (m.queues[q].put r (number2 b1 b0)).map fun x => { m with queues := m.queues.set q x }
  | .profile f, bytes => (readProfile bytes).map fun x => { m with profiles := m.profiles.set f x }
  | .service k, [b] => some { m with services := m.services.set k (readService b) }
  | .clip c, bytes => (readClipEntry bytes).map fun x => { m with clips := m.clips.set c x }
  | _, _ => none

/-- The numbers of the items that break a relation of R187, lowest first. -/
def Image.offences (m : Image) : List Nat :=
  (if m.station.lentLimit ≤ m.station.ringLimit + m.station.connectLimit then [6] else []) ++
    (if m.station.presenceLimit < 2 * m.station.availPeriod then [8] else []) ++
    ((List.finRange 4).filter fun c => !m.clips[m.music[c].clip].valid).map (fun c => 16 + 2 * c.val) ++
    ((List.finRange 8).filter fun q => m.queues[q].wrapTime < m.queues[q].wrapMin).map fun q => 35 + 16 * q.val

end Sys2Proof.Machine
end

