-- ==== Sys2Proof/Machine/Tables.lean ====
section
/-! DEFINITION. The eight readable tables (12.5) as TABLE 13-7 sends their entries: a presence mask and the fields in
order. -/

namespace Sys2Proof.Machine

/-- A field of a table entry: whether it is present, and the bytes sent in its place. -/
structure TableField where
  present : Bool
  bytes : List Byte
deriving DecidableEq, Repr

/-- A field that is present in every state. -/
def always (bytes : List Byte) : TableField := ⟨true, bytes⟩

/-- A field of `n` bytes, sent as 0 where it is absent. -/
def field (n : Nat) (bytes : Option (List Byte)) : TableField :=
  match bytes with
  | some b => ⟨true, b⟩
  | none => ⟨false, List.replicate n 0⟩

/-- A one-byte field. -/
def field1 (v : Option Nat) : TableField := field 1 (v.map fun n => [byte n])
/-- A two-byte field. -/
def field2 (v : Option Nat) : TableField := field 2 (v.map bytes2)
/-- A clock value. -/
def fieldStamp (v : Option Stamp) : TableField := field 4 (v.map fun a => bytes4 a.toNat)

/-- The presence mask: bit 0 for the first field, most significant byte first. -/
def presenceMask (fields : List TableField) : List Byte :=
  bytes2 (fields.foldr (fun f n => 2 * n + if f.present then 1 else 0) 0)

/-- An entry as READ_NEXT sends it: the mask, then the fields (13.3). -/
def entryBytes (fields : List TableField) : List Byte := presenceMask fields ++ fields.flatMap (·.bytes)

/-! ## Codes (TABLE 13-7) -/

def CallPhase.code : CallPhase → Nat
  | .queued => 1
  | .offered _ _ _ => 2
  | .alerting _ => 3
  | .talking _ _ => 4
  | .lentAlerting _ _ _ => 5
  | .lentTalking _ _ _ => 6

/-- M0-M3 0-3, A0-A1 4-5, none 255. -/
def sourceCode : Option Channel → Nat
  | none => 255
  | some c => if isMusic c then c.val - 2 else c.val + 4

/-- The kind byte, then the clock value or 0. -/
def NextDue.bytes : NextDue → List Byte
  | .at a => 0 :: bytes4 a.toNat
  | .never => 1 :: bytes4 0
  | .due => 2 :: bytes4 0

def PendingAction.code : PendingAction → Nat
  | .none => 0
  | .ready => 1
  | .notReady => 2
  | .signOff => 3

def headsetValue : HeadsetState → Nat
  | .absent => 0
  | .present => 1

/-- Bit 7 set for a guest record, bits 4-0 the number. -/
def Bound.code : Bound → Nat
  | .call t => t.val
  | .guest g => 128 + g.val

def Block.code (b : Block) : Nat := if b.last then 1 else 0

def Playing.code : Playing → Nat
  | .block b => b.code
  | .stall => 2

def Placeholder.code : Placeholder → Nat
  | .absent => 0
  | .waiting => 1
  | .sending => 2

def Mode.code : Mode → Nat
  | .config => 0
  | .run => 1

/-! ## The fields of each state -/

def CallPhase.agent : CallPhase → Option Position
  | .alerting p | .talking p _ => some p
  | .queued | .offered _ _ _ | .lentAlerting _ _ _ | .lentTalking _ _ _ => none

def CallPhase.answer : CallPhase → Option Stamp
  | .talking _ a | .lentTalking _ _ a => some a
  | .queued | .offered _ _ _ | .alerting _ | .lentAlerting _ _ _ => none

def CallPhase.slot : CallPhase → Option SlotNo
  | .offered o _ _ => some o
  | .queued | .alerting _ | .talking _ _ | .lentAlerting _ _ _ | .lentTalking _ _ _ => none

def CallPhase.junctor : CallPhase → Option Junctor
  | .offered _ _ j | .lentAlerting _ j _ | .lentTalking _ j _ => some j
  | .queued | .alerting _ | .talking _ _ => none

def CallPhase.lentDeadline : CallPhase → Option Stamp
  | .lentAlerting _ _ d => some d
  | .queued | .offered _ _ _ | .alerting _ | .talking _ _ | .lentTalking _ _ _ => none

def Duty.bound : Duty → Option Bound
  | .reserved g => some (.guest g)
  | .alerting b _ | .talking b => some b
  | .notReady | .ready _ | .wrapup _ => none

def Duty.ringDeadline : Duty → Option Stamp
  | .alerting _ d => some d
  | .notReady | .ready _ | .reserved _ | .talking _ | .wrapup _ => none

def Duty.readySince : Duty → Option Stamp
  | .ready a => some a
  | .notReady | .reserved _ | .alerting _ _ | .talking _ | .wrapup _ => none

def Duty.wrap : Duty → Option WrapFields
  | .wrapup w => some w
  | .notReady | .ready _ | .reserved _ | .alerting _ _ | .talking _ => none

def GuestPhase.code : GuestPhase → Nat
  | .waitConnect _ => 1
  | .alerting => 2
  | .talking _ => 3

def GuestPhase.connectDeadline : GuestPhase → Option Stamp
  | .waitConnect d => some d
  | .alerting | .talking _ => none

def GuestPhase.answer : GuestPhase → Option Stamp
  | .talking a => some a
  | .waitConnect _ | .alerting => none

/-- The clip of a trunk's entry on the waiting list, 255 where it has none. -/
def waitingCode (s : State) (t : Trunk) : Nat :=
  match s.htu.waiting.find? fun e => e.trunk = t with
  | some e => e.clip.val
  | none => 255

/-! ## The entries -/

/-- An entry of the calls table. The waiting field is present with the other hold fields (R114). -/
def callFields (s : State) (t : Trunk) : List TableField :=
  let b := s.call t
  let p := b.map (·.phase)
  [always [byte ((p.map (·.code)).getD 0)], always [byte s.cqm.calls[t].gen.toNat], field1 (b.map (·.queue.val)),
    field1 (b.map (·.priority.val)), field1 (b.map (·.programme.val)), fieldStamp (b.map (·.arrival)),
    field1 (b.map fun b => if b.recovered then 1 else 0), field1 ((p.bind (·.agent)).map (·.val)),
    fieldStamp (p.bind (·.answer)), field1 ((p.bind (·.slot)).map (·.val)), field1 ((p.bind State.peerOf).map (·.val)),
    field1 ((p.bind (·.junctor)).map (·.val)), fieldStamp (p.bind (·.lentDeadline)),
    field1 (b.map fun b => sourceCode b.source), field 5 (b.map (·.nextDue.bytes)),
    field1 (b.map fun b => if b.waiting then waitingCode s t else 255)]

/-- An entry of the agents table, entries 0-23. -/
def agentFields (s : State) (p : Position) : List TableField :=
  let a := s.dsu.agents[p]
  let d := s.duty p
  let w := d.bind (·.wrap)
  [always [byte a.kind.code], field1 (a.post.map (·.profile.val)), always [byte (headsetValue a.headset)],
    field1 ((d.bind (·.bound)).map (·.code)), fieldStamp (d.bind (·.ringDeadline)), fieldStamp (d.bind (·.readySince)),
    always [byte a.pendingAction.code], field1 (w.map (·.queue.val)), fieldStamp (w.map (·.start)),
    fieldStamp (w.map (·.wrapEnd)), fieldStamp (w.map (·.minEnd)), field1 (w.map (·.extensions)), field2 (w.map (·.talk))]

/-- Entry 24 of the agents table: the hunt pointers. -/
def huntFields (s : State) : List TableField := [always ((List.finRange 8).map fun q => byte s.dsu.hunt[q].val)]

/-- An entry of the estimates table (R82). -/
def estimateFields (s : State) (q : QueueNo) : List TableField :=
  let r := s.est.recs[q]
  let inFlight := match s.est.inFlight with
    | some d => d.queue == q
    | none => false
  [always (bytes4 r.aht16), always (bytes4 r.step), always [byte r.nUsed], always [byte (s.staffedCount q)],
    always [flagByte r.pendingFlag], always [flagByte inFlight], always (bytes2 r.restarts)]

/-- An entry of the channels table (R100). The segment counter belongs to the music channels. -/
def channelFields (s : State) (c : Channel) : List TableField :=
  let r := s.pbc.channels[c]
  let x := r.state.run
  let playing : Option Playing := match r.state with
    | .playing _ b => b
    | .idle | .loading _ => none
  let state : Nat := match r.state with
    | .idle => 0
    | .loading _ => 1
    | .playing _ _ => 2
  [always [byte state], field1 (x.map (·.clip.val)), field1 (x.map (·.page.toNat)), field2 (x.map (·.offset.toNat)),
    field2 (x.map (·.remaining)),
    field 1 (x.map fun x => byte x.buffer.length :: x.buffer.map fun b => byte b.code), field1 (playing.map (·.code)),
    field1 (if isMusic c then x.map (·.segment) else none), always [flagByte (isMusic c)],
    field1 (x.map fun x => if x.fetching then 1 else 0), always [byte r.startNumber.toNat], always [byte r.underruns],
    always [byte r.faults]]

/-- An entry of the junctors table (R138). -/
def junctorFields (s : State) (j : Junctor) : List TableField :=
  match s.sps.junctors[j] with
  | .free =>
    [always [0], field1 none, field1 none, fieldStamp none, field1 (some (s.sps.freeOrder.idxOf j))]
  | .bound t =>
    [always [1], field1 (some t.val), field1 (((s.call t).bind fun b => State.peerOf b.phase).map (·.val)), fieldStamp none,
      field1 none]
  | .holdoff u =>
    [always [2], field1 none, field1 none, fieldStamp (some u), field1 (some (s.sps.holdoffOrder.idxOf j))]

/-- An entry of the guests table (R176). -/
def guestFields (s : State) (g : GuestNo) : List TableField :=
  let r := s.ofu.guests[g]
  let p := r.map (·.phase)
  [always [byte ((p.map (·.code)).getD 0)], field1 (r.map (·.origin.val)), field 2 (r.map (·.tag.bytes)),
    field1 (r.map (·.junctor.val)), field1 (r.map (·.queue.val)), field1 (r.map (·.priority.val)),
    field1 (r.map (·.programme.val)), field2 (r.map (·.waited)), field1 (r.map (·.agent.val)),
    fieldStamp (p.bind (·.connectDeadline)), fieldStamp (p.bind (·.answer))]

/-- An entry of the peers table (R155). -/
def peerFields (s : State) (x : Station) : List TableField :=
  let present : Option PeerData := match s.pvt.peers[x] with
    | .present d => some d
    | .unknown | .absent _ _ => none
  let clocks : Option (Stamp × Stamp) := match s.pvt.peers[x] with
    | .present d => some (d.lastClock, d.lastHeard)
    | .absent c h => some (c, h)
    | .unknown => none
  let state : Nat := match s.pvt.peers[x] with
    | .unknown => 0
    | .present _ => 1
    | .absent _ _ => 2
  [always [byte state], fieldStamp (clocks.map (·.1)), fieldStamp (clocks.map (·.2)), field1 (present.map (·.room)),
    field 8 (present.map fun d => (List.finRange 8).map fun q => byte d.idle[q]),
    field 8 (present.map fun d => (List.finRange 8).map fun q => byte d.band[q]),
    field1 (present.map fun d => (List.finRange 8).foldr (fun q n => 2 * n + if d.decline[q] then 1 else 0) 0),
    field 8 (present.map fun d => (List.finRange 8).map fun j => mapByte d.map[j])]

/-- An entry of the counters table (TABLE 12-7). -/
def counterFields (s : State) (i : Nat) : List TableField :=
  match i with
  | 0 => [always (bytes4 s.clk.tickCount.toNat), always [byte s.mpi.mode.code]]
  | 1 => [always (bytes2 s.lsi.scanErrors), always [byte s.lsi.orderLosses]]
  | 2 => [always (bytes2 s.plc.crcErr), always (bytes2 s.plc.lengthErr), always (bytes2 s.plc.idClash),
      always (bytes2 s.plc.contentionDrop), always (bytes2 s.plc.txqDrop)]
  | _ => [always [byte s.plc.frames], always [byte s.plc.placeholder.code], always [byte s.mpi.fifo.length],
      always [byte s.mpi.lostReports]]

/-- The number of entries of a table, by its number in TABLE 13-4 (TABLE 12-6). -/
def tableSize (table : Fin 8) : Nat :=
  match table with
  | 0 => 32
  | 1 => 25
  | 2 => 8
  | 3 => 6
  | 4 => 8
  | 5 => 16
  | 6 => 16
  | 7 => 4

/-- The fields of an entry; none at an index that the table has not. -/
def entryFields (s : State) (table : Fin 8) (i : Nat) : Option (List TableField) :=
  match table with
  | 0 => (index? 32 i).map (callFields s)
  | 1 => if i = 24 then some (huntFields s) else (index? 24 i).map (agentFields s)
  | 2 => (index? 8 i).map (estimateFields s)
  | 3 => (index? 6 i).map (channelFields s)
  | 4 => (index? 8 i).map (junctorFields s)
  | 5 => (index? 16 i).map (guestFields s)
  | 6 => (index? 16 i).map (peerFields s)
  | 7 => if i < 4 then some (counterFields s i) else none

end Sys2Proof.Machine
end

