-- ==== Sys2Proof/Machine/Maintenance.lean ====
section
/-! DEFINITION. Section 12: the seven maintenance commands, START and RESTART, the RESET pin; and the commands of the model
that bring them. -/

namespace Sys2Proof.Machine

namespace State

/-! ## Responses (R184) -/

/-- The part answers a transaction: a status byte and data. -/
def respond (s : State) (c : StatusCode) (data : List Byte) : State := s.setResponse (some (c.byte :: data))

/-! ## SET (R186, R195) -/

/-- SET with its data bytes: LENGTH, BAD_ITEM and LENGTH by the item, then WRONG_MODE in RUN, then the range of the value
(R195, R184, R186; assumption 12). -/
def commandSet (s : State) (data : List Byte) : State :=
  match data with
  | n1 :: n0 :: value =>
    match itemOf (number2 n1 n0) with
    | none => s.respond .badItem []
    | some i =>
      if !i.lengthFits value.length then s.respond .length []
      else if s.running then s.respond .wrongMode []
      else
        match s.mpi.image.put i value with
        | none => s.respond .badValue []
        | some m => (s.setImage m).respond .ok []
  | _ => s.respond .length []

/-! ## START (R187, R188) -/

/-- The LSI at START: the marks are cleared, the orders behind the one being sent are removed, and the sweep is queued
(R14, R15). -/
def startLines (s : State) : State :=
  let u : State := { s with lsi := { s.lsi with
    trunks := s.lsi.trunks.map fun x => { x with reported := false }
    positions := s.lsi.positions.map fun x => { x with reported := false }
    orders := s.lsi.orders.take 1 } }
  ((List.finRange 32).map Order.clear ++ (List.finRange 24).map Order.stopRing ++ [Order.scanAll]).foldl issue u

/-- The EST at START: every queue seeded and pending (R84). -/
def startEstimates (s : State) : State :=
  (List.finRange 8).foldl
    (fun u q => u.setEst q { u.est.recs[q] with aht16 := (s.queueItems q).ahtSeed * 16, pendingFlag := true }) s

/-- The music channels enter LOADING and request fetches (R101, R104). -/
def startMusic (s : State) : State :=
  ((List.finRange 4).foldl (fun u m => u.loadChannel (musicChannel m) s.mpi.image.music[m].clip) s).grant

/-- The PVT at START: the first notice and the period timer (R157). -/
def startNotices (s : State) : State := s.requestNotice.setPeriod (some (deadline s.now s.items.availPeriod))

/-- The receive side at START: a frame that is in progress on the bus is passed over (R144). -/
def startReceiving (s : State) : State :=
  s.setPlc { s.plc with onBus := if s.plc.onBus = .none then .none else .passedOver }

/-- The part enters RUN: the clock starts from 0 and every block takes its START actions (R188, R2, R108). -/
def enterRun (s : State) : State :=
  ((((s.setMode .run).setClk ⟨0, 0, 0⟩).setBlockFrame 0).setBoundariesDue
    0).startLines.startEstimates.startReceiving.startMusic.startNotices

/-- START with its data bytes (R184, R187, R188). -/
def commandStart (s : State) (data : List Byte) : State :=
  if !data.isEmpty then s.respond .length []
  else if s.running then s.respond .wrongMode []
  else
    match s.mpi.image.offences with
    | n :: _ => s.respond .badValue (bytes2 n)
    | [] => (s.event enterRun).respond .ok []

/-! ## RESTART and the RESET pin (R185) -/

/-- Every block at its values after RESET, with the image, the station number and the orders given; the idle measure of the
bus and the frame in progress on it are taken as they are found (R140), and the commands that wait still wait
(assumption 29). -/
def resetTo (s : State) (image : Image) (station : Station) (orders : List Order) : State :=
  { reset with
    lsi := { Lsi.reset with orders := orders }
    plc := { Plc.reset with busIdle := s.plc.busIdle, onBus := s.plc.onBus }
    mpi := { Mpi.reset with image := image, station := station }
    pending := s.pending }

/-- The effects of RESTART: the image and the station number are kept, and the order being sent is completed (R185,
R14). -/
def restart (s : State) : State := s.resetTo s.mpi.image s.mpi.station (s.lsi.orders.take 1)

/-- RESTART with its data bytes (R184, R185). -/
def commandRestart (s : State) (data : List Byte) : State :=
  if data.isEmpty then s.restart.respond .ok [] else s.respond .length []

/-! ## SELECT, READ_NEXT, REPORT_NEXT, STATUS (R189, R190) -/

/-- SELECT with its data bytes (R189). -/
def commandSelect (s : State) (data : List Byte) : State :=
  match data with
  | [t, i] =>
    match index? 8 t.toNat with
    | none => s.respond .badItem []
    | some table =>
      if i.toNat < tableSize table then (s.setPointer ⟨table, i.toNat⟩).respond .ok [] else s.respond .badValue []
  | _ => s.respond .length []

/-- The pointer after a read: the next index, or 0 after the last (R189). -/
def nextPointer (p : TablePointer) : TablePointer := ⟨p.table, if p.index + 1 < tableSize p.table then p.index + 1 else 0⟩

/-- READ_NEXT with its data bytes (R189, TABLE 13-4). -/
def commandReadNext (s : State) (data : List Byte) : State :=
  if !data.isEmpty then s.respond .length []
  else
    let p := s.mpi.pointer
    let entry := match entryFields s p.table p.index with
      | some f => entryBytes f
      | none => []
    (s.setPointer (nextPointer p)).respond .ok (byte p.table.val :: byte p.index :: entry)

/-- REPORT_NEXT with its data bytes (R190, R191). -/
def commandReportNext (s : State) (data : List Byte) : State :=
  if !data.isEmpty then s.respond .length []
  else
    match s.mpi.fifo with
    | [] => s.respond .empty []
    | r :: rest => (s.setFifo rest).refresh.respond .ok r.bytes

/-- STATUS with its data bytes (R190). -/
def commandStatus (s : State) (data : List Byte) : State :=
  if !data.isEmpty then s.respond .length []
  else
    (s.setLostReports 0).respond .ok
      [byte s.mpi.mode.code, byte s.mpi.station.val, byte s.mpi.fifo.length, byte s.mpi.lostReports]

/-- A command with its data bytes. -/
def command (s : State) (c : Command) (data : List Byte) : State :=
  match c with
  | .set => s.commandSet data
  | .start => s.commandStart data
  | .restart => s.commandRestart data
  | .select => s.commandSelect data
  | .readNext => s.commandReadNext data
  | .reportNext => s.commandReportNext data
  | .status => s.commandStatus data

/-- The bytes of a whole select period (R184, R195): abandoned without response where fewer bytes arrive than the count byte
states; LENGTH for a count of 0 or a code that names no command; else the command. -/
def transact (s : State) (bytes : List Byte) : State :=
  match bytes with
  | [] => s.setResponse none
  | count :: arrived =>
    if arrived.length < count.toNat then s.setResponse none
    else
      match arrived.take count.toNat with
      | [] => s.respond .length []
      | code :: data =>
        match Command.ofCode code with
        | none => s.respond .length []
        | some c => s.command c data

end State

/-! ## The commands -/

/-- RESET_PIN (R185): CONFIG, the default image, every block reset, the station number from the straps. -/
def execResetPin (straps : Station) (s : State) : Host.Outcome State Fault Refusal :=
  .next (s.resetTo defaultImage straps [])

/-- SET (R186): the command code 01H with its data bytes. -/
def execSet (data : List Byte) (s : State) : Host.Outcome State Fault Refusal := .next (s.commandSet data)

/-- START (R187, R188): the command code 02H with its data bytes. -/
def execStart (data : List Byte) (s : State) : Host.Outcome State Fault Refusal := .next (s.commandStart data)

/-- RESTART (R185): the command code 03H with its data bytes. -/
def execRestart (data : List Byte) (s : State) : Host.Outcome State Fault Refusal := .next (s.commandRestart data)

/-- SELECT (R189): the command code 04H with its data bytes. -/
def execSelect (data : List Byte) (s : State) : Host.Outcome State Fault Refusal := .next (s.commandSelect data)

/-- READ_NEXT (R189): the command code 05H with its data bytes. -/
def execReadNext (data : List Byte) (s : State) : Host.Outcome State Fault Refusal := .next (s.commandReadNext data)

/-- REPORT_NEXT (R190): the command code 06H with its data bytes. -/
def execReportNext (data : List Byte) (s : State) : Host.Outcome State Fault Refusal := .next (s.commandReportNext data)

/-- STATUS (R190): the command code 07H with its data bytes. -/
def execStatus (data : List Byte) (s : State) : Host.Outcome State Fault Refusal := .next (s.commandStatus data)

/-- TRANSACTION_ABANDONED (R184): the select period ends after these bytes. -/
def execTransactionAbandoned (bytes : List Byte) (s : State) : Host.Outcome State Fault Refusal := .next (s.transact bytes)

/-- UNKNOWN_COMMAND_CODE (R184, R195): the bytes of a whole transaction. -/
def execUnknownCommandCode (bytes : List Byte) (s : State) : Host.Outcome State Fault Refusal := .next (s.transact bytes)

end Sys2Proof.Machine
end

