-- ==== Sys2Proof/Machine/Dispatch.lean ====
section
/-! DEFINITION. The meaning of each command: one arm per row of spec/opcode_table.json, in its order. -/

namespace Sys2Proof.Machine

def exec (i : Instr) (s : State) : Host.Outcome State Fault Refusal :=
  match i with
  | .resetPin straps => Sys2Proof.Machine.execResetPin straps s
  | .tick plan => Sys2Proof.Machine.execTick plan s
  | .blockBoundary order => Sys2Proof.Machine.execBlockBoundary order s
  | .seize trunk code => Sys2Proof.Machine.execSeize trunk code s
  | .loop state trunk => Sys2Proof.Machine.execLoop state trunk s
  | .headset state position => Sys2Proof.Machine.execHeadset state position s
  | .scanByteUndecodable bytes => Sys2Proof.Machine.execScanByteUndecodable bytes s
  | .signOnKey byte => Sys2Proof.Machine.execSignOnKey byte s
  | .readyKey byte => Sys2Proof.Machine.execReadyKey byte s
  | .notReadyKey byte => Sys2Proof.Machine.execNotReadyKey byte s
  | .signOffKey byte => Sys2Proof.Machine.execSignOffKey byte s
  | .answerKey byte => Sys2Proof.Machine.execAnswerKey byte s
  | .releaseKey byte => Sys2Proof.Machine.execReleaseKey byte s
  | .moreTimeKey byte => Sys2Proof.Machine.execMoreTimeKey byte s
  | .orderSent => Sys2Proof.Machine.execOrderSent s
  | .disconnectFilterExpiry t => Sys2Proof.Machine.execDisconnectFilterExpiry t s
  | .headsetFilterExpiry p => Sys2Proof.Machine.execHeadsetFilterExpiry p s
  | .startSweepEnd => Sys2Proof.Machine.execStartSweepEnd s
  | .ringDeadline p => Sys2Proof.Machine.execRingDeadline p s
  | .wrapExpiry p => Sys2Proof.Machine.execWrapExpiry p s
  | .readyAtMin p => Sys2Proof.Machine.execReadyAtMin p s
  | .nextDueReached t => Sys2Proof.Machine.execNextDueReached t s
  | .junctorHoldoffEnd => Sys2Proof.Machine.execJunctorHoldoffEnd s
  | .offerDeadline => Sys2Proof.Machine.execOfferDeadline s
  | .lentDeadline => Sys2Proof.Machine.execLentDeadline s
  | .connectDeadline => Sys2Proof.Machine.execConnectDeadline s
  | .availPeriodExpiry => Sys2Proof.Machine.execAvailPeriodExpiry s
  | .presenceTimeout => Sys2Proof.Machine.execPresenceTimeout s
  | .availSpacingEnd => Sys2Proof.Machine.execAvailSpacingEnd s
  | .divisionComplete => Sys2Proof.Machine.execDivisionComplete s
  | .fetchComplete samples fault => Sys2Proof.Machine.execFetchComplete samples fault s
  | .attemptBegin sign => Sys2Proof.Machine.execAttemptBegin sign s
  | .attemptLost => Sys2Proof.Machine.execAttemptLost s
  | .attemptComplete => Sys2Proof.Machine.execAttemptComplete s
  | .avail f => Sys2Proof.Machine.execAvail f s
  | .offer f => Sys2Proof.Machine.execOffer f s
  | .take f => Sys2Proof.Machine.execTake f s
  | .decline f => Sys2Proof.Machine.execDecline f s
  | .connect f => Sys2Proof.Machine.execConnect f s
  | .answered f => Sys2Proof.Machine.execAnswered f s
  | .bounce f => Sys2Proof.Machine.execBounce f s
  | .releaseAgentDone f => Sys2Proof.Machine.execReleaseAgentDone f s
  | .releaseCallerGone f => Sys2Proof.Machine.execReleaseCallerGone f s
  | .releaseTooLate f => Sys2Proof.Machine.execReleaseTooLate f s
  | .withdraw f => Sys2Proof.Machine.execWithdraw f s
  | .set data => Sys2Proof.Machine.execSet data s
  | .start data => Sys2Proof.Machine.execStart data s
  | .restart data => Sys2Proof.Machine.execRestart data s
  | .select data => Sys2Proof.Machine.execSelect data s
  | .readNext data => Sys2Proof.Machine.execReadNext data s
  | .reportNext data => Sys2Proof.Machine.execReportNext data s
  | .status data => Sys2Proof.Machine.execStatus data s
  | .transactionAbandoned bytes => Sys2Proof.Machine.execTransactionAbandoned bytes s
  | .lengthErrorFrame f => Sys2Proof.Machine.execLengthErrorFrame f s
  | .unknownCommandCode bytes => Sys2Proof.Machine.execUnknownCommandCode bytes s

end Sys2Proof.Machine
end

