-- ==== Sys2Proof/Safety.lean ====
section
/-! DEFINITION. What holds between events: the state in which every event of the part leaves it. -/

namespace Sys2Proof.Machine

namespace State

/-- The divider stands free only while nothing is pending (R88). -/
def dividerBusy (s : State) : Bool :=
  s.est.inFlight.isSome || (List.finRange 8).all fun q => !s.est.recs[q].pendingFlag

/-- The division in flight has the present inputs of its queue (R91). -/
def divisionFresh (s : State) : Bool :=
  match s.est.inFlight with
  | none => true
  | some d => s.est.recs[d.queue].aht16 == d.aht16 && s.staffedCount d.queue == d.staffed

/-- Nothing may begin on the peer bus (R149). -/
def linkWaits (s : State) : Bool :=
  !s.running || s.plc.attempt.isSome ||
    match s.beginPlace with
    | none => true
    | some i =>
      match s.plc.queue[i]? with
      | none => true
      | some e => s.plc.busIdle < s.idleNeeded e

/-- What the close of every event leaves: the divider as R88 and R91 say, nothing that may begin on the bus (R149), the
connection map as the records say (R130), the ATTN line at its level (R191). -/
def settled (s : State) : Bool :=
  s.dividerBusy && s.divisionFresh && s.linkWaits && s.sps.map == s.connections && s.mpi.attn == s.attnLevel

/-- In CONFIG no division is in flight or pending (R83). -/
def configIdle (s : State) : Bool :=
  s.running || s.est.inFlight.isNone && (List.finRange 8).all fun q => !s.est.recs[q].pendingFlag

/-- The part as it stands throughout CONFIG: as after RESET, but for what the rules let change there. The orders that answer
characters and the character under way (R5, R14, R194), the bus (R140, R144), the station number, the image, the table pointer
and the response (R185, R186, R189, R184), and the commands that wait are those of `s`. -/
def atRest (s : State) : State :=
  { reset with
    lsi := { Lsi.reset with orders := s.lsi.orders, scanOpen := s.lsi.scanOpen }
    plc := { Plc.reset with busIdle := s.plc.busIdle, onBus := s.plc.onBus }
    mpi := { Mpi.reset with
      station := s.mpi.station
      image := s.mpi.image
      pointer := s.mpi.pointer
      response := s.mpi.response }
    pending := s.pending }

/-- In CONFIG nothing goes on: every agent SIGNED_OFF, every call record, offer slot, guest record and junctor FREE, every peer
UNKNOWN, every channel IDLE, no filter, timer, division, frame or report (R2, R4, R18, R43, R66, R83, R101, R114, R130, R135,
R145, R153, R155, R157, R167, R176, R185). -/
def configQuiet (s : State) : Bool := s.running || s == s.atRest

/-- The queues of fixed size hold no more than their size (R14, R146, R190), and the counts that saturate hold no more than
their greatest values (R4, R145, R190). -/
def withinSizes (s : State) : Bool :=
  s.lsi.orders.length ≤ Config.orderQueueSize && s.plc.frames ≤ Config.txQueueSize &&
    s.mpi.fifo.length ≤ Config.fifoSize && s.lsi.scanErrors ≤ 65535 && s.lsi.orderLosses ≤ 255 &&
    s.mpi.lostReports ≤ 255 && s.plc.crcErr ≤ 65535 && s.plc.lengthErr ≤ 65535 && s.plc.idClash ≤ 65535 &&
    s.plc.contentionDrop ≤ 65535 && s.plc.txqDrop ≤ 65535

end State

/-- A run is safe while each of its states is settled and within its sizes. -/
def SafeState (s : State) : Prop :=
  s.settled = true ∧ s.configIdle = true ∧ s.configQuiet = true ∧ s.withinSizes = true

end Sys2Proof.Machine
end

