-- ==== Sys2Proof/WellFormed.lean ====
section
/-! DEFINITION. Which commands are well formed: the operands that the row can carry. Every command has a meaning all the
same; what is ruled out here is a command that another row spells, or that cannot arrive. -/

namespace Sys2Proof

open Machine

/-- The tick's order names none of the OFU's deadlines, which R168 fixes before the offer scan. -/
def tickPlanFits (plan : TickPlan) : Bool :=
  (plan.first ++ plan.later).all fun e =>
    match e with
    | .offer | .lent | .connect => false
    | _ => true

/-- A frame of a RELEASE row that has the length of its kind carries no other row's cause (TABLE 13-2). -/
def releaseFits (cause : ReleaseCause) (f : RxFrame) : Bool :=
  match f.rest with
  | [_, _, c, _] =>
    match ReleaseCause.ofCode c.toNat with
    | some k => k == cause
    | none => true
  | _ => true

/-- Every byte given is dropped, alone or in a whole character that cannot be decoded, and no character stays open
(R194). -/
def scanBytesFit (opened : List Byte) : List Byte → Bool
  | [] => opened.isEmpty
  | b :: rest =>
    match scanByte opened b with
    | (_, .char _) => false
    | (next, _) => scanBytesFit next rest

/-- A whole transaction whose count is 0 or whose code names no command (R184, R195). -/
def unknownCodeFits (bytes : List Byte) : Bool :=
  match bytes with
  | [count] => count == 0
  | count :: code :: data => count.toNat == data.length + 1 && Command.ofCode code == none
  | [] => false

/-- Fewer bytes than the count byte states (R184). -/
def abandonedFits (bytes : List Byte) : Bool :=
  match bytes with
  | [] => true
  | count :: arrived => arrived.length < count.toNat

/-- The second character of a frame did not arrive, or its kind code is none of the nine (R142). -/
def kindMissing : List Byte → Bool
  | [] => true
  | second :: _ => FrameKind.ofCode (second.toNat / 16) == none

/-- The data of a command that a count byte can state (13.3). -/
def dataFits (data : List Byte) : Bool := data.length ≤ 254

/-- The command is well formed. -/
def wellFormed (i : Instr) : Bool :=
  match i with
  | .tick plan => tickPlanFits plan
  | .blockBoundary order => order.Nodup
  | .scanByteUndecodable bytes => !bytes.isEmpty && scanBytesFit [] bytes
  | .fetchComplete samples _ => samples.length == 256
  | .releaseAgentDone f => releaseFits .agentDone f
  | .releaseCallerGone f => releaseFits .callerGone f
  | .releaseTooLate f => releaseFits .tooLate f
  | .set data | .start data | .restart data | .select data | .readNext data | .reportNext data | .status data =>
    dataFits data
  | .transactionAbandoned bytes => abandonedFits bytes
  | .lengthErrorFrame f => kindMissing f.rest
  | .unknownCommandCode bytes => unknownCodeFits bytes
  | .resetPin _ | .seize _ _ | .loop _ _ | .headset _ _ | .signOnKey _ | .readyKey _ | .notReadyKey _ | .signOffKey _
  | .answerKey _ | .releaseKey _ | .moreTimeKey _ | .orderSent | .disconnectFilterExpiry _ | .headsetFilterExpiry _
  | .startSweepEnd | .ringDeadline _ | .wrapExpiry _ | .readyAtMin _ | .nextDueReached _ | .junctorHoldoffEnd
  | .offerDeadline | .lentDeadline | .connectDeadline | .availPeriodExpiry | .presenceTimeout | .availSpacingEnd
  | .divisionComplete | .attemptBegin _ | .attemptLost | .attemptComplete | .avail _ | .offer _ | .take _ | .decline _
  | .connect _ | .answered _ | .bounce _ | .withdraw _ => true

end Sys2Proof
end

