-- ==== Sys2Proof/Certificates/Slice0/Obligations.lean ====
section
/-! DEFINITION. The statements for the provers, each a `def Obligations.<Name> : Prop`, over the rules R<n> of spec/. The
relations of `Sys2Proof.Claims` come first: each says what one act of the part writes, field by field, and by `Only` that it
writes nothing else. An event is stated as `exec c s = .next (v.close s)`: `v` is what the event itself leaves, and the close
(the estimator, the notices, the bus, the connection map and ATTN) has its own statements. -/

namespace Sys2Proof.Claims

open Machine

/-! ## Frames -/

/-- What an act may write. A list names the records that may change; a flag tells that a list or a count may; the orders,
frames and reports are those that the act hands on, in order. -/
structure Change where
  trunks : List Trunk := []
  positions : List Position := []
  scanErrors : Bool := false
  orders : List Order := []
  calls : List Trunk := []
  lists : List QueueNo := []
  agents : List Position := []
  idleList : Bool := false
  hunt : List QueueNo := []
  estimates : List QueueNo := []
  channels : List Channel := []
  port : Bool := false
  waiting : Bool := false
  junctors : List Junctor := []
  freeOrder : Bool := false
  holdoffOrder : Bool := false
  frames : List (Station × Payload) := []
  peers : List Station := []
  slots : List SlotNo := []
  guests : List GuestNo := []
  reports : List Report := []

/-- From `s` to `v` nothing is written but what `c` names: every record that it does not name, every count, every order of
a list, and every byte of configuration reads as before; the orders are issued, the frames given and the reports written
that it names, and no others. -/
def Only (c : Change) (s v : State) : Prop :=
  (∀ t : Trunk, t ∉ c.trunks → v.lsi.trunks[t] = s.lsi.trunks[t]) ∧
  (∀ p : Position, p ∉ c.positions → v.lsi.positions[p] = s.lsi.positions[p]) ∧
  (c.scanErrors = true ∨ v.lsi.scanErrors = s.lsi.scanErrors) ∧
  v.lsi.orders = (c.orders.foldl State.issue s).lsi.orders ∧
  v.lsi.orderLosses = (c.orders.foldl State.issue s).lsi.orderLosses ∧
  v.lsi.scanOpen = s.lsi.scanOpen ∧
  v.clk = s.clk ∧
  (∀ t : Trunk, t ∉ c.calls → v.cqm.calls[t] = s.cqm.calls[t]) ∧
  (∀ q : QueueNo, q ∉ c.lists → v.cqm.lists[q] = s.cqm.lists[q]) ∧
  (∀ p : Position, p ∉ c.agents → v.dsu.agents[p] = s.dsu.agents[p]) ∧
  (c.idleList = true ∨ v.dsu.idleList = s.dsu.idleList) ∧
  (∀ q : QueueNo, q ∉ c.hunt → v.dsu.hunt[q] = s.dsu.hunt[q]) ∧
  (∀ q : QueueNo, q ∉ c.estimates → v.est.recs[q] = s.est.recs[q]) ∧
  v.est.inFlight = s.est.inFlight ∧
  (∀ k : Channel, k ∉ c.channels → v.pbc.channels[k] = s.pbc.channels[k]) ∧
  (c.port = true ∨ v.pbc.port = s.pbc.port) ∧
  v.pbc.blockFrameCount = s.pbc.blockFrameCount ∧ v.pbc.boundariesDue = s.pbc.boundariesDue ∧
  (c.waiting = true ∨ v.htu.waiting = s.htu.waiting) ∧
  v.sps.map = s.sps.map ∧ v.sps.sending = s.sps.sending ∧
  (∀ j : Junctor, j ∉ c.junctors → v.sps.junctors[j] = s.sps.junctors[j]) ∧
  (c.freeOrder = true ∨ v.sps.freeOrder = s.sps.freeOrder) ∧
  (c.holdoffOrder = true ∨ v.sps.holdoffOrder = s.sps.holdoffOrder) ∧
  v.plc = (c.frames.foldl (fun u f => u.give f.1 f.2) s).plc ∧
  (∀ x : Station, x ∉ c.peers → v.pvt.peers[x] = s.pvt.peers[x]) ∧
  v.pvt.periodDeadline = s.pvt.periodDeadline ∧
  (∀ o : SlotNo, o ∉ c.slots → v.ofu.slots[o] = s.ofu.slots[o]) ∧
  (∀ g : GuestNo, g ∉ c.guests → v.ofu.guests[g] = s.ofu.guests[g]) ∧
  v.mpi.mode = s.mpi.mode ∧
  v.mpi.station = s.mpi.station ∧
  v.mpi.image = s.mpi.image ∧
  v.mpi.pointer = s.mpi.pointer ∧
  v.mpi.fifo = (c.reports.foldl State.writeReport s).mpi.fifo ∧
  v.mpi.lostReports = (c.reports.foldl State.writeReport s).mpi.lostReports ∧
  v.mpi.attn = s.mpi.attn ∧
  v.mpi.response = s.mpi.response ∧
  v.pending = s.pending

/-! ## Acts on an agent (Sections 3 and 4) -/

/-- The record of a signed-on agent with another duty; its profile, headset flag and pending action stay. -/
def onDuty (a : AgentRec) (d : Duty) : AgentRec := { a with post := a.post.map fun x => ⟨x.profile, d⟩ }

/-- The agent at `p` is rung for the QUEUED call `b` on `t` (R59, R26, R123): ALERTING with its ring deadline, out of the idle
list; the record ALERTING, out of its list and of the waiting list, on its programme's music; RING issued. -/
def Rung (s v : State) (p : Position) (t : Trunk) (b : CallBody) : Prop :=
  v.dsu.agents[p] = onDuty s.dsu.agents[p] (.alerting (.call t) (deadline s.now s.items.ringLimit)) ∧
  v.dsu.idleList = s.dsu.idleList.erase p ∧
  v.cqm.calls[t] = ⟨s.cqm.calls[t].gen,
    some { b with phase := .alerting p, source := some (musicChannel b.programme), waiting := false }⟩ ∧
  v.cqm.lists[b.queue] = s.cqm.lists[b.queue].erase t ∧
  v.htu.waiting = s.htu.waiting.filter (fun e => e.trunk ≠ t) ∧
  Only { agents := [p], idleList := true, calls := [t], lists := [b.queue], waiting := true, orders := [.ring p] } s v

/-- The agent at `p` becomes READY (R60, R46, R47): rung for the head eligible call of the first queue of its profile that
has one, else READY since now at the tail of the idle list. Its pending action is cleared (R42). -/
def Readied (s v : State) (p : Position) : Prop :=
  let m := s.setAgent p { s.dsu.agents[p] with pendingAction := .none }
  match s.profileWalk p with
  | some t => ∃ b ∈ s.call t, Rung m v p t b
  | none =>
    v.dsu.agents[p] = onDuty m.dsu.agents[p] (.ready s.now) ∧
    v.dsu.idleList = s.dsu.idleList.erase p ++ [p] ∧
    Only { agents := [p], idleList := true } s v

/-- The agent at `p` goes to NOT_READY, out of the idle list, nothing pending (R42, R47). -/
def StoodDown (s v : State) (p : Position) : Prop :=
  v.dsu.agents[p] = { onDuty s.dsu.agents[p] .notReady with pendingAction := .none } ∧
  v.dsu.idleList = s.dsu.idleList.erase p ∧
  Only { agents := [p], idleList := true } s v

/-- The agent at `p` goes to SIGNED_OFF: no profile, out of the idle list, nothing pending (R42, R51). -/
def SignedOff (s v : State) (p : Position) : Prop :=
  v.dsu.agents[p] = ⟨none, s.dsu.agents[p].headset, .none⟩ ∧
  v.dsu.idleList = s.dsu.idleList.erase p ∧
  Only { agents := [p], idleList := true } s v

/-- The agent at `p` takes its pending action, or becomes READY where it holds none (R62, R64). A pending READY, which the
agent of a call never holds (R42), counts as none: the model's choice of log entry 27. -/
def TookPending (s v : State) (p : Position) : Prop :=
  match s.dsu.agents[p].pendingAction with
  | .notReady => StoodDown s v p
  | .signOff => SignedOff s v p
  | .none | .ready => Readied s v p

/-- The agent at `p` goes to NOT_READY, or to SIGNED_OFF where that is pending (R54, R61). -/
def OutOfService (s v : State) (p : Position) : Prop :=
  match s.dsu.agents[p].pendingAction with
  | .signOff => SignedOff s v p
  | .none | .ready | .notReady => StoodDown s v p

/-- AGENT_STATE is written for the agent at `p` where it stands in SIGNED_OFF, NOT_READY or READY and the event began, in
`s0`, with it in another state; it carries the profile held, or the one held before where the agent has signed off
(R65). -/
def AgentReported (s v s0 : State) (p : Position) (cause : AgentCause) : Prop :=
  let was := s0.dsu.agents[p]
  let is := s.dsu.agents[p]
  if is.kind ≠ was.kind ∧ (is.kind = .signedOff ∨ is.kind = .notReady ∨ is.kind = .ready) then
    v = s.writeReport (.agentState p was.kind is.kind ((if is.post.isSome then is.post else was.post).map (·.profile)) cause)
  else v = s

/-- AHT16 after a sample: the old value and the difference 16n - AHT16 divided by 8, rounded to nearest, halves away from
zero (R85). -/
def Smoothed (old new n : Nat) : Prop :=
  let d : Int := 16 * (n : Int) - (old : Int)
  (new : Int) = (old : Int) + d.sign * (((d.natAbs + 4) / 8 : Nat) : Int)

/-- A wrap-up with the fields `w` ends (R77 to R79, R70): WRAP_END, then the handle sample, then the agent's change of state.
The AGENT_STATE report of the event is stated apart. -/
def WrapEnded (s v : State) (p : Position) (w : WrapFields) (endedBy : EndedBy) (dest : Destination) : Prop :=
  let ticks := elapsed w.start s.now
  ∃ m,
    (Smoothed s.est.recs[w.queue].aht16 m.est.recs[w.queue].aht16 (min (w.talk + ticks) 65535) ∧
      m.est.recs[w.queue] = { s.est.recs[w.queue] with aht16 := m.est.recs[w.queue].aht16, pendingFlag := true } ∧
      Only { estimates := [w.queue], reports := [.wrapEnd p w.queue ticks endedBy] } s m) ∧
    match dest with
    | .ready => Readied m v p
    | .notReady => StoodDown m v p
    | .signedOff => SignedOff m v p

/-- The agent at `p` enters WRAPUP for queue `q` with `talk` ticks (R67); with a WRAP_TIME of 0 the wrap-up ends at once
(R68). -/
def WrapOpened (s v : State) (p : Position) (q : QueueNo) (talk : Nat) : Prop :=
  let items := s.queueItems q
  let w : WrapFields :=
    ⟨q, s.now, deadline s.now items.wrapTime, deadline s.now items.wrapMin, 0, min talk 65535⟩
  let m := s.setAgent p (onDuty s.dsu.agents[p] (.wrapup w))
  if items.wrapTime = 0 then WrapEnded m v p w .expiry (State.expiryDestination s.dsu.agents[p]) else v = m

/-! ## Acts on a call (Section 2) -/

/-- A junctor that was BOUND goes into HOLDOFF, at the tail of the holdoff order; any other is left (R137). -/
def Freed (s v : State) (j : Option Junctor) : Prop :=
  match j with
  | none => v.sps.holdoffOrder = s.sps.holdoffOrder
  | some j =>
    match s.sps.junctors[j] with
    | .bound _ =>
      v.sps.junctors[j] = .holdoff (deadline s.now s.items.junctorHoldoff) ∧
      v.sps.holdoffOrder = s.sps.holdoffOrder ++ [j]
    | .free | .holdoff _ =>
      v.sps.junctors[j] = s.sps.junctors[j] ∧ v.sps.holdoffOrder = s.sps.holdoffOrder

/-- The call `b` on `t` ends (R33, R13, R39, R137): FREE with its generation kept, out of its list and of the waiting list,
its slot free and its junctor in holdoff, the filter cancelled and the filtered loop at the raw state; `frames` are given,
`orders` issued, and CALL_END written with the outcome, waited and talk ticks and party given. -/
def Ended (s v : State) (t : Trunk) (b : CallBody) (outcome : CallOutcome) (waited talk : Nat) (party : Party)
    (frames : List (Station × Payload)) (orders : List Order) : Prop :=
  v.cqm.calls[t] = ⟨s.cqm.calls[t].gen, none⟩ ∧
  v.cqm.lists[b.queue] = s.cqm.lists[b.queue].erase t ∧
  v.lsi.trunks[t] = { s.lsi.trunks[t] with filtered := s.lsi.trunks[t].raw, filterStart := none } ∧
  v.htu.waiting = s.htu.waiting.filter (fun e => e.trunk ≠ t) ∧
  (∀ o ∈ b.phase.slot, v.ofu.slots[o] = none) ∧
  Freed s v b.phase.junctor ∧
  Only
    { trunks := [t], calls := [t], lists := [b.queue], waiting := true, slots := b.phase.slot.toList,
      junctors := b.phase.junctor.toList, holdoffOrder := true, frames := frames, orders := orders,
      reports := [.callEnd t s.cqm.calls[t].gen b.queue outcome (min waited 65535) (min talk 65535) party b.recovered] }
    s v

/-- The match attempt for the QUEUED call on `t` (R56): the agent that the POLICY of its queue chooses is rung, or the call
waits. -/
def Matched (s v : State) (t : Trunk) : Prop :=
  match s.call t with
  | none => v = s
  | some b =>
    match s.chooseAgent b.queue with
    | none => v = s
    | some (p, u) => Rung u v p t b

/-- Trunk `t` is inserted in the list of `q` behind every record that it does not stand ahead of by the three keys, up to the
first that it does (R24); the keys are those that the records carry in `v`. -/
def Inserted (s v : State) (q : QueueNo) (t : Trunk) : Prop :=
  ∃ n ≤ s.cqm.lists[q].length,
    v.cqm.lists[q] = s.cqm.lists[q].take n ++ t :: s.cqm.lists[q].drop n ∧
    (∀ u ∈ s.cqm.lists[q].take n, v.standsAhead t u = false) ∧
    ∀ u ∈ s.cqm.lists[q][n]?, v.standsAhead t u = true

/-- The call `b` on `t` returns from ALERTING or a LENT state (R28, R30, R31, R126): QUEUED at the place of its keys, its
music back, its junctor in holdoff, with priority 3 and the recovered flag from LENT_TALKING; then the match attempt. -/
def Returned (s v : State) (t : Trunk) (b : CallBody) : Prop :=
  let recovery := b.phase.answer.isSome
  ∃ m,
    (m.cqm.calls[t] = ⟨s.cqm.calls[t].gen,
        some { b with
          phase := .queued
          priority := if recovery then 3 else b.priority
          recovered := recovery || b.recovered
          source := some (musicChannel b.programme)
          waiting := false }⟩ ∧
      Inserted s m b.queue t ∧
      Freed s m b.phase.junctor ∧
      m.htu.waiting = s.htu.waiting.filter (fun e => e.trunk ≠ t) ∧
      Only
        { calls := [t], lists := [b.queue], junctors := b.phase.junctor.toList, holdoffOrder := true, waiting := true }
        s m) ∧
    Matched m v t

/-- The call `b` on `t`, OFFERED in slot `o` over junctor `j`, returns to QUEUED in its place (R29): the slot free, the
junctor in holdoff; then the match attempt. Its hold fields stay (R125). -/
def OfferFailed (s v : State) (t : Trunk) (b : CallBody) (o : SlotNo) (j : Junctor) : Prop :=
  ∃ m,
    (m.cqm.calls[t] = ⟨s.cqm.calls[t].gen, some { b with phase := .queued }⟩ ∧
      m.ofu.slots[o] = none ∧
      Freed s m (some j) ∧
      Only { calls := [t], slots := [o], junctors := [j], holdoffOrder := true } s m) ∧
    Matched m v t

/-! ## Acts on a guest (Section 11) and the loss of a peer (10.4) -/

/-- Guest record `g`, holding `r`, is freed and its agent dealt with by the agent's state (R176, R64): into WRAPUP from
TALKING, with the talk ticks from the answer; else STOP_RING where it was ringing, and its pending action or READY. -/
def GuestFreed (s v : State) (g : GuestNo) (r : GuestRec) : Prop :=
  let m := s.setGuest g none
  match s.duty r.agent with
  | some (.talking _) =>
    WrapOpened m v r.agent r.queue
      (match r.phase with
        | .talking a => elapsed a s.now
        | .waitConnect _ | .alerting => 0)
  | some (.alerting _ _) => TookPending (m.issue (.stopRing r.agent)) v r.agent
  | _ => TookPending m v r.agent

/-- Guest record `g` is released with no frame, in an event that began in `s0` (R64, R181): freed, with the AGENT_STATE report
of its agent. -/
def GuestReleased (s v s0 : State) (g : GuestNo) : Prop :=
  ∃ r ∈ s.ofu.guests[g], ∃ m, GuestFreed s m g r ∧
    AgentReported m v s0 r.agent
      (match s0.duty r.agent with
        | some (.talking _) => .wrapEnd
        | _ => .callGone)

/-- Acts done one after another on the members of a list. -/
def Chain {α : Type} (act : α → State → State → Prop) : List α → State → State → Prop
  | [], s, v => v = s
  | a :: rest, s, v => ∃ m, act a s m ∧ Chain act rest m v

/-- The call on `t` is returned by the rule of its state when its peer is lost (R163). -/
def Settled (t : Trunk) (s v : State) : Prop :=
  ∃ b ∈ s.call t,
    match b.phase with
    | .offered o _ j => OfferFailed s v t b o j
    | .lentAlerting _ _ _ | .lentTalking _ _ _ => Returned s v t b
    | .queued | .alerting _ | .talking _ _ => False

/-- The loss of station `x` is settled in an event that began in `s` (R163): the calls that name it, in trunk order, then its
guests, in record order. -/
def LossSettled (s v : State) (x : Station) : Prop :=
  ∃ m,
    Chain Settled ((List.finRange 32).filter (s.callNames x)) s m ∧
    Chain (fun g u w => GuestReleased u w s g) ((List.finRange 16).filter (s.guestFrom x)) m v

/-- The three counts of a PEER_STATE report (R165): offers failed, lent calls returned, guests released. -/
def lossCounts (s : State) (x : Station) : Nat × Nat × Nat :=
  let named := (List.finRange 32).filter (s.callNames x)
  let offers := named.countP (s.offeredTo x)
  (offers, named.length - offers, ((List.finRange 16).filter (s.guestFrom x)).length)

/-- The agent at `p`, who is being rung for `bound`, is given up in an event that began in `s0` (R54, R61, R30, R180):
STOP_RING, out of service with its AGENT_STATE report, then the call back to its queue, or BOUNCE to the guest's origin and
the guest freed. -/
def GivenUp (s v s0 : State) (p : Position) (bound : Bound) (cause : AgentCause) (bounce : BounceCause) : Prop :=
  ∃ m n,
    OutOfService (s.issue (.stopRing p)) m p ∧ AgentReported m n s0 p cause ∧
    match bound with
    | .call t => ∃ b ∈ s.call t, Returned n v t b
    | .guest g => ∃ r ∈ s.ofu.guests[g], v = (n.give r.origin (.bounce r.tag bounce)).setGuest g none

/-! ## What arrives -/

/-- The part is in RUN and no character of the scan link is under way. -/
def Scanning (s : State) : Prop := s.running = true ∧ s.lsi.scanOpen = []

/-- The bits 4-0 of a byte name position `p` (TABLE 13-3). -/
def Names (b : Byte) (p : Position) : Prop := b.toNat % 32 = p.val

/-- The frame `f` of kind `k` that ends on the bus is good, is addressed here and comes from station `x` with contents `c`
(R141 to R144); START was not taken in the midst of it. -/
def Delivers (s : State) (k : FrameKind) (f : RxFrame) (x : Station) (c : Payload) : Prop :=
  s.running = true ∧ s.plc.onBus ≠ .passedOver ∧ receive s.mpi.station s.plc.echo (rxChars k f) f.damaged = .deliver x c

/-- The bus after a frame that an idle character time, or another marked character, has ended (R140, R141; log entries 8 and
10): the idle measure restarts, the next frame has begun or none is in progress, and the last echo is used up. -/
def afterFrame (s : State) (endedByMark : Bool) : State :=
  let busy := endedByMark || s.plc.attempt.isSome
  s.setPlc { s.plc with
    busIdle := if busy then 0 else 1
    onBus := if busy then .begun else .none
    echo := none }

/-- The state in which a frame that ends on the bus is taken. -/
def heard (s : State) (f : RxFrame) : State := afterFrame s f.endedByMark

/-- The supervision record of a trunk whose seizure the CQM has answered: the loop CLOSED and reported (R7). -/
def seized (x : TrunkSup) : TrunkSup := { x with raw := .closed, filtered := .closed, reported := true }

/-! ## Playback (6.4) -/

/-- A PLAYING channel with its next playing block (R108, R109): the oldest of its buffer; where the buffer is empty a stall
block, with the underrun count one higher, saturating at 255. -/
def nextPlayed (r : ChannelRec) (x : ClipRun) : ChannelRec :=
  match x.buffer with
  | b :: rest => { r with state := .playing { x with buffer := rest } (some (.block b)) }
  | [] => { r with state := .playing x (some .stall), underruns := min (r.underruns + 1) 255 }

/-- What one channel does at a block boundary: the record after it, and whether it raises a segment boundary or the end of an
announcement (R108 to R111). -/
def AtBoundary (s : State) (k : Channel) (after : ChannelRec) (segment ended : Bool) : Prop :=
  let r := s.pbc.channels[k]
  match r.state with
  | .idle | .loading _ => after = r ∧ segment = false ∧ ended = false
  | .playing x b =>
    let block : Option Block := match b with
      | some (.block y) => some y
      | some .stall | none => none
    let last := block.any (·.last)
    if k.val < 2 then
      segment = false ∧ ended = last ∧
      (last = true → after = { r with state := .idle }) ∧
      (last = false → after = nextPlayed r x)
    else
      let limit := s.mpi.image.music[programmeOf k].segBlocks
      ended = false ∧ segment = (block.isSome && (limit ≤ x.segment + 1 || last)) ∧
      after = nextPlayed r
        { x with segment := if segment then 0 else if block.isSome then x.segment + 1 else x.segment }

/-- Channel `k` takes a block boundary as an event of its own (R108, R127; log entry 23). In IDLE and LOADING nothing happens.
In PLAYING it finishes its playing block and takes the next; the calls that hear it return to music where its announcement
ends (R122), or join the waiting list in trunk order where it raises a segment boundary (R117); then, where an entry joined or
it became IDLE, a start check (R119), and a grant (R104). -/
def BoundaryTaken (k : Channel) (s u : State) : Prop :=
  match s.pbc.channels[k].state with
  | .idle | .loading _ => u = s
  | .playing _ _ =>
    ∃ (after : ChannelRec) (segment ended : Bool) (v : State),
      AtBoundary s k after segment ended ∧
      (let hearsEnd := fun b : CallBody => ended && b.source == some k
       let joins := fun b : CallBody =>
         (match b.phase with
          | .queued | .offered _ _ _ => true
          | .alerting _ | .talking _ _ | .lentAlerting _ _ _ | .lentTalking _ _ _ => false) &&
           segment && b.source == some k && !b.waiting && b.nextDue == .due && (s.queueItems b.queue).bandBase.isSome
       let clipOf := fun (t : Trunk) (b : CallBody) =>
         (s.queueItems b.queue).bandBase.map fun base =>
           min (base.val + s.band b.queue (s.queuePosition b.queue t)) 31
       v.pbc.channels[k] = after ∧
       (∀ t : Trunk, v.cqm.calls[t] = ⟨s.cqm.calls[t].gen, (s.call t).map fun b =>
         if hearsEnd b then
           { b with
             source := some (musicChannel b.programme)
             nextDue := if (s.queueItems b.queue).annInterval = 0 then .never
               else .at (deadline s.now (s.queueItems b.queue).annInterval) }
         else if joins b then { b with waiting := true }
         else b⟩) ∧
       (∃ joined : List WaitEntry,
         v.htu.waiting = s.htu.waiting ++ joined ∧
         joined.map (·.trunk) = (List.finRange 32).filter (fun t => (s.call t).any joins) ∧
         ∀ e ∈ joined, ∀ b ∈ s.call e.trunk, clipOf e.trunk b = some e.clip.val) ∧
       Only { channels := [k], calls := List.finRange 32, waiting := true } s v ∧
       (let start := v.htu.waiting ≠ s.htu.waiting ∨ (k.val < 2 ∧ v.pbc.channels[k].state = .idle)
        u = (if start then v.startCheck 35 else v).grant.close s))

/-! ## The tick (Section 1) -/

/-- The row of the table that is one event of a tick: a deadline, the end of the sweep or of the hold, or a division. -/
def rowOf : TickEvent → Instr
  | .disconnectFilter t => .disconnectFilterExpiry t
  | .headsetFilter p => .headsetFilterExpiry p
  | .sweepEnd => .startSweepEnd
  | .ring p => .ringDeadline p
  | .readyAtMin p => .readyAtMin p
  | .wrapExpiry p => .wrapExpiry p
  | .nextDue t => .nextDueReached t
  | .holdoffEnd => .junctorHoldoffEnd
  | .availPeriod => .availPeriodExpiry
  | .presence => .presenceTimeout
  | .offer => .offerDeadline
  | .lent => .lentDeadline
  | .connect => .connectDeadline
  | .spacingEnd => .availSpacingEnd
  | .division => .divisionComplete

/-- The rows of `es` take the part from `s` to `v`, one after another. -/
def RowsTaken (es : List TickEvent) (s v : State) : Prop := Chain (fun e u w => exec (rowOf e) u = .next w) es s v

/-- The deadlines in the default order of one tick (log entry 3), the OFU's own last and in the order of R168; each station,
slot, trunk and guest record of a row that takes the first reached has a turn. -/
def tickOrder : List TickEvent :=
  (List.finRange 32).map .disconnectFilter ++ (List.finRange 24).map .headsetFilter ++ [.sweepEnd] ++
    (List.finRange 24).map .ring ++ (List.finRange 24).flatMap (fun p => [.readyAtMin p, .wrapExpiry p]) ++
    (List.finRange 32).map .nextDue ++ [.holdoffEnd, .availPeriod] ++ List.replicate 16 .presence ++
    List.replicate 4 .offer ++ List.replicate 32 .lent ++ List.replicate 16 .connect

/-- The part at the new value of the clock, before any block has looked at it: the pulses up to the tick counted on both
counts, none where a tick is due already (R1, R108; log entry 7), the tick count one higher, and the frame that the last pulse
begins sent by the connection map (R129; log entry 20). -/
def ticked (s : State) : State :=
  let n := if s.clk.ticksDue = 0 then 800 - s.clk.frameCount else 0
  { s with
    clk := ⟨s.clk.tickCount + 1, (s.clk.frameCount + n) % 800, s.clk.ticksDue + (s.clk.frameCount + n) / 800 - 1⟩
    pbc := { s.pbc with
      blockFrameCount := (s.pbc.blockFrameCount + n) % 256
      boundariesDue := s.pbc.boundariesDue + (s.pbc.blockFrameCount + n) / 256 }
    sps := { s.sps with sending := if n = 0 then s.sps.sending else s.framePaths } }

/-- The end of a tick: the queues Q0 to Q7 take their turns of the offer scan, each completed before the next, in one event
(R168), and the hold of a placeholder ends where it does (R148; log entry 35). -/
def scanned (s : State) : Host.Outcome State Fault Refusal :=
  exec .availSpacingEnd (((List.finRange 8).foldl (fun u q => u.scanQueue q) s).close s)

/-! ## Invariants -/

/-- The free order holds exactly the FREE junctors and the holdoff order exactly the HOLDOFF junctors, each once (R135). -/
def JunctorOrders (s : State) : Prop :=
  s.sps.freeOrder.Nodup ∧ s.sps.holdoffOrder.Nodup ∧
  ∀ j : Junctor,
    match s.sps.junctors[j] with
    | .free => j ∈ s.sps.freeOrder ∧ j ∉ s.sps.holdoffOrder
    | .holdoff _ => j ∉ s.sps.freeOrder ∧ j ∈ s.sps.holdoffOrder
    | .bound _ => j ∉ s.sps.freeOrder ∧ j ∉ s.sps.holdoffOrder

/-- A trunk has one entry on the waiting list while its waiting flag is set, and none otherwise (R114, R118). -/
def WaitingFlags (s : State) : Prop :=
  ∀ t : Trunk, s.htu.waiting.countP (fun e => e.trunk == t) =
    match s.call t with
    | some b => if b.waiting then 1 else 0
    | none => 0

/-- Each queue list holds exactly the QUEUED and OFFERED records of its queue, each once (R24). -/
def QueueLists (s : State) : Prop :=
  ∀ q : QueueNo, s.cqm.lists[q].Nodup ∧
    ∀ t : Trunk, t ∈ s.cqm.lists[q] ↔
      ∃ b ∈ s.call t, b.queue = q ∧ (b.phase = .queued ∨ ∃ o x j, b.phase = .offered o x j)

/-- Agents, calls and guests name each other (R41, TABLE 3-1, TABLE 2-1, TABLE 11-4): an ALERTING or TALKING agent is bound to
the call or guest that names it in the same state, a RESERVED agent to a guest in WAIT_CONNECT, and the other way round. -/
def AgentsBound (s : State) : Prop :=
  (∀ p : Position,
    match s.duty p with
    | some (.alerting (.call t) _) => ∃ b ∈ s.call t, b.phase = .alerting p
    | some (.talking (.call t)) => ∃ b ∈ s.call t, ∃ a, b.phase = .talking p a
    | some (.reserved g) => ∃ r ∈ s.ofu.guests[g], r.agent = p ∧ ∃ d, r.phase = .waitConnect d
    | some (.alerting (.guest g) _) => ∃ r ∈ s.ofu.guests[g], r.agent = p ∧ r.phase = .alerting
    | some (.talking (.guest g)) => ∃ r ∈ s.ofu.guests[g], r.agent = p ∧ ∃ a, r.phase = .talking a
    | some .notReady | some (.ready _) | some (.wrapup _) | none => True) ∧
  (∀ t : Trunk, ∀ b ∈ s.call t, ∀ p,
    (b.phase = .alerting p → ∃ d, s.duty p = some (.alerting (.call t) d)) ∧
    ∀ a, b.phase = .talking p a → s.duty p = some (.talking (.call t))) ∧
  ∀ g : GuestNo, ∀ r ∈ s.ofu.guests[g],
    match r.phase with
    | .waitConnect _ => s.duty r.agent = some (.reserved g)
    | .alerting => ∃ d, s.duty r.agent = some (.alerting (.guest g) d)
    | .talking _ => s.duty r.agent = some (.talking (.guest g))

/-- The idle list holds exactly the READY agents, each once (R47). -/
def IdleList (s : State) : Prop :=
  s.dsu.idleList.Nodup ∧ ∀ p : Position, p ∈ s.dsu.idleList ↔ ∃ since, s.duty p = some (.ready since)

/-- Own junctors, offer slots and call records name each other (R135, R167): a junctor is BOUND to a trunk exactly where the
trunk's record holds it, and a slot is BUSY with a trunk and its queue exactly where the record is OFFERED in it. -/
def OverflowBound (s : State) : Prop :=
  (∀ (j : Junctor) (t : Trunk), s.sps.junctors[j] = .bound t ↔ ∃ b ∈ s.call t, b.phase.junctor = some j) ∧
  (∀ (o : SlotNo), ∀ d ∈ s.ofu.slots[o], ∃ b ∈ s.call d.trunk, b.queue = d.queue ∧ ∃ x j, b.phase = .offered o x j) ∧
  ∀ t : Trunk, ∀ b ∈ s.call t, ∀ o x j, b.phase = .offered o x j → ∃ d ∈ s.ofu.slots[o], d.trunk = t

/-- The contents of a frame that can be sent: the counts of a notice in the ranges to which R156 clamps them, and the waited
ticks of an OFFER clamped as R170 says. The other fields cannot lie outside their ranges. -/
def InRange : Payload → Prop
  | .avail n => n.room ≤ 15 ∧ ∀ q : QueueNo, n.idle[q] ≤ 15 ∧ n.band[q] ≤ 7
  | .offer o => o.waited ≤ 65535
  | _ => True

/-! ## What the controller reads (TABLES 13-6 and 13-7) -/

/-- An entry of a table (13.3): a mask with bit i set where field i is present, then the fields in order, each given here as
its number of bytes and its bytes where it is present; an absent one is sent as 0. -/
def entryOf (row : List (Nat × Option (List Byte))) : List Byte :=
  let mask := (row.zipIdx.map fun e => if e.1.2.isSome then 2 ^ e.2 else 0).sum
  bytes2 mask ++ row.flatMap fun e => e.2.getD (List.replicate e.1 0)

/-- A field of one byte, of a number or a code. -/
def one (n : Option Nat) : Nat × Option (List Byte) := (1, n.map fun k => [byte k])
/-- A field of two bytes. -/
def two (n : Option Nat) : Nat × Option (List Byte) := (2, n.map bytes2)
/-- A field of four bytes, of a number. -/
def four (n : Option Nat) : Nat × Option (List Byte) := (4, n.map bytes4)
/-- A field of four bytes, of a clock value. -/
def clock (a : Option Stamp) : Nat × Option (List Byte) := four (a.map (·.toNat))

/-- The numbers of a report lie in the ranges to which its section clamps them (13.4). -/
def Reportable : Report → Prop
  | .callEnd _ _ _ _ waited talk _ _ => waited ≤ 65535 ∧ talk ≤ 65535
  | .wrapEnd _ _ ticks _ => ticks ≤ 65535
  | .agentState _ _ _ _ _ => True
  | .peerState _ _ _ _ _ offers lent guests => offers ≤ 255 ∧ lent ≤ 255 ∧ guests ≤ 255
  | .storeFault _ _ _ faults => faults ≤ 255

/-! ## Configuration items (TABLES 12-3 and 12-4) -/

/-- The range of a station item (TABLE 12-3); for ATTN_ENABLE the five enables as bits 0-4. -/
def stationRange : Fin 12 → Nat × Nat :=
  ![(2, 20), (1, 50), (50, 600), (2, 20), (2, 20), (60, 1200), (5, 100), (15, 600), (5, 100), (0, 16), (60, 3000), (0, 31)]

/-- A flag as a number. -/
def bit (b : Bool) : Nat := if b then 1 else 0

/-- The value of a station item as a number. -/
def stationValue (x : StationItems) : Fin 12 → Nat :=
  ![x.disconnectFilter, x.headsetFilter, x.ringLimit, x.offerLimit, x.connectLimit, x.lentLimit, x.availPeriod,
    x.presenceLimit, x.junctorHoldoff, x.guestLimit, x.bandWidth,
    bit x.attnEnable.callEnd + 2 * bit x.attnEnable.wrapEnd + 4 * bit x.attnEnable.agentState +
      8 * bit x.attnEnable.peerState + 16 * bit x.attnEnable.storeFault]

/-- A clip number, or 255 for NONE (TABLE 13-5). -/
def clipValue (c : Option Clip) : Nat := (c.map (·.val)).getD 255

/-- The values that an item of a queue may take (TABLE 12-4). -/
def queueRange (row : Fin 11) (n : Nat) : Bool :=
  (![n ≤ 1, 1 ≤ n && n ≤ 32, n ≤ 3000, n ≤ 3000, n ≤ 1200, n ≤ 65535, n ≤ 31 || n = 255, n ≤ 31 || n = 255,
    n = 0 || 100 ≤ n && n ≤ 6000, n ≤ 6000, n ≤ 7] : Fin 11 → Bool) row

/-- The value of an item of a queue as a number. -/
def queueValue (x : QueueItems) : Fin 11 → Nat :=
  ![match x.policy with
      | .longestIdle => 0
      | .circular => 1,
    x.depthLimit, x.wrapTime, x.wrapMin, x.wrapExt, x.ahtSeed, clipValue x.initialClip, clipValue x.bandBase,
    x.annInterval, x.ovfWait, x.ovfBand]

/-- The data bytes of a SET of item `n` with a two-byte value. -/
def setData (n value : Nat) : List Byte := [byte (n / 256), byte n, byte (value / 256), byte value]

end Sys2Proof.Claims

open Sys2Proof Sys2Proof.Machine Sys2Proof.Claims

/-! ## The machine as a whole -/

/-- The command at the front of the queue is taken, and it runs as `exec` says on the state with the queue's rest; with no
command waiting the part stays as it is (log entry 2). -/
def Obligations.StepRunsTheFrontCommand : Prop :=
  (∀ (s : State) (c : Instr) (rest : List Instr),
      step { s with pending := c :: rest } = exec c { s with pending := rest }) ∧
  ∀ s : State, s.pending = [] → step s = .next s

/-- What the RESET pin leaves, read from State.reset: the values that the rules give, block by block. The clock (R2), the LSI
(R4, R14), the calls and lists (R18), the agents (R43), the estimates (R83), the channels (R101), the waiting list (R114), the
map, the highways and the junctors (R130, R129, R135), the link (R145, R153, R148), the peers (R155, R157), the slots and
guests (R167, R176), the maintenance port (R185). -/
def Obligations.ResetLeaves : Prop :=
  let s := State.reset
  (s.clk.tickCount = 0 ∧ s.clk.frameCount = 0 ∧ s.clk.ticksDue = 0) ∧
  ((∀ t : Trunk, s.lsi.trunks[t] = ⟨.opened, .opened, none, false⟩) ∧
    (∀ p : Position, s.lsi.positions[p] = ⟨.absent, .absent, none, false⟩) ∧
    s.lsi.scanErrors = 0 ∧ s.lsi.orderLosses = 0 ∧ s.lsi.orders = []) ∧
  ((∀ t : Trunk, s.cqm.calls[t] = ⟨0, none⟩) ∧ ∀ q : QueueNo, s.cqm.lists[q] = []) ∧
  ((∀ p : Position, s.dsu.agents[p] = ⟨none, .absent, .none⟩) ∧ s.dsu.idleList = [] ∧
    ∀ q : QueueNo, s.dsu.hunt[q] = 0) ∧
  ((∀ q : QueueNo, s.est.recs[q] = ⟨0, 0, 0, false, 0⟩) ∧ s.est.inFlight = none) ∧
  ((∀ c : Channel, s.pbc.channels[c] = ⟨.idle, 0, 0, 0⟩) ∧ s.pbc.port = none ∧ s.pbc.blockFrameCount = 0 ∧
    s.pbc.boundariesDue = 0) ∧
  s.htu.waiting = [] ∧
  ((∀ t : Trunk, s.sps.map.trunks[t] = none) ∧ (∀ p : Position, s.sps.map.positions[p] = none) ∧
    (∀ j : Junctor, s.sps.map.forward[j] = none) ∧ (∀ g : GuestNo, s.sps.map.returns[g] = none) ∧
    (∀ t : Trunk, s.sps.sending.trunks[t] = none) ∧ (∀ p : Position, s.sps.sending.positions[p] = none) ∧
    s.sps.sending.driven = [] ∧ (∀ j : Junctor, s.sps.junctors[j] = .free) ∧
    s.sps.freeOrder = [0, 1, 2, 3, 4, 5, 6, 7] ∧ s.sps.holdoffOrder = []) ∧
  (s.plc.queue = [] ∧ s.plc.renew = false ∧ s.plc.attempt = none ∧ s.plc.lastAvail = none ∧ s.plc.crcErr = 0 ∧
    s.plc.lengthErr = 0 ∧ s.plc.idClash = 0 ∧ s.plc.contentionDrop = 0 ∧ s.plc.txqDrop = 0) ∧
  ((∀ x : Station, s.pvt.peers[x] = .unknown) ∧ s.pvt.periodDeadline = none) ∧
  ((∀ o : SlotNo, s.ofu.slots[o] = none) ∧ ∀ g : GuestNo, s.ofu.guests[g] = none) ∧
  (s.mpi.mode = .config ∧ s.mpi.image = defaultImage ∧ s.mpi.pointer = ⟨0, 0⟩ ∧ s.mpi.fifo = [] ∧
    s.mpi.lostReports = 0 ∧ s.mpi.attn = false)

/-- The state after RESET has every invariant that the statements below say a step keeps. -/
def Obligations.ResetIsSafe : Prop :=
  State.reset.settled = true ∧ State.reset.configIdle = true ∧ State.reset.configQuiet = true ∧
  State.reset.withinSizes = true ∧ JunctorOrders State.reset ∧ WaitingFlags State.reset ∧ QueueLists State.reset ∧
  AgentsBound State.reset ∧ IdleList State.reset ∧ OverflowBound State.reset

/-- Every step leaves the part settled: the divider free only with nothing pending (R88), the division in flight with the
inputs that its queue has (R91), nothing left to begin on the bus (R149), the connection map as the records say (R130) and
the ATTN line at its level (R191); and in CONFIG nothing pending or in flight (R83). The premise rules out the states in which
something goes on in CONFIG, which no step reaches (ConfigStaysQuiet). -/
def Obligations.EveryStepSettles : Prop :=
  ∀ s u : State, s.settled = true → s.configQuiet = true → step s = .next u → u.settled = true ∧ u.configIdle = true

/-- Every step keeps CONFIG quiet. In CONFIG the part stands as after RESET but for the station number, the image, the table
pointer, the response, the orders that answer characters and the character under way, the idle measure and the frame in
progress on the bus, and the commands that wait: the clock stopped at 0 (R2), no filter (R4), every call record FREE (R18),
every agent SIGNED_OFF and in no wrap-up (R43, R66), no division in flight or pending (R83), every channel IDLE (R101), no
connection and every junctor FREE (R130, R135), nothing to send (R153), every peer UNKNOWN and no period timer (R155, R157),
every slot and guest FREE (R167, R176). -/
def Obligations.ConfigStaysQuiet : Prop :=
  ∀ s u : State, s.configQuiet = true → step s = .next u → u.configQuiet = true

/-- Every step keeps the queues of fixed size within their sizes (R14, R146, R190) and the saturating counts within their
greatest values (R4, R145, R190). -/
def Obligations.SizesAreKept : Prop :=
  ∀ s u : State, s.withinSizes = true → step s = .next u → u.withinSizes = true

/-- Every step keeps the junctors' orders: the free order holds exactly the FREE junctors and the holdoff order exactly the
HOLDOFF junctors, each once (R135). -/
def Obligations.JunctorOrdersAreKept : Prop :=
  ∀ s u : State, JunctorOrders s → step s = .next u → JunctorOrders u

/-- Every step keeps the waiting list and the waiting flags in agreement: a trunk has an entry, and only one, exactly while
its flag is set (R114, R118). -/
def Obligations.WaitingFlagsAreKept : Prop :=
  ∀ s u : State, WaitingFlags s → step s = .next u → WaitingFlags u

/-- Every step keeps the bindings of agents (R41): an ALERTING or TALKING agent and the call or guest that it is bound to name
each other in the same state, and so do a RESERVED agent and its guest in WAIT_CONNECT. -/
def Obligations.AgentBindingsAreKept : Prop :=
  ∀ s u : State, AgentsBound s → step s = .next u → AgentsBound u

/-- Every step keeps the idle list (R47): it holds exactly the READY agents, each once. The premise on the bindings of agents
is an invariant of its own (AgentBindingsAreKept). -/
def Obligations.IdleListIsKept : Prop :=
  ∀ s u : State, AgentsBound s → IdleList s → step s = .next u → IdleList u

/-- Every step keeps the queue lists (R24): each holds exactly the QUEUED and OFFERED records of its queue, each once. The
premise on the bindings of agents is an invariant of its own (AgentBindingsAreKept). -/
def Obligations.QueueListsAreKept : Prop :=
  ∀ s u : State, AgentsBound s → QueueLists s → step s = .next u → QueueLists u

/-- Every step keeps the junctors and the offer slots in agreement with the call records (R135, R167): a junctor is BOUND to a
trunk exactly where the trunk's record holds it in OFFERED or a LENT state, and a slot is BUSY with a trunk and its queue
exactly where the record is OFFERED in it. The other three premises are invariants of their own (AgentBindingsAreKept,
QueueListsAreKept, JunctorOrdersAreKept). -/
def Obligations.JunctorsAndSlotsAgree : Prop :=
  ∀ s u : State, AgentsBound s → QueueLists s → JunctorOrders s → OverflowBound s → step s = .next u → OverflowBound u

/-- The image, the station number and the mode change only as R185, R186 and R188 say: the image in RUN never, but by the
RESET pin, and in CONFIG only by SET and the RESET pin; the station number only by the RESET pin; CONFIG becomes RUN only by
START, and RUN becomes CONFIG only by RESTART and the RESET pin. -/
def Obligations.ModeAndImageAreKept : Prop :=
  ∀ (c : Instr) (s u : State), wellFormed c = true → exec c s = .next u → (∀ x, c ≠ .resetPin x) →
    u.mpi.station = s.mpi.station ∧
    (u.mpi.image ≠ s.mpi.image → s.mpi.mode = .config ∧ ∃ d, c = .set d) ∧
    (u.mpi.mode ≠ s.mpi.mode →
      (s.mpi.mode = .config ∧ c = .start []) ∨ (s.mpi.mode = .run ∧ c = .restart []))

/-- The generation of a call record rises by one, modulo 16, when a seizure of its trunk is admitted, and changes at no
other command but the RESET pin and RESTART (R19). -/
def Obligations.GenerationsRiseAtAdmission : Prop :=
  ∀ (c : Instr) (s u : State) (t : Trunk), wellFormed c = true → s.lsi.scanOpen = [] → exec c s = .next u →
    (∀ x, c ≠ .resetPin x) → (∀ d, c ≠ .restart d) →
    if s.call t = none ∧ u.call t ≠ none then
      (∃ k, c = .seize (byte t.val) k) ∧ u.cqm.calls[t].gen = s.cqm.calls[t].gen + 1
    else u.cqm.calls[t].gen = s.cqm.calls[t].gen

/-! ## Formats of Section 13 -/

/-- A frame of every kind, written for sending (TABLES 13-1 and 13-2, R192) and taken whole and undamaged through the checks
of R142, reads as its source and contents (R193); the counts of an AVAIL are those that R156 clamps. -/
def Obligations.FramesReadAsSent : Prop :=
  ∀ (x dest : Station) (c : Payload), InRange c → checkFrame (frameChars x ⟨dest, c⟩) false = .good x c

/-- A frame that another station sends is taken here where it is addressed here or broadcast, and skipped elsewhere (R141);
one damaged character makes it a CRC error (R142); a frame under this station's own number is its echo where its characters
are those of the attempt that completed, and another station's otherwise (R143). That an echo is known by its characters is
the model's choice of log entry 10. -/
def Obligations.FramesAreFiltered : Prop :=
  ∀ (me x dest : Station) (c : Payload) (echo : Option (List Byte)), InRange c →
    let chars := frameChars x ⟨dest, c⟩
    let here := dest = me ∨ c.kind = .avail
    (here → x ≠ me → receive me echo chars false = .deliver x c) ∧
    (here → receive me echo chars true = .crcError) ∧
    (here → x = me → echo = some chars → receive me echo chars false = .echo) ∧
    (here → x = me → echo ≠ some chars → receive me echo chars false = .clash) ∧
    (¬ here → ∀ damaged, receive me echo chars damaged = .skipped)

/-! ## Orders, frames and reports handed on -/

/-- The order queue (R14): an order joins the tail, or is dropped where 64 stand, counted in RUN alone. ORDER_SENT takes the
head away and changes nothing else. The transmit queue (R146, R147): a frame joins the tail where fewer than 8 frames stand,
beside the placeholder, and is dropped and counted where 8 do. A request makes an ABSENT placeholder WAITING at the tail,
leaves a WAITING one, and marks a SENDING one for renewal. -/
def Obligations.OrderAndTransmitQueuesFill : Prop :=
  ((∀ (s : State) (o : Order),
        (s.lsi.orders.length < 64 → s.issue o = { s with lsi := { s.lsi with orders := s.lsi.orders ++ [o] } }) ∧
        (64 ≤ s.lsi.orders.length → s.running = true →
          s.issue o = { s with lsi := { s.lsi with orderLosses := min (s.lsi.orderLosses + 1) 255 } }) ∧
        (64 ≤ s.lsi.orders.length → s.running = false → s.issue o = s)) ∧
    ∀ (s : State) (o : Order) (rest : List Order), s.lsi.orders = o :: rest →
      exec .orderSent s = .next { s with lsi := { s.lsi with orders := rest } }) ∧
  ∀ (s : State) (x : Station) (c : Payload),
    (s.plc.queue.countP (·.isFrame) < 8 →
      s.give x c = { s with plc := { s.plc with queue := s.plc.queue ++ [⟨.frame ⟨x, c⟩, 0⟩] } }) ∧
    (8 ≤ s.plc.queue.countP (·.isFrame) →
      s.give x c = { s with plc := { s.plc with txqDrop := min (s.plc.txqDrop + 1) 65535 } }) ∧
    ((∀ e ∈ s.plc.queue, e.body ≠ .notice) →
      s.requestNotice = { s with plc := { s.plc with queue := s.plc.queue ++ [⟨.notice, 0⟩] } }) ∧
    ∀ (before after : List TxEntry) (n : Nat), (∀ e ∈ before, e.body ≠ .notice) →
      s.plc.queue = before ++ ⟨.notice, n⟩ :: after →
      (n = 0 → s.requestNotice = s) ∧
      (0 < n → s.requestNotice = { s with plc := { s.plc with renew := true } })

/-- The report FIFO (R190): a report joins the tail where fewer than 64 are held, and is dropped and counted where 64 are.
REPORT_NEXT, in either mode, removes the head and answers OK with it, or EMPTY; the ATTN line falls with the last report
that raised it (R191). STATUS answers the mode, the station number, the reports held and the lost-report count, which
becomes 0. -/
def Obligations.ReportFifoHolds64 : Prop :=
  (∀ (s : State) (r : Report),
      (s.mpi.fifo.length < 64 → s.writeReport r = { s with mpi := { s.mpi with fifo := s.mpi.fifo ++ [r] } }) ∧
      (64 ≤ s.mpi.fifo.length →
        s.writeReport r = { s with mpi := { s.mpi with lostReports := min (s.mpi.lostReports + 1) 255 } })) ∧
  (∀ (s : State) (r : Report) (rest : List Report), s.mpi.fifo = r :: rest → s.sps.map = s.connections →
      exec (.reportNext []) s = .next { s with mpi := { s.mpi with
        fifo := rest
        attn := s.running && rest.any s.items.attnEnable.raises
        response := some (0 :: r.bytes) } }) ∧
  (∀ s : State, s.mpi.fifo = [] →
      exec (.reportNext []) s = .next { s with mpi := { s.mpi with response := some [5] } }) ∧
  ∀ s : State,
    exec (.status []) s = .next { s with mpi := { s.mpi with
      lostReports := 0
      response := some [0, if s.running then 1 else 0, byte s.mpi.station.val, byte s.mpi.fifo.length,
        byte s.mpi.lostReports] } }

/-- The bytes of a report (TABLE 13-6), with the codes of its outcomes, parties, states and causes; the address of an
INVALID_CLIP report is sent as 0 (R113). Two reports whose numbers lie in the ranges of their sections have the same bytes
only where they are the same. -/
def Obligations.ReportsAreSentAsBytes : Prop :=
  (∀ (t : Trunk) (g : Generation) (q : QueueNo) (o : CallOutcome) (waited talk : Nat) (party : Party) (r : Bool),
      Report.bytes (.callEnd t g q o waited talk party r) =
        [1, byte t.val, byte g.toNat, byte q.val,
          match o with
          | .answeredLocal => 1
          | .answeredPeer => 2
          | .abandoned => 3
          | .rejected => 4] ++ bytes2 waited ++ bytes2 talk ++
        [match party with
          | .none => 0
          | .agent p => byte (64 + p.val)
          | .peer x => byte (128 + x.val), byte (bit r)]) ∧
  (∀ (p : Position) (q : QueueNo) (ticks : Nat) (e : EndedBy),
      Report.bytes (.wrapEnd p q ticks e) =
        [2, byte p.val, byte q.val] ++ bytes2 ticks ++
        [match e with
          | .expiry => 1
          | .readyKey => 2
          | .readyAtMin => 3
          | .notReadyKey => 4]) ∧
  (let state : AgentKind → Byte := fun
      | .signedOff => 0
      | .notReady => 1
      | .ready => 2
      | .reserved => 3
      | .alerting => 4
      | .talking => 5
      | .wrapup => 6
   ∀ (p : Position) (a b : AgentKind) (f : Option ProfileNo) (c : AgentCause),
      Report.bytes (.agentState p a b f c) =
        [3, byte p.val, state a, state b, byte ((f.map (·.val)).getD 255),
          match c with
          | .key => 1
          | .headsetLoss => 2
          | .noAnswer => 3
          | .callGone => 4
          | .wrapEnd => 5]) ∧
  (let state : PeerKind → Byte := fun
      | .unknown => 0
      | .present => 1
      | .absent => 2
   ∀ (x : Station) (a b : PeerKind) (c : PeerCause) (k : Stamp) (offers lent guests : Nat),
      Report.bytes (.peerState x a b c k offers lent guests) =
        [4, byte x.val, state a, state b,
          match c with
          | .notice => 1
          | .timeout => 2
          | .restart => 3] ++ bytes4 k.toNat ++ [byte offers, byte lent, byte guests]) ∧
  (∀ (c : Channel) (k : Clip) (page : BitVec 8) (offset : BitVec 16) (n : Nat),
      Report.bytes (.storeFault c k (.readFault page offset) n) =
        [5, byte c.val, byte k.val, 1, page, byte (offset.toNat / 256), byte offset.toNat, byte n] ∧
      Report.bytes (.storeFault c k .invalidClip n) = [5, byte c.val, byte k.val, 2, 0, 0, 0, byte n]) ∧
  ∀ a b : Report, Reportable a → Reportable b → a.bytes = b.bytes → a = b

/-! ## The scan link (Sections 1 and 2) -/

/-- In CONFIG a SEIZE has REJECT issued for its trunk and a key KEY_REFUSED for its position; LOOP and HEADSET characters are
dropped. Nothing else changes (R5). A byte that opens no character, and a whole character with a trunk, position, service code
or key out of its range, are dropped: in RUN one is added to the scan error count, saturating at 65535, and in CONFIG nothing
is; nothing else changes, and no character stays open (R5, R6, R194). -/
def Obligations.RefusedAndUndecodableCharacters : Prop :=
  (∀ s : State, s.running = false → s.lsi.scanOpen = [] →
      (∀ (t : Trunk) (k : Fin 64), exec (.seize (byte t.val) (byte k.val)) s = .next (s.issue (.reject t))) ∧
      (∀ (r : LoopState) (t : Trunk), exec (.loop r (byte t.val)) s = .next s) ∧
      (∀ (r : HeadsetState) (b : Byte) (p : Position), Names b p → exec (.headset r b) s = .next s) ∧
      ∀ (b : Byte) (p : Position), Names b p →
        ∀ c ∈ [Instr.signOnKey b, .readyKey b, .notReadyKey b, .signOffKey b, .answerKey b, .releaseKey b, .moreTimeKey b],
          exec c s = .next (s.issue (.keyRefused p))) ∧
  ∀ s u : State, s.lsi.scanOpen = [] →
    u = (if s.running then { s with lsi := { s.lsi with scanErrors := min (s.lsi.scanErrors + 1) 65535 } } else s) →
    (∀ b : Byte, b ≠ 0x10 → b ≠ 0x21 → b ≠ 0x22 → b ≠ 0x31 → b ≠ 0x32 → b.toNat / 16 ≠ 4 →
      exec (.scanByteUndecodable [b]) s = .next u) ∧
    (∀ k b : Byte, k.toNat / 16 = 4 → (k.toNat % 16 = 0 ∨ 7 < k.toNat % 16) →
      exec (.scanByteUndecodable [k, b]) s = .next u) ∧
    (∀ t k : Byte, 31 < t.toNat ∨ 63 < k.toNat → exec (.seize t k) s = .next u) ∧
    (∀ (r : LoopState) (t : Byte), 31 < t.toNat → exec (.loop r t) s = .next u) ∧
    ∀ b : Byte, 23 < b.toNat % 32 →
      (∀ r, exec (.headset r b) s = .next u) ∧
      ∀ c ∈ [Instr.signOnKey b, .readyKey b, .notReadyKey b, .signOffKey b, .answerKey b, .releaseKey b, .moreTimeKey b],
        exec c s = .next u

/-- A SEIZE in RUN that is not admitted: on a trunk whose record is not FREE it is counted as a scan error and changes nothing
else (R21, R7); under an invalid service entry REJECT is issued, the record stays as it was and no report is written (R22);
with the list of the entry's queue at DEPTH_LIMIT or more, REJECT is issued and CALL_END written with outcome REJECTED (R23).
In both refusals the loop is recorded as CLOSED (R7). -/
def Obligations.SeizuresAreRefused : Prop :=
  ∀ (s : State) (t : Trunk) (k : Fin 64), Scanning s →
    let c : Instr := .seize (byte t.val) (byte k.val)
    let e := s.mpi.image.services[k]
    (s.call t ≠ none →
      exec c s =
        .next (State.close { s with lsi := { s.lsi with scanErrors := min (s.lsi.scanErrors + 1) 65535 } } s)) ∧
    (s.call t = none → e.valid = false →
      ∃ v, exec c s = .next (v.close s) ∧ v.lsi.trunks[t] = seized s.lsi.trunks[t] ∧
        Only { trunks := [t], orders := [.reject t] } s v) ∧
    (s.call t = none → e.valid = true → (s.queueItems e.queue).depthLimit ≤ s.cqm.lists[e.queue].length →
      ∃ v, exec c s = .next (v.close s) ∧ v.lsi.trunks[t] = seized s.lsi.trunks[t] ∧
        Only
          { trunks := [t], orders := [.reject t],
            reports := [.callEnd t s.cqm.calls[t].gen e.queue .rejected 0 0 .none false] } s v)

/-- A SEIZE in RUN of a FREE trunk under a valid entry whose queue's list holds fewer than DEPTH_LIMIT is admitted (R21, R20,
R19): QUEUED under the next generation with the entry's queue, priority and programme, stamped now, not recovered, at the
place of its keys (R24); on its programme's music, with next-due an ANN_INTERVAL from now, or NEVER, and an entry with the
queue's INITIAL_CLIP where it names one (R115); then the match attempt (R56). Where an entry was added, a start check and a
grant follow (R119, R104). -/
def Obligations.SeizuresAreAdmitted : Prop :=
  ∀ (s : State) (t : Trunk) (k : Fin 64), Scanning s →
    let e := s.mpi.image.services[k]
    let items := s.queueItems e.queue
    s.call t = none → e.valid = true → s.cqm.lists[e.queue].length < items.depthLimit →
    ∃ m n,
      (m.cqm.calls[t] = ⟨s.cqm.calls[t].gen + 1, some
          { phase := .queued
            queue := e.queue
            priority := e.priority
            programme := e.programme
            arrival := s.now
            recovered := false
            source := some (musicChannel e.programme)
            nextDue := if items.annInterval = 0 then .never else .at (deadline s.now items.annInterval)
            waiting := items.initialClip.isSome }⟩ ∧
        Inserted s m e.queue t ∧
        m.lsi.trunks[t] = seized s.lsi.trunks[t] ∧
        m.htu.waiting = s.htu.waiting ++ (items.initialClip.map fun clip => WaitEntry.mk t clip).toList ∧
        Only { trunks := [t], calls := [t], lists := [e.queue], waiting := true } s m) ∧
      Matched m n t ∧
      exec (.seize (byte t.val) (byte k.val)) s =
        .next ((if items.initialClip.isSome then (n.startCheck 35).grant else n).close s)

/-- A LOOP in RUN (R9, TABLE 1-8, R15). While the sweep lasts, the first report of a trunk sets both states, with no filter. A
report that repeats the raw state sets the mark alone. Otherwise the raw state is the reported one, the mark is set, and: a
FREE trunk's filtered state follows; OPEN starts the disconnect filter where the filtered loop is CLOSED and none runs; CLOSED
cancels a running filter, or else makes the filtered loop CLOSED. No other record changes. A HEADSET in RUN (R11, TABLE 1-9,
R15, R55). While the sweep lasts, the first report of a position sets both states. A report that repeats the raw state sets
the mark alone. Otherwise the raw state is the reported one, the mark is set, and: ABSENT starts the headset filter where the
filtered headset is PRESENT and none runs; PRESENT cancels a running filter, or else makes the filtered headset PRESENT. Where
the filtered headset becomes PRESENT by the report, the agent's headset flag becomes PRESENT and nothing else of the agent
changes. The start sweep ends at the tick of clock 2 (R16): every trunk and position whose mark is clear has it set, keeps its
states, and is counted as a scan error. Where every mark is set, or at another clock, nothing happens (log entry 4). -/
def Obligations.ScannerReportsAndSweepAreTaken : Prop :=
  ((∀ (s : State) (r : LoopState) (t : Trunk), Scanning s →
        let x := s.lsi.trunks[t]
        let y : TrunkSup :=
          if s.lsi.unreported ∧ x.reported = false then ⟨r, r, none, true⟩
          else if x.raw = r then { x with reported := true }
          else if s.call t = none then ⟨r, r, x.filterStart, true⟩
          else
            match r with
            | .opened =>
              ⟨.opened, x.filtered,
                if x.filtered = .closed ∧ x.filterStart = none then some s.now else x.filterStart, true⟩
            | .closed => ⟨.closed, if x.filterStart = none then .closed else x.filtered, none, true⟩
        ∃ v, exec (.loop r (byte t.val)) s = .next (v.close s) ∧ v.lsi.trunks[t] = y ∧ Only { trunks := [t] } s v) ∧
    ∀ (s : State) (r : HeadsetState) (b : Byte) (p : Position), Scanning s → Names b p →
      let x := s.lsi.positions[p]
      let first := s.lsi.unreported ∧ x.reported = false
      let y : PositionSup :=
        if first then ⟨r, r, none, true⟩
        else if x.raw = r then { x with reported := true }
        else
          match r with
          | .absent =>
            ⟨.absent, x.filtered,
              if x.filtered = .present ∧ x.filterStart = none then some s.now else x.filterStart, true⟩
          | .present => ⟨.present, if x.filterStart = none then .present else x.filtered, none, true⟩
      let returned := r = .present ∧ (first ∨ (x.raw ≠ .present ∧ x.filterStart = none))
      ∃ v, exec (.headset r b) s = .next (v.close s) ∧ v.lsi.positions[p] = y ∧
        v.dsu.agents[p] =
          { s.dsu.agents[p] with headset := if returned then .present else s.dsu.agents[p].headset } ∧
        Only { positions := [p], agents := [p] } s v) ∧
  ∀ s : State,
    let late := (List.finRange 32).countP (fun t : Trunk => !s.lsi.trunks[t].reported) +
      (List.finRange 24).countP fun p : Position => !s.lsi.positions[p].reported
    (s.running = true → s.now = 2 → 0 < late →
      ∃ v, exec .startSweepEnd s = .next (v.close s) ∧
        (∀ t : Trunk, v.lsi.trunks[t] = { s.lsi.trunks[t] with reported := true }) ∧
        (∀ p : Position, v.lsi.positions[p] = { s.lsi.positions[p] with reported := true }) ∧
        v.lsi.scanErrors = min (s.lsi.scanErrors + late) 65535 ∧
        Only { trunks := List.finRange 32, positions := List.finRange 24, scanErrors := true } s v) ∧
    (s.running = false ∨ s.now ≠ 2 ∨ late = 0 → exec .startSweepEnd s = .next s)

/-- The disconnect filter of a trunk that has run for DISCONNECT_FILTER ticks ends (R10): the filtered loop OPEN, and a caller
release. A QUEUED, OFFERED, ALERTING or LENT_ALERTING call ends ABANDONED, a TALKING call ANSWERED_LOCAL, a LENT_TALKING call
ANSWERED_PEER (R34 to R36, R39); the offered peer is sent WITHDRAW, the lending peer RELEASE CALLER_GONE; a ringing agent is
sent STOP_RING and takes its pending action or becomes READY (R62), a talking one enters WRAPUP (R67). A filter that has not
run so long, or does not run, does nothing (log entry 4). That STOP_RING is issued before CLEAR is the model's choice of log
entry 11. -/
def Obligations.DisconnectFilterExpires : Prop :=
  ∀ (s : State) (t : Trunk),
    let m := s.setTrunkSup t { s.lsi.trunks[t] with filtered := .opened, filterStart := none }
    let tag : Tag := ⟨t, s.cqm.calls[t].gen⟩
    (∀ a, s.lsi.trunks[t].filterStart = some a → s.items.disconnectFilter ≤ elapsed a s.now →
      ∃ v, exec (.disconnectFilterExpiry t) s = .next (v.close s) ∧
        match s.call t with
        | none => v = m
        | some b =>
          let whole := elapsed b.arrival s.now
          match b.phase with
          | .queued => Ended m v t b .abandoned whole 0 .none [] [.clear t]
          | .offered _ x _ => Ended m v t b .abandoned whole 0 (.peer x) [(x, .withdraw tag)] [.clear t]
          | .alerting p =>
            ∃ n k, Ended m n t b .abandoned whole 0 (.agent p) [] [.stopRing p, .clear t] ∧ TookPending n k p ∧
              AgentReported k v s p .callGone
          | .talking p a =>
            ∃ n k, Ended m n t b .answeredLocal (elapsed b.arrival a) (elapsed a s.now) (.agent p) [] [.clear t] ∧
              WrapOpened n k p b.queue (elapsed a s.now) ∧ AgentReported k v s p .wrapEnd
          | .lentAlerting x _ _ =>
            Ended m v t b .abandoned whole 0 (.peer x) [(x, .release tag .callerGone)] [.clear t]
          | .lentTalking x _ a =>
            Ended m v t b .answeredPeer (elapsed b.arrival a) (elapsed a s.now) (.peer x)
              [(x, .release tag .callerGone)] [.clear t]) ∧
    ((∀ a, s.lsi.trunks[t].filterStart = some a → elapsed a s.now < s.items.disconnectFilter) →
      exec (.disconnectFilterExpiry t) s = .next s)

/-- The headset filter of a position that has run for HEADSET_FILTER ticks ends (R12): the filtered headset ABSENT, the
agent's flag cleared, and the loss taken in the agent's state (R54, TABLE 3-3, R76). READY goes to NOT_READY; RESERVED and
ALERTING go out of service, with STOP_RING where ringing, the call back in its queue or BOUNCE AGENT_LOST to the guest's
origin; TALKING and WRAPUP have NOT_READY pending, unless SIGN_OFF is; in SIGNED_OFF and NOT_READY nothing more. A filter that
has not run so long, or does not run, does nothing (log entry 4). -/
def Obligations.HeadsetFilterExpires : Prop :=
  ∀ (s : State) (p : Position),
    let a := s.dsu.agents[p]
    let m := (s.setPositionSup p { s.lsi.positions[p] with filtered := .absent, filterStart := none }).setAgent p
      { a with headset := .absent }
    (∀ f, s.lsi.positions[p].filterStart = some f → s.items.headsetFilter ≤ elapsed f s.now →
      (∀ t d, s.duty p = some (.alerting (.call t) d) → ∃ b ∈ s.call t, b.phase = .alerting p) →
      (∀ g d, s.duty p = some (.alerting (.guest g) d) ∨ s.duty p = some (.reserved g) → s.ofu.guests[g] ≠ none) →
      ∃ v, exec (.headsetFilterExpiry p) s = .next (v.close s) ∧
        match s.duty p with
        | none | some .notReady => v = m
        | some (.ready _) => ∃ n, StoodDown m n p ∧ AgentReported n v s p .headsetLoss
        | some (.reserved g) =>
          ∃ r ∈ s.ofu.guests[g], ∃ n k, OutOfService m n p ∧ AgentReported n k s p .headsetLoss ∧
            v = (k.give r.origin (.bounce r.tag .agentLost)).setGuest g none
        | some (.alerting bound _) => GivenUp m v s p bound .headsetLoss .agentLost
        | some (.talking _) | some (.wrapup _) =>
          v = m.setAgent p
            { a with
              headset := .absent
              pendingAction := if a.pendingAction = .signOff then .signOff else .notReady }) ∧
    ((∀ f, s.lsi.positions[p].filterStart = some f → elapsed f s.now < s.items.headsetFilter) →
      exec (.headsetFilterExpiry p) s = .next s)

/-! ## Keys (3.4, 4.3) -/

/-- SIGN_ON (R48) is taken from a SIGNED_OFF agent with its headset PRESENT under a profile that holds a queue: NOT_READY with
that profile, nothing pending, AGENT_STATE with cause KEY (R65). In every other case it is refused with KEY_REFUSED. READY
(R49, R71). From NOT_READY with the headset PRESENT the agent becomes READY (R60). In WRAPUP with the headset PRESENT it ends
the wrap-up into READY once the minimum end is reached, and before that becomes the pending action. With the headset ABSENT,
and in every other state, it is refused. -/
def Obligations.SignOnAndReadyKeysAreTaken : Prop :=
  (∀ (s : State) (b : Byte) (p : Position) (f : ProfileNo), Scanning s → Names b p → b.toNat / 32 = f.val →
      let a := s.dsu.agents[p]
      (a.post = none → a.headset = .present → s.profileQueues f ≠ [] →
        exec (.signOnKey b) s = .next (State.close
          ((s.setAgent p ⟨some ⟨f, .notReady⟩, .present, .none⟩).writeReport
            (.agentState p .signedOff .notReady (some f) .key)) s)) ∧
      (a.post ≠ none ∨ a.headset = .absent ∨ s.profileQueues f = [] →
        exec (.signOnKey b) s = .next ((s.issue (.keyRefused p)).close s))) ∧
  ∀ (s : State) (b : Byte) (p : Position), Scanning s → Names b p →
    let a := s.dsu.agents[p]
    let refused := exec (.readyKey b) s = .next ((s.issue (.keyRefused p)).close s)
    match s.duty p with
    | some .notReady =>
      if a.headset = .absent then refused
      else ∃ m v, Readied s m p ∧ AgentReported m v s p .key ∧ exec (.readyKey b) s = .next (v.close s)
    | some (.wrapup w) =>
      if a.headset = .absent then refused
      else if elapsed w.start w.minEnd ≤ elapsed w.start s.now then
        ∃ m v, WrapEnded s m p w .readyKey .ready ∧ AgentReported m v s p .wrapEnd ∧
          exec (.readyKey b) s = .next (v.close s)
      else exec (.readyKey b) s = .next ((s.setAgent p { a with pendingAction := .ready }).close s)
    | some (.ready _) | some (.reserved _) | some (.alerting _ _) | some (.talking _) | none => refused

/-- NOT_READY (R50, R73). A READY agent goes to NOT_READY at once; in RESERVED, ALERTING and TALKING it becomes the pending
action; in WRAPUP it ends the wrap-up at once into NOT_READY. In SIGNED_OFF and NOT_READY it is refused. SIGN_OFF (R51, R75).
From NOT_READY and READY the agent goes to SIGNED_OFF at once, its headset flag as it was; in RESERVED, ALERTING, TALKING and
WRAPUP it becomes the pending action. In SIGNED_OFF it is refused. -/
def Obligations.NotReadyAndSignOffKeysAreTaken : Prop :=
  (∀ (s : State) (b : Byte) (p : Position), Scanning s → Names b p →
      match s.duty p with
      | some (.ready _) =>
        ∃ m v, StoodDown s m p ∧ AgentReported m v s p .key ∧ exec (.notReadyKey b) s = .next (v.close s)
      | some (.reserved _) | some (.alerting _ _) | some (.talking _) =>
        exec (.notReadyKey b) s =
          .next ((s.setAgent p { s.dsu.agents[p] with pendingAction := .notReady }).close s)
      | some (.wrapup w) =>
        ∃ m v, WrapEnded s m p w .notReadyKey .notReady ∧ AgentReported m v s p .wrapEnd ∧
          exec (.notReadyKey b) s = .next (v.close s)
      | some .notReady | none => exec (.notReadyKey b) s = .next ((s.issue (.keyRefused p)).close s)) ∧
  ∀ (s : State) (b : Byte) (p : Position), Scanning s → Names b p →
    match s.duty p with
    | some .notReady | some (.ready _) =>
      ∃ m v, SignedOff s m p ∧ AgentReported m v s p .key ∧ exec (.signOffKey b) s = .next (v.close s)
    | some (.reserved _) | some (.alerting _ _) | some (.talking _) | some (.wrapup _) =>
      exec (.signOffKey b) s =
        .next ((s.setAgent p { s.dsu.agents[p] with pendingAction := .signOff }).close s)
    | none => exec (.signOffKey b) s = .next ((s.issue (.keyRefused p)).close s)

/-- ANSWER (R52, R26, R123, R180). An ALERTING agent goes to TALKING with its bound call: a local record TALKING, its answer
stamped now and its source none; a guest TALKING, its answer stamped now, and ANSWERED given to its origin. In every other
state it is refused. RELEASE (R53, R37, R62, R180). From TALKING on a local call, the call ends ANSWERED_LOCAL with the agent
as party, and the agent enters WRAPUP with its queue and talk ticks. On a guest, RELEASE AGENT_DONE is given to the origin,
the guest is freed, and the agent enters WRAPUP in the same way. In every other state it is refused. -/
def Obligations.AnswerAndReleaseKeysAreTaken : Prop :=
  (∀ (s : State) (b : Byte) (p : Position), Scanning s → Names b p →
      let talking := fun bound => s.setAgent p (onDuty s.dsu.agents[p] (.talking bound))
      match s.duty p with
      | some (.alerting (.call t) _) =>
        ∀ c, s.call t = some c →
          exec (.answerKey b) s = .next (State.close
            ((talking (.call t)).setCall t
              ⟨s.cqm.calls[t].gen, some { c with phase := .talking p s.now, source := none }⟩) s)
      | some (.alerting (.guest g) _) =>
        ∀ r, s.ofu.guests[g] = some r →
          exec (.answerKey b) s = .next (State.close
            (((talking (.guest g)).setGuest g (some { r with phase := .talking s.now })).give r.origin (.answered r.tag)) s)
      | some .notReady | some (.ready _) | some (.reserved _) | some (.talking _) | some (.wrapup _) | none =>
        exec (.answerKey b) s = .next ((s.issue (.keyRefused p)).close s)) ∧
  ∀ (s : State) (b : Byte) (p : Position), Scanning s → Names b p →
    match s.duty p with
    | some (.talking (.call t)) =>
      ∀ c a, s.call t = some c → c.phase = .talking p a →
        ∃ m n v,
          Ended s m t c .answeredLocal (elapsed c.arrival a) (elapsed a s.now) (.agent p) [] [.clear t] ∧
          WrapOpened m n p c.queue (elapsed a s.now) ∧ AgentReported n v s p .wrapEnd ∧
          exec (.releaseKey b) s = .next (v.close s)
    | some (.talking (.guest g)) =>
      ∀ r a, s.ofu.guests[g] = some r → r.agent = p → r.phase = .talking a →
        ∃ n v,
          WrapOpened ((s.give r.origin (.release r.tag .agentDone)).setGuest g none) n p r.queue (elapsed a s.now) ∧
          AgentReported n v s p .wrapEnd ∧ exec (.releaseKey b) s = .next (v.close s)
    | some .notReady | some (.ready _) | some (.reserved _) | some (.alerting _ _) | some (.wrapup _) | none =>
      exec (.releaseKey b) s = .next ((s.issue (.keyRefused p)).close s)

/-- MORE_TIME (R74) in WRAPUP with fewer than two extensions moves the wrap end out by the WRAP_EXT of the wrap queue and
counts one more; a pending READY is cleared, another pending action kept; the minimum end does not move. With two extensions,
and in every other state (R53), it is refused. -/
def Obligations.MoreTimeKeyIsTaken : Prop :=
  ∀ (s : State) (b : Byte) (p : Position), Scanning s → Names b p →
    let a := s.dsu.agents[p]
    let refused := exec (.moreTimeKey b) s = .next ((s.issue (.keyRefused p)).close s)
    match s.duty p with
    | some (.wrapup w) =>
      if w.extensions ≤ 1 then
        exec (.moreTimeKey b) s = .next (State.close
          (s.setAgent p
            { onDuty a (.wrapup
                { w with
                  wrapEnd := deadline w.wrapEnd (s.queueItems w.queue).wrapExt
                  extensions := w.extensions + 1 })
              with pendingAction := if a.pendingAction = .ready then .none else a.pendingAction }) s)
      else refused
    | some .notReady | some (.ready _) | some (.reserved _) | some (.alerting _ _) | some (.talking _) | none => refused

/-! ## Deadlines -/

/-- The ring deadline of an ALERTING agent, reached at its value of the clock, gives the ring up as no answer (R61):
STOP_RING, the agent to NOT_READY or its pending SIGN_OFF, AGENT_STATE with cause NO_ANSWER, the call back in its queue (R30)
or BOUNCE NO_ANSWER to the guest's origin. At another clock value, and for an agent who is not ALERTING, nothing happens (log
entries 4 and 6). -/
def Obligations.RingDeadlineGivesUp : Prop :=
  ∀ (s : State) (p : Position),
    match s.duty p with
    | some (.alerting bound d) =>
      if d = s.now then
        (match bound with
          | .call t => ∃ b ∈ s.call t, b.phase = .alerting p
          | .guest g => s.ofu.guests[g] ≠ none) →
        ∃ v, GivenUp s v s p bound .noAnswer .noAnswer ∧ exec (.ringDeadline p) s = .next (v.close s)
      else exec (.ringDeadline p) s = .next s
    | some .notReady | some (.ready _) | some (.reserved _) | some (.talking _) | some (.wrapup _) | none =>
      exec (.ringDeadline p) s = .next s

/-- The two deadlines of a wrap-up (R69, R72, R70). With READY pending and the minimum end reached, it ends into READY with
ended-by READY_AT_MIN; otherwise, with the wrap end reached, it expires into the state of TABLE 4-3: SIGNED_OFF or NOT_READY
where that is pending, READY with nothing pending and the headset present. Otherwise, and outside WRAPUP, nothing happens (log
entry 4). -/
def Obligations.WrapUpDeadlinesEndIt : Prop :=
  ∀ (s : State) (p : Position),
    let a := s.dsu.agents[p]
    match s.duty p with
    | some (.wrapup w) =>
      let atMin := a.pendingAction = .ready ∧ elapsed w.start w.minEnd ≤ elapsed w.start s.now
      let atEnd := ¬ atMin ∧ elapsed w.start w.wrapEnd ≤ elapsed w.start s.now
      (atMin → ∃ m v, WrapEnded s m p w .readyAtMin .ready ∧ AgentReported m v s p .wrapEnd ∧
        exec (.readyAtMin p) s = .next (v.close s)) ∧
      (¬ atMin → exec (.readyAtMin p) s = .next s) ∧
      (atEnd → ∃ m v dest, WrapEnded s m p w .expiry dest ∧ AgentReported m v s p .wrapEnd ∧
        exec (.wrapExpiry p) s = .next (v.close s) ∧
        (a.pendingAction = .signOff → dest = .signedOff) ∧
        (a.pendingAction = .notReady → dest = .notReady) ∧
        (a.pendingAction = .none → a.headset = .present → dest = .ready)) ∧
      (¬ atEnd → exec (.wrapExpiry p) s = .next s)
    | some .notReady | some (.ready _) | some (.reserved _) | some (.alerting _ _) | some (.talking _) | none =>
      exec (.readyAtMin p) s = .next s ∧ exec (.wrapExpiry p) s = .next s

/-- Next-due of a call becomes DUE at the clock value that it holds, in whatever state the record stands, and nothing else of
the part changes but by the close (R116). Otherwise nothing happens. A junctor holdoff ends (R137): every junctor of the
holdoff order whose until stamp is the present clock becomes FREE, and in holdoff order each leaves that order and joins the
tail of the free order. Where none is reached, nothing happens (log entries 4 and 6). -/
def Obligations.NextDueAndHoldoffsAreReached : Prop :=
  (∀ (s : State) (t : Trunk),
      (∀ b, s.call t = some b → b.nextDue = .at s.now →
        exec (.nextDueReached t) s =
          .next ((s.setCall t ⟨s.cqm.calls[t].gen, some { b with nextDue := .due }⟩).close s)) ∧
      ((∀ b, s.call t = some b → b.nextDue ≠ .at s.now) → exec (.nextDueReached t) s = .next s)) ∧
  ∀ s : State,
    let reached := fun j : Junctor => s.sps.junctors[j] == .holdoff s.now
    ((∃ j ∈ s.sps.holdoffOrder, reached j = true) →
      ∃ v, exec .junctorHoldoffEnd s = .next (v.close s) ∧
        (∀ j ∈ s.sps.holdoffOrder, reached j = true → v.sps.junctors[j] = .free) ∧
        v.sps.holdoffOrder = s.sps.holdoffOrder.filter (fun j => !reached j) ∧
        v.sps.freeOrder = s.sps.freeOrder ++ s.sps.holdoffOrder.filter reached ∧
        Only { junctors := s.sps.holdoffOrder.filter reached, freeOrder := true, holdoffOrder := true } s v) ∧
    ((∀ j ∈ s.sps.holdoffOrder, reached j = false) → exec .junctorHoldoffEnd s = .next s)

/-- The OFU's three deadlines, each at its value of the clock and the lowest-numbered first (R168). Offer deadline of a slot:
the offer fails with no decline mark and no frame (R172). Lent deadline: WITHDRAW to the peer, and the call returns (R174,
R30). Connect deadline: BOUNCE NO_CONNECT to the origin, the guest freed, its RESERVED agent to its pending action or READY
(R179). Where none is reached, nothing happens (log entries 4 and 6). -/
def Obligations.OverflowDeadlinesAct : Prop :=
  ∀ s : State,
    (∀ (o : SlotNo) (d : OfferSlot) (b : CallBody) (x : Station) (j : Junctor),
      s.ofu.slots[o] = some d → d.deadline = s.now →
      (∀ k < o, ∀ e ∈ s.ofu.slots[k], e.deadline ≠ s.now) →
      s.call d.trunk = some b → b.phase = .offered o x j →
      ∃ v, OfferFailed s v d.trunk b o j ∧ exec .offerDeadline s = .next (v.close s)) ∧
    ((∀ o : SlotNo, ∀ e ∈ s.ofu.slots[o], e.deadline ≠ s.now) → exec .offerDeadline s = .next s) ∧
    (∀ (t : Trunk) (b : CallBody) (x : Station) (j : Junctor),
      s.call t = some b → b.phase = .lentAlerting x j s.now → (∀ u < t, s.lentReached u = false) →
      ∃ v, Returned (s.give x (.withdraw ⟨t, s.cqm.calls[t].gen⟩)) v t b ∧
        exec .lentDeadline s = .next (v.close s)) ∧
    ((∀ t : Trunk, ∀ b ∈ s.call t, ∀ x j, b.phase ≠ .lentAlerting x j s.now) → exec .lentDeadline s = .next s) ∧
    (∀ (g : GuestNo) (r : GuestRec), s.ofu.guests[g] = some r → r.phase = .waitConnect s.now →
      s.duty r.agent = some (.reserved g) → (∀ h < g, s.connectReached h = false) →
      ∃ m v, TookPending ((s.give r.origin (.bounce r.tag .noConnect)).setGuest g none) m r.agent ∧
        AgentReported m v s r.agent .callGone ∧ exec .connectDeadline s = .next (v.close s)) ∧
    ((∀ g : GuestNo, ∀ r ∈ s.ofu.guests[g], r.phase ≠ .waitConnect s.now) → exec .connectDeadline s = .next s)

/-- The period timer asks for a notice at its deadline and sets the deadline to an AVAIL_PERIOD from now (R157). The hold of a
WAITING placeholder ends two ticks after the last AVAIL completed, and it may then begin by the close of that event (R148,
R149). Otherwise neither does anything (log entries 4 and 6). What a notice built now carries (R156, R138): the tick count;
the room, clamped at 15; for each queue the idle count, clamped at 15, and the band of the position behind its list; for each
junctor that is BOUND the peer of its call. -/
def Obligations.NoticesAreTimedAndBuilt : Prop :=
  (∀ s : State,
      (s.pvt.periodDeadline = some s.now →
        exec .availPeriodExpiry s =
          .next ((s.requestNotice.setPeriod (some (deadline s.now s.items.availPeriod))).close s)) ∧
      (s.pvt.periodDeadline ≠ some s.now → exec .availPeriodExpiry s = .next s) ∧
      (∀ c, s.plc.lastAvail = some c → 2 ≤ elapsed c s.now → s.plc.placeholder = .waiting →
        exec .availSpacingEnd s = .next (s.close s)) ∧
      (s.plc.placeholder ≠ .waiting ∨ (∀ c, s.plc.lastAvail = some c → elapsed c s.now < 2) →
        exec .availSpacingEnd s = .next s)) ∧
  ∀ s : State,
    let n := s.buildNotice
    n.clock = s.clk.tickCount ∧
    n.room = min (s.items.guestLimit - (List.finRange 16).countP fun g : GuestNo => (s.ofu.guests[g]).isSome) 15 ∧
    (∀ q : QueueNo,
      n.idle[q] = min ((List.finRange 24).countP fun p : Position =>
        match s.dsu.agents[p].post with
        | some ⟨f, .ready _⟩ => (s.profileQueues f).contains q
        | _ => false) 15 ∧
      n.band[q] = s.band q (s.cqm.lists[q].length + 1)) ∧
    ∀ j : Junctor, ∀ x : Station, n.map[j] = some x ↔
      ∃ t b, s.sps.junctors[j] = .bound t ∧ s.call t = some b ∧
        ((∃ o k, b.phase = .offered o x k) ∨ (∃ k d, b.phase = .lentAlerting x k d) ∨ ∃ k a, b.phase = .lentTalking x k a)

/-- The first station that has been PRESENT and unheard for PRESENCE_LIMIT ticks is lost (R162): the calls and guests shared
with it are settled (R163), its entry becomes ABSENT keeping its last clock and last-heard stamp, and PEER_STATE is written
with cause TIMEOUT and what was settled (R165). Where no station has been silent so long, nothing happens (log entry 4). -/
def Obligations.PresenceTimeoutLosesThePeer : Prop :=
  ∀ s : State,
    (∀ (x : Station) (d : PeerData), s.pvt.peers[x] = .present d →
      s.items.presenceLimit ≤ elapsed d.lastHeard s.now → (∀ y < x, s.presenceReached y = false) →
      ∃ m,
        let n := lossCounts s x
        LossSettled s m x ∧
        exec .presenceTimeout s = .next (State.close
          ((m.setPeer x (.absent d.lastClock d.lastHeard)).writeReport
            (.peerState x .present .absent .timeout d.lastClock (min n.1 255) (min n.2.1 255) (min n.2.2 255))) s)) ∧
    ((∀ x : Station, ∀ d, s.pvt.peers[x] = .present d → elapsed d.lastHeard s.now < s.items.presenceLimit) →
      exec .presenceTimeout s = .next s)

/-! ## The choice of an agent (3.6) -/

/-- The agent chosen for a call of queue `q` (R57, R58). LONGEST_IDLE: the first agent of the idle list that is READY with `q`
in its profile, no hunt pointer moved. CIRCULAR: the first such position in cyclic order from the hunt pointer, which then
stands one past it. Where there is none, no agent is chosen and nothing changes. -/
def Obligations.AgentsAreChosenByPolicy : Prop :=
  ∀ (s : State) (q : QueueNo),
    let able := fun p : Position =>
      ∃ x, s.dsu.agents[p].post = some x ∧ (∃ since, x.duty = .ready since) ∧ q ∈ s.profileQueues x.profile
    ((s.queueItems q).policy = .longestIdle →
      (∀ (before after : List Position) (p : Position), s.dsu.idleList = before ++ p :: after →
        (∀ x ∈ before, ¬ able x) → able p → s.chooseAgent q = some (p, s)) ∧
      ((∀ p ∈ s.dsu.idleList, ¬ able p) → s.chooseAgent q = none)) ∧
    ((s.queueItems q).policy = .circular →
      (∀ i : Fin 24, able (s.dsu.hunt[q] + i) → (∀ k < i, ¬ able (s.dsu.hunt[q] + k)) →
        s.chooseAgent q = some (s.dsu.hunt[q] + i, s.setHunt q (s.dsu.hunt[q] + i + 1))) ∧
      ((∀ p : Position, ¬ able p) → s.chooseAgent q = none))

/-! ## Estimates (Section 5) -/

/-- A division completes and publishes (R90): STEP becomes AHT16 × 256 / max(N, 1) of its snapshot, rounded down, and N_used
its N; the division is absent. Nothing else changes but by the close. Where none is in flight, nothing happens (log entry 4).
What the close of an event that began in `s` does to the estimates (R45, R86, R88, R91). Every queue whose staffed count has
changed is pending. A division whose queue has another AHT16 or staffed count than its snapshot is abandoned: its queue
pending, its restart count one higher, saturating at 65535. A division that is not abandoned goes on; otherwise the lowest
pending queue begins one with the present AHT16 and staffed count, and is no longer pending. AHT16 and the published pair
stay. That a staffed count has changed where it differs between the two ends of the event is the model's choice of log entry
24. -/
def Obligations.DivisionsRunAndPublish : Prop :=
  (∀ s : State,
      (∀ d, s.est.inFlight = some d →
        exec .divisionComplete s = .next (State.close { s with est := {
          recs := s.est.recs.set d.queue
            { s.est.recs[d.queue] with step := d.aht16 * 256 / max d.staffed 1, nUsed := d.staffed }
          inFlight := none } } s)) ∧
      (s.est.inFlight = none → exec .divisionComplete s = .next s)) ∧
  ∀ s v : State,
    let u := v.close s
    let stale := fun d : Division =>
      v.est.recs[d.queue].aht16 ≠ d.aht16 ∨ v.staffedCount d.queue ≠ d.staffed
    let abandoned := fun q : QueueNo => ∃ d ∈ v.est.inFlight, stale d ∧ d.queue = q
    let marked := fun q : QueueNo =>
      v.est.recs[q].pendingFlag = true ∨ v.staffedCount q ≠ s.staffedCount q ∨ abandoned q
    let runs := fun d : Division => v.est.inFlight = some d ∧ ¬ stale d
    (∀ q : QueueNo, u.est.recs[q].aht16 = v.est.recs[q].aht16 ∧ u.est.recs[q].step = v.est.recs[q].step ∧
      u.est.recs[q].nUsed = v.est.recs[q].nUsed) ∧
    (∀ q : QueueNo,
      (abandoned q → u.est.recs[q].restarts = min (v.est.recs[q].restarts + 1) 65535) ∧
      (¬ abandoned q → u.est.recs[q].restarts = v.est.recs[q].restarts)) ∧
    (∀ d, runs d → u.est.inFlight = some d ∧ ∀ q : QueueNo, u.est.recs[q].pendingFlag = true ↔ marked q) ∧
    ((∀ d, ¬ runs d) →
      ((∀ q, ¬ marked q) → u.est.inFlight = none ∧ ∀ q : QueueNo, u.est.recs[q].pendingFlag = false) ∧
      ∀ q, marked q → (∀ k < q, ¬ marked k) →
        u.est.inFlight = some ⟨q, v.est.recs[q].aht16, v.staffedCount q⟩ ∧
        ∀ k : QueueNo, u.est.recs[k].pendingFlag = true ↔ (marked k ∧ k ≠ q))

/-- A handle sample (R85): AHT16 moves by the difference 16n - AHT16 divided by 8 and rounded to nearest, halves away from
zero, and stays between the two; its queue is marked pending, and nothing else changes. Expected waits and bands (R94, R95).
While N_used is 0 the wait is 65535 and the band 7. Otherwise the wait of position `p` is p × STEP / 4096 rounded up to a
whole number and limited to 65535, and the band is the wait divided by BAND_WIDTH, rounded down and limited to 7. -/
def Obligations.EstimatesAreComputed : Prop :=
  (∀ (s : State) (q : QueueNo) (n : Nat),
      let old := s.est.recs[q].aht16
      let v := s.sample q n
      Smoothed old v.est.recs[q].aht16 n ∧
      min old (16 * n) ≤ v.est.recs[q].aht16 ∧ v.est.recs[q].aht16 ≤ max old (16 * n) ∧
      v.est.recs[q] = { s.est.recs[q] with aht16 := v.est.recs[q].aht16, pendingFlag := true } ∧
      Only { estimates := [q] } s v) ∧
  ∀ (s : State) (q : QueueNo) (p : Nat),
    let r := s.est.recs[q]
    let w := s.expectedWait q p
    (r.nUsed = 0 → w = 65535 ∧ s.band q p = 7) ∧
    (r.nUsed ≠ 0 →
      (p * r.step ≤ 4096 * w ∨ w = 65535) ∧ w ≤ 65535 ∧ (w = 0 ∨ 4096 * (w - 1) < p * r.step) ∧
      (0 < s.items.bandWidth →
        s.band q p ≤ 7 ∧ s.items.bandWidth * s.band q p ≤ w ∧
        (s.band q p = 7 ∨ w < s.items.bandWidth * (s.band q p + 1))))

/-! ## Playback (Sections 6 and 7) -/

/-- The fetch in flight completes (R105 to R107). For a channel that is IDLE or was loaded again it is discarded. Otherwise
the samples, or silence and a STORE_FAULT at a read fault, join the tail of the channel's buffer, marked last where they bring
the remaining blocks to 0; the offset is one further, 65535 followed by 0 (R99); a music channel at its last block is back at
its clip's start; a LOADING channel is PLAYING; an announcement channel that begins to play takes every waiting entry of its
clip (R121). Then the arbiter grants. Where no fetch is in flight, nothing happens (log entry 4). -/
def Obligations.FetchesFillTheChannel : Prop :=
  ∀ (s : State) (samples : List Byte) (fault : Bool),
    (s.pbc.port = none → exec (.fetchComplete samples fault) s = .next s) ∧
    ∀ f, s.pbc.port = some f →
      let k := f.channel
      let r := s.pbc.channels[k]
      (r.state = .idle ∨ r.startNumber ≠ f.startNumber →
        exec (.fetchComplete samples fault) s = .next ((s.setPort none).grant.close s)) ∧
      ∀ x, r.state.run = some x → r.startNumber = f.startNumber →
        let last : Bool := x.remaining ≤ 1
        let entry := s.mpi.image.clips[x.clip]
        let again := last && 2 ≤ k.val
        let y : ClipRun :=
          { clip := x.clip
            page := if again then entry.page else x.page
            offset := if again then entry.offset else x.offset + 1
            remaining := if again then entry.length else x.remaining - 1
            buffer := x.buffer ++ [⟨if fault then .silence else .samples samples, last⟩]
            segment := x.segment
            fetching := false }
        let gate : Bool := k.val < 2 && (match r.state with | .loading _ => true | .idle | .playing _ _ => false)
        let taken := (s.htu.waiting.filter fun e => e.clip = x.clip).map (·.trunk)
        ∃ v,
          exec (.fetchComplete samples fault) s = .next (v.grant.close s) ∧
          v.pbc.port = none ∧
          v.pbc.channels[k] =
            { r with
              state := match r.state with
                | .playing _ b => .playing y b
                | .idle | .loading _ => .playing y none
              faults := if fault then min (r.faults + 1) 255 else r.faults } ∧
          v.htu.waiting = (if gate then s.htu.waiting.filter fun e => e.clip ≠ x.clip else s.htu.waiting) ∧
          (∀ t ∈ taken, gate = true → ∀ b, s.call t = some b →
            v.cqm.calls[t] = ⟨s.cqm.calls[t].gen, some { b with waiting := false, source := some k }⟩) ∧
          (∀ t : Trunk, s.call t = none → v.cqm.calls[t] = s.cqm.calls[t]) ∧
          Only
            { channels := [k], port := true, calls := if gate then taken else [], waiting := true,
              reports :=
                if fault then [.storeFault k x.clip (.readFault x.page x.offset) (min (r.faults + 1) 255)] else [] } s v

/-- A block boundary in RUN (R108). The frame sync pulses up to the boundary are counted on both counts, none where a boundary
is due already: the frame count goes on modulo 800 and a tick falls due where it passes 800 (R1; both the model's choice of
log entry 7), the block frame count modulo 256, and the frame that the last pulse begins takes up the connection map (R129;
log entry 20). Then the channels take the boundary one after another, each as an event of its own with its own start check and
grant (R108, R127, R119, R104; log entry 23), in the order that the command names, the others behind it (log entry 19). In
CONFIG nothing happens. -/
def Obligations.BlockBoundariesAreTaken : Prop :=
  ∀ (s : State) (order : List Channel), wellFormed (.blockBoundary order) = true →
    (s.running = false → exec (.blockBoundary order) s = .next s) ∧
    (s.running = true →
      let n := if s.pbc.boundariesDue = 0 then 256 - s.pbc.blockFrameCount else 0
      let counted : State := { s with
        clk := { s.clk with
          frameCount := (s.clk.frameCount + n) % 800
          ticksDue := s.clk.ticksDue + (s.clk.frameCount + n) / 800 }
        pbc := { s.pbc with
          blockFrameCount := (s.pbc.blockFrameCount + n) % 256
          boundariesDue := s.pbc.boundariesDue + (s.pbc.blockFrameCount + n) / 256 - 1 }
        sps := { s.sps with sending := if n = 0 then s.sps.sending else s.framePaths } }
      ∃ u, exec (.blockBoundary order) s = .next u ∧
        Chain BoundaryTaken (order ++ (List.finRange 6).filter fun k => !order.contains k) counted u)

/-- The fetch arbiter (R103, R104): where the port is free, the first channel in the order A0, A1, M0 to M3 that requests has
it, and the store is sent its page and offset; a channel requests that is LOADING or PLAYING with fewer than two blocks
buffered, none in flight and blocks remaining. The announcement starts (R102, R119, R120): a valid clip is loaded; an invalid
one is counted and reported as a store fault, and its entries leave the list with next-due afresh. The start check takes the
oldest entry whose clip no announcement channel is loading, and the lowest IDLE announcement channel, again and again until
there is no such pair. -/
def Obligations.ArbiterAndStartCheckAct : Prop :=
  (∀ s : State,
    let asks := fun k : Channel => ∃ x ∈ s.pbc.channels[k].state.run,
      x.buffer.length < 2 ∧ x.fetching = false ∧ 0 < x.remaining
    (s.pbc.port ≠ none ∨ (∀ k, ¬ asks k) → s.grant = s) ∧
    ∀ (k : Channel) (x : ClipRun), s.pbc.port = none → asks k → (∀ i < k, ¬ asks i) →
      s.pbc.channels[k].state.run = some x →
      s.grant.pbc.port = some ⟨k, s.pbc.channels[k].startNumber, x.page, x.offset⟩ ∧
      s.grant.pbc.channels[k] =
        { s.pbc.channels[k] with state := s.pbc.channels[k].state.withRun { x with fetching := true } } ∧
      Only { channels := [k], port := true } s s.grant) ∧
  (∀ (s : State) (k : Channel) (clip : Clip),
    let r := s.pbc.channels[k]
    let e := s.mpi.image.clips[clip]
    let v := s.startAnnouncement k clip
    (e.valid = true →
      v.pbc.channels[k] =
        { r with state := .loading ⟨clip, e.page, e.offset, e.length, [], 0, false⟩, startNumber := r.startNumber + 1 } ∧
      Only { channels := [k] } s v) ∧
    (e.valid = false →
      v.pbc.channels[k] = { r with faults := min (r.faults + 1) 255 } ∧
      v.htu.waiting = s.htu.waiting.filter (fun w => w.clip ≠ clip) ∧
      (∀ t : Trunk, v.cqm.calls[t] =
        if ⟨t, clip⟩ ∈ s.htu.waiting then
          ⟨s.cqm.calls[t].gen, (s.call t).map fun b =>
            { b with
              waiting := false
              nextDue := if (s.queueItems b.queue).annInterval = 0 then .never
                else .at (deadline s.now (s.queueItems b.queue).annInterval) }⟩
        else s.cqm.calls[t]) ∧
      Only
        { channels := [k], calls := List.finRange 32, waiting := true,
          reports := [.storeFault k clip .invalidClip (min (r.faults + 1) 255)] } s v)) ∧
  ∀ s : State,
    let loads := fun (u : State) (clip : Clip) => ∃ k : Channel, k.val < 2 ∧ ∃ x, u.pbc.channels[k].state = .loading x ∧ x.clip = clip
    (∀ (n : Nat) (before after : List WaitEntry) (e : WaitEntry) (k : Channel),
      s.htu.waiting = before ++ e :: after → (∀ d ∈ before, loads s d.clip) → ¬ loads s e.clip →
      k.val < 2 → s.pbc.channels[k].state = .idle → (∀ i < k, s.pbc.channels[i].state ≠ .idle) →
      s.startCheck (n + 1) = (s.startAnnouncement k e.clip).startCheck n) ∧
    (s.htu.waiting.length ≤ 32 →
      let u := s.startCheck 35
      (∀ e ∈ u.htu.waiting, loads u e.clip) ∨ ∀ k : Channel, k.val < 2 → u.pbc.channels[k].state ≠ .idle)

/-! ## The close of an event -/

/-- What the close of an event that began in `s` does to the link (R158, R149). Where the idle set of a queue, or the room,
has crossed between empty and not, one notice is asked for. Then, in RUN, where no attempt is under way, the entry that may
begin does: the one that awaits its retry, else the first that is a frame or a placeholder that is not held (R148), once the
bus has been idle for 2 character times, or for the backoff of R151 at a retry. Its count of attempts rises by one, its
characters are those of the frame, or of a notice built now, and the idle measure restarts. Its first character is in progress
on the bus (R141). Otherwise the link stays. That an attempt begins at the close of the event, wherever the bus has been idle
long enough, is deduced (log entry 9). -/
def Obligations.CloseAsksAndBegins : Prop :=
  ∀ s v : State,
    let u := v.close s
    let crossed := (∃ q : QueueNo, ¬ (v.idleSet q = [] ↔ s.idleSet q = [])) ∨ ¬ (v.room = 0 ↔ s.room = 0)
    let ready := v.closeEst s
    ∃ w : State, (crossed → w = ready.requestNotice) ∧ (¬ crossed → w = ready) ∧
      let free := fun e : TxEntry => e.isFrame = true ∨ ∀ c, w.plc.lastAvail = some c → 2 ≤ elapsed c w.now
      let next := fun (before : List TxEntry) (e : TxEntry) (after : List TxEntry) =>
        w.plc.queue = before ++ e :: after ∧ (∀ d ∈ before, d.tries = 0) ∧
          (0 < e.tries ∨ (∀ d ∈ w.plc.queue, d.tries = 0) ∧ (∀ d ∈ before, ¬ free d) ∧ free e)
      let wait := fun e : TxEntry => if e.tries = 0 then 2 else 1 + (5 * w.mpi.station.val + 3 * e.tries) % 16
      (∀ before e after, next before e after → w.running = true → w.plc.attempt = none → wait e ≤ w.plc.busIdle →
        u.plc = { w.plc with
          queue := before ++ { e with tries := e.tries + 1 } :: after
          attempt := some (frameChars w.mpi.station
            (match e.body with
              | .frame f => f
              | .notice => ⟨w.mpi.station, .avail w.buildNotice⟩))
          busIdle := 0
          onBus := .begun }) ∧
      ((w.running = false ∨ w.plc.attempt ≠ none ∨
          ∀ before e after, next before e after → w.plc.busIdle < wait e) → u.plc = w.plc)

/-- After every event the connection map is what the records call for. A trunk hears the channel of its hold source in QUEUED
and OFFERED, its programme's music in ALERTING, its agent in TALKING, its junctor's return slot in a LENT state, silence when
FREE (R131). A position hears its trunk, or its guest's forward slot, in TALKING and silence otherwise (R132). The forward
slot of a junctor that is BOUND to a trunk in a LENT state carries the trunk, and every other forward slot is not driven
(R133). The return slot of a guest carries music in ALERTING and the agent in TALKING, and otherwise is not driven (R134). -/
def Obligations.PathsFollowTheRecords : Prop :=
  ∀ s v : State,
    let map := (v.close s).sps.map
    (∀ t : Trunk, map.trunks[t] =
      match v.call t with
      | none => none
      | some b =>
        match b.phase with
        | .queued | .offered _ _ _ => b.source.map PathSource.channel
        | .alerting _ => some (.channel (musicChannel b.programme))
        | .talking p _ => some (.localSlot (32 + p.val))
        | .lentAlerting _ j _ | .lentTalking _ j _ => some (.junctorSlot (16 * v.mpi.station.val + 2 * j.val + 1))) ∧
    (∀ p : Position, map.positions[p] =
      match v.duty p with
      | some (.talking (.call t)) => some (.localSlot t.val)
      | some (.talking (.guest g)) =>
        (v.ofu.guests[g]).map fun r => .junctorSlot (16 * r.origin.val + 2 * r.junctor.val)
      | _ => none) ∧
    (∀ j : Junctor, map.forward[j] =
      match v.sps.junctors[j] with
      | .bound t =>
        (v.call t).bind fun b =>
          match b.phase with
          | .lentAlerting _ _ _ | .lentTalking _ _ _ => some (.localSlot t.val)
          | .queued | .offered _ _ _ | .alerting _ | .talking _ _ => none
      | .free | .holdoff _ => none) ∧
    ∀ g : GuestNo, map.returns[g] =
      match v.ofu.guests[g] with
      | some ⟨.alerting, _, _, _, _, _, programme, _, _⟩ => some (.channel (musicChannel programme))
      | some ⟨.talking _, _, _, _, _, _, _, _, p⟩ => some (.localSlot (32 + p.val))
      | _ => none

/-- What the part sends in the present frame (R129, TABLES 8-1 and 8-2), for whatever it receives in that frame. Slots 0-55 of
the local highway carry the sources that the paths of the frame name, silence where they name none; slots 56-61 the channels,
a channel that plays no block of a clip being silent; slots 62 and 63 silence. A junctor slot that no station drives is heard
as silence. On the junctor highway the part drives the slots that the paths name, and no other. The paths of a frame are the
connection map at its beginning, so that a change of the map by an event is heard from the first frame counted after it (log
entry 20): the forward slots are 16s + 2j of this station, the return slots 16s + 2j + 1 of the guest's origin. The silence
code is a free value (log entry 16). -/
def Obligations.HighwaysCarryThePaths : Prop :=
  ∀ (s : State) (localIn : List Byte) (junctorIn : List (Option Byte)),
    let silence := Config.silenceCode
    let played := fun k : Channel =>
      match s.pbc.channels[k].state with
      | .playing _ (some (.block ⟨.samples bytes, _⟩)) => bytes.getD s.pbc.blockFrameCount silence
      | .playing _ (some (.block ⟨.silence, _⟩)) | .playing _ (some .stall) | .playing _ none | .idle | .loading _ => silence
    let sample := fun
      | some (.localSlot n) => localIn.getD n silence
      | some (.channel k) => played k
      | some (.junctorSlot n) =>
        match junctorIn[n]? with
        | some (some b) => b
        | some none | none => silence
      | none => silence
    let sent := s.localOut localIn junctorIn
    (∀ t : Trunk, sent ⟨t.val, by omega⟩ = sample s.sps.sending.trunks[t]) ∧
    (∀ p : Position, sent ⟨32 + p.val, by omega⟩ = sample s.sps.sending.positions[p]) ∧
    (∀ m : Programme, sent ⟨56 + m.val, by omega⟩ = played (musicChannel m)) ∧
    sent 60 = played 0 ∧ sent 61 = played 1 ∧ sent 62 = silence ∧ sent 63 = silence ∧
    (∀ n : Fin 256,
      ((∀ x, (n.val, x) ∉ s.sps.sending.driven) → s.junctorOut localIn junctorIn n = none) ∧
      ∀ x, (n.val, x) ∈ s.sps.sending.driven → (∀ y, (n.val, y) ∈ s.sps.sending.driven → y = x) →
        s.junctorOut localIn junctorIn n = some (sample (some x))) ∧
    (let paths := s.framePaths
     paths.trunks = s.sps.map.trunks ∧ paths.positions = s.sps.map.positions ∧
     ∀ n x, (n, x) ∈ paths.driven ↔
       (∃ j : Junctor, n = 16 * s.mpi.station.val + 2 * j.val ∧ s.sps.map.forward[j] = some x) ∨
       ∃ (g : GuestNo) (r : GuestRec), s.ofu.guests[g] = some r ∧ n = 16 * r.origin.val + 2 * r.junctor.val + 1 ∧
         s.sps.map.returns[g] = some x)

/-- The close of an event writes nothing but the estimates, the transmit queue with its attempt, the connection map and the
ATTN line; the ATTN line is active exactly in RUN while the FIFO holds a report of an enabled kind (R191). Where the part was
settled and the event has left the estimates, the link, the working and idle agents, the room, the mode, the station, the
clock and the items as they were, the close changes the map and the ATTN line alone. -/
def Obligations.CloseWritesNothingElse : Prop :=
  ∀ s v : State,
    let u := v.close s
    u = { v with
      est := u.est
      plc := u.plc
      sps := { v.sps with map := u.sps.map }
      mpi := { v.mpi with attn := u.mpi.attn } } ∧
    (u.mpi.attn = true ↔ v.mpi.mode = .run ∧ ∃ r ∈ v.mpi.fifo, v.items.attnEnable.raises r = true) ∧
    (s.settled = true → v.est = s.est → v.plc = s.plc → (∀ q p, v.staffed q p = s.staffed q p) →
      (∀ q p, v.idle q p = s.idle q p) → v.guestsInUse = s.guestsInUse → v.clk = s.clk → v.mpi.mode = s.mpi.mode →
      v.mpi.station = s.mpi.station → v.mpi.image = s.mpi.image → u.est = s.est ∧ u.plc = s.plc)

/-! ## Attempts (Section 9) -/

/-- The bus is seen (R140, R141, R149; log entry 8). Found idle, the measure is taken, and at 2 character times no frame is in
progress; at another station's start bit the measure is 0, and a marked character begins a frame. In RUN what may begin begins
by the close (log entry 9); during an attempt of this station nothing is taken. A lost attempt (R150, R151) leaves the entry
in its place with its count, the bus busy; a notice loses its renew mark (R147); the eighth drops the entry and counts it, an
OFFER still outstanding then fails (R175) and a notice is asked for again (R159). A completed attempt (R152) takes the entry
out; for a notice the completion is stamped (R148), and a renew mark asks again (R147). Without an attempt neither does
anything (log entry 4). That a dropped OFFER fails only where it is still outstanding is deduced (log entry 14); the
characters kept for the echo are log entry 10. -/
def Obligations.AttemptsBeginAndEnd : Prop :=
  ∀ s : State,
    (∀ sign : BusSign,
      let m := s.setPlc
        (match sign with
          | .idle n => { s.plc with busIdle := n, onBus := if 2 ≤ n then .none else s.plc.onBus }
          | .startBit true => { s.plc with busIdle := 0, onBus := .begun }
          | .startBit false => { s.plc with busIdle := 0 })
      (s.plc.attempt ≠ none → exec (.attemptBegin sign) s = .next s) ∧
      (s.plc.attempt = none → s.running = true → exec (.attemptBegin sign) s = .next (m.close s)) ∧
      (s.plc.attempt = none → s.running = false → exec (.attemptBegin sign) s = .next m)) ∧
    (s.plc.attempt = none → exec .attemptLost s = .next s ∧ exec .attemptComplete s = .next s) ∧
    ∀ (chars : List Byte) (before after : List TxEntry) (e : TxEntry),
      s.plc.attempt = some chars → s.plc.queue = before ++ e :: after → (∀ d ∈ before, d.tries = 0) → 0 < e.tries →
      let notice := e.body = .notice
      let lost := s.setPlc { s.plc with
        attempt := none
        busIdle := 0
        renew := s.plc.renew && e.isFrame }
      let dropped := lost.setPlc { lost.plc with
        queue := before ++ after
        contentionDrop := min (s.plc.contentionDrop + 1) 65535 }
      let done := s.setPlc { s.plc with
        queue := before ++ after
        attempt := none
        busIdle := 0
        echo := some chars }
      let sent := done.setPlc { done.plc with lastAvail := some s.now, renew := false }
      (e.tries < 8 → exec .attemptLost s = .next (lost.close s)) ∧
      (8 ≤ e.tries → notice → exec .attemptLost s = .next (dropped.requestNotice.close s)) ∧
      (8 ≤ e.tries → (∀ x o, e.body ≠ .frame ⟨x, .offer o⟩) → ¬ notice →
        exec .attemptLost s = .next (dropped.close s)) ∧
      (8 ≤ e.tries → ∀ x o, e.body = .frame ⟨x, .offer o⟩ →
        let t := o.tag.trunk
        (∀ b slot, s.cqm.calls[t] = ⟨o.tag.gen, some b⟩ → b.phase = .offered slot x o.junctor →
          ∃ v, OfferFailed dropped v t b slot o.junctor ∧ exec .attemptLost s = .next (v.close s)) ∧
        ((∀ b slot, s.cqm.calls[t] = ⟨o.tag.gen, some b⟩ → b.phase ≠ .offered slot x o.junctor) →
          exec .attemptLost s = .next (dropped.close s))) ∧
      (¬ notice → exec .attemptComplete s = .next (done.close s)) ∧
      (notice → exec .attemptComplete s =
        .next ((if s.plc.renew then sent.requestNotice else sent).close s))

/-! ## Frames received -/

/-- A frame that is not delivered. In CONFIG, and in RUN where START was taken in the midst of the frame, the measures of the
bus alone are kept (R140, R144; log entries 8 and 10). Otherwise in RUN a frame for another station is skipped and this
station's own echo is discarded, neither counted; a length error, a CRC error and a frame of another station under this number
are each counted, saturating at 65535 (R141 to R143); nothing else changes. A frame of no known kind is such a frame (R142).
-/
def Obligations.UndeliveredFramesAreCounted : Prop :=
  ∀ (s : State) (f : RxFrame) (g : RawFrame) (c : Instr) (chars : List Byte) (damaged endedByMark : Bool),
    ((c, chars, damaged, endedByMark) ∈
      [(Instr.avail f, FrameKind.avail), (.offer f, .offer), (.take f, .take), (.decline f, .decline),
        (.connect f, .connect), (.answered f, .answered), (.bounce f, .bounce), (.releaseAgentDone f, .release),
        (.releaseCallerGone f, .release), (.releaseTooLate f, .release), (.withdraw f, .withdraw)].map
          (fun e => (e.1, rxChars e.2 f, f.damaged, f.endedByMark)) ∨
      (c, chars, damaged, endedByMark) = (.lengthErrorFrame g, g.head :: g.rest, g.damaged, g.endedByMark)) →
    let heard := afterFrame s endedByMark
    (s.running = false → exec c s = .next heard) ∧
    (s.running = true → s.plc.onBus = .passedOver → exec c s = .next (heard.close s)) ∧
    (s.running = true → s.plc.onBus ≠ .passedOver →
      let found := receive s.mpi.station s.plc.echo chars damaged
      (found = .skipped ∨ found = .echo → exec c s = .next (heard.close s)) ∧
      (found = .lengthError → exec c s =
        .next (State.close (heard.setPlc { heard.plc with lengthErr := min (s.plc.lengthErr + 1) 65535 }) s)) ∧
      (found = .crcError → exec c s =
        .next (State.close (heard.setPlc { heard.plc with crcErr := min (s.plc.crcErr + 1) 65535 }) s)) ∧
      (found = .clash → exec c s =
        .next (State.close (heard.setPlc { heard.plc with idClash := min (s.plc.idClash + 1) 65535 }) s))) ∧
    (∀ g', c = .lengthErrorFrame g' → kindMissing g'.rest = true →
      receive s.mpi.station s.plc.echo chars damaged =
        if g'.head.toNat / 128 = 1 ∨ g'.head.toNat % 16 = s.mpi.station.val then .lengthError else .skipped)

/-- AVAIL from `x` (R160). A clock lower than a PRESENT entry's last is a restart, and the loss is settled (R163). The entry
is PRESENT, heard now, with the notice's clock, room, counts, bands and map, and no decline mark. PEER_STATE is written with
cause RESTART and what was settled, or with cause NOTICE where the entry was not PRESENT. Then every guest from `x` that holds
a junctor which the map does not show bound to this station is released, in record order (R161). -/
def Obligations.NoticesAreApplied : Prop :=
  ∀ (s : State) (f : RxFrame) (x : Station) (n : Notice), Delivers s .avail f x (.avail n) →
    let m := heard s f
    let was := s.pvt.peers[x]
    let restart := ∃ d, was = .present d ∧ n.clock.toNat < d.lastClock.toNat
    let counts := lossCounts s x
    ∃ k l v,
      (restart → LossSettled m k x) ∧ (¬ restart → k = m) ∧
      (let seen := k.setPeer x (.present ⟨n.clock, s.now, n.room, n.idle, n.band, Vector.replicate 8 false, n.map⟩)
       (restart → l = seen.writeReport
         (.peerState x .present .present .restart n.clock (min counts.1 255) (min counts.2.1 255) (min counts.2.2 255))) ∧
       (was = .unknown → l = seen.writeReport (.peerState x .unknown .present .notice n.clock 0 0 0)) ∧
       (∀ c h, was = .absent c h → l = seen.writeReport (.peerState x .absent .present .notice n.clock 0 0 0)) ∧
       (∀ d, was = .present d → ¬ restart → l = seen)) ∧
      Chain (fun g u w => GuestReleased u w m g)
        ((List.finRange 16).filter fun g =>
          match l.ofu.guests[g] with
          | some r => r.origin == x && n.map[r.junctor] != some s.mpi.station &&
              match r.phase with
              | .waitConnect _ => false
              | .alerting | .talking _ => true
          | none => false) l v ∧
      exec (.avail f) s = .next (v.close s)

/-- OFFER from `x` (R177). A guest of the same origin and tag is freed first, and its agent's AGENT_STATE stands where the
event leaves the agent (log entry 22). Then the offer is declined with the first reason that applies: NOT_SERVED with no agent
staffed for the queue, NO_ROOM at GUEST_LIMIT, NO_AGENT with no idle agent. Otherwise the lowest FREE guest record is put in
use in WAIT_CONNECT with what the OFFER carries and a deadline a CONNECT_LIMIT from now, an agent chosen by the POLICY is
RESERVED for it (R63), and TAKE is given. -/
def Obligations.OffersAreTakenOrDeclined : Prop :=
  ∀ (s : State) (f : RxFrame) (x : Station) (o : OfferData), Delivers s .offer f x (.offer o) →
    let m := heard s f
    let stale := s.guestNamed x o.tag
    ∃ k l v,
      (match stale with
        | none => k = m
        | some g => ∃ r ∈ s.ofu.guests[g], GuestFreed m k g r) ∧
      (let declined := fun reason => l = k.give x (.decline o.tag reason)
       if k.staffedCount o.queue = 0 then declined .notServed
       else if k.items.guestLimit ≤ k.guestsInUse then declined .noRoom
       else if k.idleSet o.queue = [] then declined .noAgent
       else
         ∀ (g : GuestNo) (p : Position) (chosen : State),
           k.ofu.guests[g] = none → (∀ h < g, k.ofu.guests[h] ≠ none) → k.chooseAgent o.queue = some (p, chosen) →
           l.ofu.guests[g] =
             some ⟨.waitConnect (deadline s.now s.items.connectLimit), x, o.tag, o.junctor, o.queue, o.priority, o.programme,
               o.waited, p⟩ ∧
           l.dsu.agents[p] = onDuty k.dsu.agents[p] (.reserved g) ∧
           l.dsu.idleList = k.dsu.idleList.erase p ∧
           Only { guests := [g], agents := [p], idleList := true, frames := [(x, .take o.tag o.junctor)] } chosen l) ∧
      (match stale with
        | none => v = l
        | some g => ∃ r ∈ s.ofu.guests[g],
          AgentReported l v m r.agent (match m.duty r.agent with | some (.talking _) => .wrapEnd | _ => .callGone)) ∧
      exec (.offer f) s = .next (v.close s)

/-- TAKE from `x` (R171, R27, R124). Where the record has the tag's generation and is OFFERED to `x` over the frame's junctor,
the call is lent: LENT_ALERTING with its deadline, out of its list and of the waiting list, no source, its slot free, CONNECT
given. Otherwise RELEASE TOO_LATE is given and nothing else changes. The origin's other frames (R172 to R174, R171). A DECLINE
that matches an OFFERED record sets the decline mark of its queue for `x` and the viewed idle count to 0 (R164), and the offer
fails. An ANSWERED that matches a LENT_ALERTING record makes it LENT_TALKING, answered now. A BOUNCE that matches one returns
the call. A RELEASE AGENT_DONE that matches a LENT_TALKING record ends the call ANSWERED_PEER (R38). Without a match an
ANSWERED is answered with RELEASE TOO_LATE, and the others do nothing. -/
def Obligations.OriginFramesAct : Prop :=
  (∀ (s : State) (f : RxFrame) (x : Station) (tag : Tag) (j : Junctor), Delivers s .take f x (.take tag j) →
      let m := heard s f
      let t := tag.trunk
      (∀ b o, s.cqm.calls[t] = ⟨tag.gen, some b⟩ → b.phase = .offered o x j →
        ∃ v, exec (.take f) s = .next (v.close s) ∧
          v.cqm.calls[t] = ⟨tag.gen, some { b with
            phase := .lentAlerting x j (deadline s.now s.items.lentLimit)
            source := none
            waiting := false }⟩ ∧
          v.cqm.lists[b.queue] = s.cqm.lists[b.queue].erase t ∧
          v.ofu.slots[o] = none ∧
          v.htu.waiting = s.htu.waiting.filter (fun e => e.trunk ≠ t) ∧
          Only { calls := [t], lists := [b.queue], slots := [o], waiting := true, frames := [(x, .connect tag j)] } m v) ∧
      ((∀ b o, s.cqm.calls[t] = ⟨tag.gen, some b⟩ → b.phase ≠ .offered o x j) →
        exec (.take f) s = .next ((m.give x (.release tag .tooLate)).close s))) ∧
  ∀ (s : State) (f : RxFrame) (x : Station) (tag : Tag),
    let m := heard s f
    let t := tag.trunk
    let live := fun b : CallBody => s.cqm.calls[t] = ⟨tag.gen, some b⟩
    (∀ reason, Delivers s .decline f x (.decline tag reason) →
      (∀ b o j, live b → b.phase = .offered o x j →
        ∃ k v, Only { peers := [x] } m k ∧
          k.pvt.peers[x] = (match s.pvt.peers[x] with
            | .present d => .present { d with decline := d.decline.set b.queue true, idle := d.idle.set b.queue 0 }
            | entry => entry) ∧
          OfferFailed k v t b o j ∧ exec (.decline f) s = .next (v.close s)) ∧
      ((∀ b o j, live b → b.phase ≠ .offered o x j) → exec (.decline f) s = .next (m.close s))) ∧
    (Delivers s .answered f x (.answered tag) →
      (∀ b j d, live b → b.phase = .lentAlerting x j d →
        exec (.answered f) s =
          .next ((m.setCall t ⟨tag.gen, some { b with phase := .lentTalking x j s.now }⟩).close s)) ∧
      ((∀ b j d, live b → b.phase ≠ .lentAlerting x j d) →
        exec (.answered f) s = .next ((m.give x (.release tag .tooLate)).close s))) ∧
    (∀ cause, Delivers s .bounce f x (.bounce tag cause) →
      (∀ b j d, live b → b.phase = .lentAlerting x j d →
        ∃ v, Returned m v t b ∧ exec (.bounce f) s = .next (v.close s)) ∧
      ((∀ b j d, live b → b.phase ≠ .lentAlerting x j d) → exec (.bounce f) s = .next (m.close s))) ∧
    (Delivers s .release f x (.release tag .agentDone) →
      (∀ b j a, live b → b.phase = .lentTalking x j a →
        ∃ v, Ended m v t b .answeredPeer (elapsed b.arrival a) (elapsed a s.now) (.peer x) [] [.clear t] ∧
          exec (.releaseAgentDone f) s = .next (v.close s)) ∧
      ((∀ b j a, live b → b.phase ≠ .lentTalking x j a) →
        exec (.releaseAgentDone f) s = .next (m.close s)))

/-- CONNECT from `x` (R178). Where a guest in WAIT_CONNECT has this origin, tag and junctor, every other guest from `x` that
holds the junctor is released; then the guest is ALERTING, and its agent ALERTING with its ring deadline, out of the idle
list, RING issued (R63). Otherwise BOUNCE TOO_LATE is given and nothing else changes. WITHDRAW, and RELEASE with cause
CALLER_GONE or TOO_LATE, from `x` (R181): the guest that the frame names is released with no frame sent, in whatever state it
is; a frame that names no guest does nothing. -/
def Obligations.ConnectsAndReleasesReachTheGuest : Prop :=
  (∀ (s : State) (f : RxFrame) (x : Station) (tag : Tag) (j : Junctor), Delivers s .connect f x (.connect tag j) →
      let m := heard s f
      (∀ g r d, s.guestNamed x tag = some g → s.ofu.guests[g] = some r → r.phase = .waitConnect d → r.junctor = j →
        ∃ k v,
          Chain (fun h u w => GuestReleased u w m h)
            ((List.finRange 16).filter fun h =>
              h != g &&
                match s.ofu.guests[h] with
                | some q => q.origin == x && q.junctor == j && (q.phase == .alerting || q.phase.answer.isSome)
                | none => false) m k ∧
          v.ofu.guests[g] = some { r with phase := .alerting } ∧
          v.dsu.agents[r.agent] =
            onDuty k.dsu.agents[r.agent] (.alerting (.guest g) (deadline s.now s.items.ringLimit)) ∧
          v.dsu.idleList = k.dsu.idleList.erase r.agent ∧
          Only { guests := [g], agents := [r.agent], idleList := true, orders := [.ring r.agent] } k v ∧
          exec (.connect f) s = .next (v.close s)) ∧
      ((∀ g r d, s.guestNamed x tag = some g → s.ofu.guests[g] = some r → r.phase = .waitConnect d → r.junctor ≠ j) →
        exec (.connect f) s = .next ((m.give x (.bounce tag .tooLate)).close s))) ∧
  ∀ (s : State) (f : RxFrame) (x : Station) (tag : Tag) (c : Instr),
    (c = .withdraw f ∧ Delivers s .withdraw f x (.withdraw tag)) ∨
      (c = .releaseCallerGone f ∧ Delivers s .release f x (.release tag .callerGone)) ∨
      (c = .releaseTooLate f ∧ Delivers s .release f x (.release tag .tooLate)) →
    let m := heard s f
    (∀ g, s.guestNamed x tag = some g → ∃ v, GuestReleased m v m g ∧ exec c s = .next (v.close s)) ∧
    (s.guestNamed x tag = none → exec c s = .next (m.close s))

/-! ## The offer scan (Section 11) -/

/-- One queue's turn of the offer scan (R168 to R170, R136, R27, R164). Its head eligible call is offered where no BUSY slot
serves the queue, OVF_WAIT or OVF_BAND calls for it, and a slot, a junctor, three places of the transmit queue and an eligible
peer are there: the lowest FREE slot, the head of the free order, and of the PRESENT peers with room, idle agents in their
view and no decline mark the one with the highest viewed idle count, the first after this station on a tie. The record is
OFFERED in its place, OFFER is given, and the viewed count is one lower. Otherwise the turn changes nothing. -/
def Obligations.OffersAreMade : Prop :=
  ∀ (s : State) (q : QueueNo),
    let view := fun x : Station =>
      match s.pvt.peers[x] with
      | .present d => if 1 ≤ d.room ∧ d.decline[q] = false then d.idle[q] else 0
      | .unknown | .absent _ _ => 0
    let rank := fun x : Station => x - s.mpi.station - 1
    let best := fun x : Station => 1 ≤ view x ∧ ∀ y, view y < view x ∨ (view y = view x ∧ rank x ≤ rank y)
    let called := fun (t : Trunk) (b : CallBody) =>
      s.headEligible q = some t ∧ s.call t = some b ∧
      (∀ o : SlotNo, ∀ d ∈ s.ofu.slots[o], d.queue ≠ q) ∧
      ((0 < (s.queueItems q).ovfWait ∧ (s.queueItems q).ovfWait ≤ elapsed b.arrival s.now) ∨
        (0 < (s.queueItems q).ovfBand ∧ (s.queueItems q).ovfBand ≤ s.band q (s.queuePosition q t)))
    (∀ t b o j x rest, called t b →
      s.ofu.slots[o] = none → (∀ k < o, s.ofu.slots[k] ≠ none) → s.sps.freeOrder = j :: rest → s.plc.frames ≤ 5 → best x →
      let v := s.scanQueue q
      v.ofu.slots[o] = some ⟨t, q, deadline s.now s.items.offerLimit⟩ ∧
      v.sps.junctors[j] = .bound t ∧
      v.sps.freeOrder = rest ∧
      v.cqm.calls[t] = ⟨s.cqm.calls[t].gen, some { b with phase := .offered o x j }⟩ ∧
      (∀ d, s.pvt.peers[x] = .present d →
        v.pvt.peers[x] = .present { d with idle := d.idle.set q (d.idle[q] - 1) }) ∧
      Only
        { slots := [o], junctors := [j], freeOrder := true, calls := [t], peers := [x],
          frames := [(x, .offer ⟨⟨t, s.cqm.calls[t].gen⟩, q, b.priority, b.programme, j,
            min (elapsed b.arrival s.now) 65535⟩)] } s v) ∧
    ((∀ t b, ¬ called t b) ∨ (∀ o : SlotNo, s.ofu.slots[o] ≠ none) ∨ s.sps.freeOrder = [] ∨ 5 < s.plc.frames ∨
        (∀ x, ¬ best x) → s.scanQueue q = s)

/-! ## The maintenance port (Section 12) -/

/-- A SET in CONFIG of a value in its item's range writes that item alone and is answered OK (R186, TABLES 12-2 to 12-5 and
13-5): a station item; a queue item; a music channel's clip or SEG_BLOCKS; a profile of distinct queues; a service map entry;
a clip table entry. -/
def Obligations.SetWritesOneItem : Prop :=
  ∀ s : State, s.running = false →
    let stored := fun (data : List Byte) (image : Image) =>
      exec (.set data) s = .next { s with mpi := { s.mpi with image := image, response := some [0] } }
    let i := s.mpi.image
    (∀ (row : Fin 12) (n : Nat), (stationRange row).1 ≤ n → n ≤ (stationRange row).2 →
      ∃ x, stored (setData (1 + row.val) n) { i with station := x } ∧ stationValue x row = n ∧
        ∀ k, k ≠ row → stationValue x k = stationValue i.station k) ∧
    (∀ (q : QueueNo) (row : Fin 11) (n : Nat), queueRange row n = true →
      ∃ x, stored (setData (32 + 16 * q.val + row.val) n) { i with queues := i.queues.set q x } ∧
        queueValue x row = n ∧ ∀ k, k ≠ row → queueValue x k = queueValue i.queues[q] k) ∧
    (∀ (m : Programme) (c : Clip), stored (setData (16 + 2 * m.val) c.val)
      { i with music := i.music.set m { i.music[m] with clip := c } }) ∧
    (∀ (m : Programme) (n : Nat), 1 ≤ n → n ≤ 255 → stored (setData (17 + 2 * m.val) n)
      { i with music := i.music.set m { i.music[m] with segBlocks := n } }) ∧
    (∀ (f : ProfileNo) (queues : List QueueNo), queues.Nodup →
      stored ([0, byte (160 + f.val)] ++ queues.map fun q => byte q.val)
        { i with profiles := i.profiles.set f queues }) ∧
    (∀ (k : Fin 64) (valid : Bool) (q : QueueNo) (priority : Priority) (programme : Programme),
      stored [0, byte (192 + k.val), byte (128 * bit valid + 16 * q.val + 4 * priority.val + programme.val)]
        { i with services := i.services.set k ⟨valid, q, priority, programme⟩ }) ∧
    ∀ (c : Clip) (valid : Bool) (page : BitVec 8) (offset : BitVec 16) (n : Nat), 1 ≤ n → n ≤ 4095 →
      stored [1, byte c.val, byte (bit valid), page, byte (offset.toNat / 256), byte offset.toNat, byte (n / 256), byte n]
        { i with clips := i.clips.set c ⟨valid, page, offset, n⟩ }

/-- A SET that is refused changes nothing but the response (R186, R195, R184): LENGTH with fewer than two data bytes, or
another count than the item's; BAD_ITEM for a number that TABLE 12-2 has not, in either mode; WRONG_MODE in RUN; BAD_VALUE for
a value outside its range, for a profile that names a queue twice or one above 7, and for a clip entry with a field outside
its range. That LENGTH and BAD_ITEM stand before WRONG_MODE is the model's choice of log entry 12. -/
def Obligations.SetIsRefused : Prop :=
  ∀ (s : State) (data : List Byte),
    let answers := fun (d : List Byte) (code : Byte) =>
      exec (.set d) s = .next { s with mpi := { s.mpi with response := some [code] } }
    let item := fun n : Nat =>
      (1 ≤ n ∧ n ≤ 12) ∨ (16 ≤ n ∧ n ≤ 23) ∨ (32 ≤ n ∧ n < 160 ∧ n % 16 ≤ 10) ∨ (160 ≤ n ∧ n ≤ 167) ∨ (192 ≤ n ∧ n ≤ 287)
    (data.length < 2 → answers data 4) ∧
    (∀ a b value, data = a :: b :: value →
      let n := a.toNat * 256 + b.toNat
      let two := (1 ≤ n ∧ n ≤ 12) ∨ (16 ≤ n ∧ n ≤ 23) ∨ (32 ≤ n ∧ n < 160 ∧ n % 16 ≤ 10)
      let fits := (two ∧ value.length = 2) ∨ (160 ≤ n ∧ n ≤ 167 ∧ value.length ≤ 8) ∨
        (192 ≤ n ∧ n ≤ 255 ∧ value.length = 1) ∨ (256 ≤ n ∧ n ≤ 287 ∧ value.length = 6)
      (¬ item n → answers data 1) ∧
      (item n → ¬ fits → answers data 4) ∧
      (item n → fits → s.running = true → answers data 3)) ∧
    (s.running = false →
      (∀ (row : Fin 12) (n : Nat), row ≠ 11 → n ≤ 65535 → (n < (stationRange row).1 ∨ (stationRange row).2 < n) →
        answers (setData (1 + row.val) n) 2) ∧
      (∀ (q : QueueNo) (row : Fin 11) (n : Nat), n ≤ 65535 → queueRange row n = false →
        answers (setData (32 + 16 * q.val + row.val) n) 2) ∧
      (∀ (m : Programme) (n : Nat), n ≤ 65535 → 31 < n → answers (setData (16 + 2 * m.val) n) 2) ∧
      (∀ (m : Programme) (n : Nat), n ≤ 65535 → n = 0 ∨ 255 < n → answers (setData (17 + 2 * m.val) n) 2) ∧
      (∀ (f : ProfileNo) (queues : List Byte), queues.length ≤ 8 → (¬ queues.Nodup ∨ ∃ b ∈ queues, 7 < b.toNat) →
        answers ([0, byte (160 + f.val)] ++ queues) 2) ∧
      ∀ (c : Clip) (valid page o1 o0 l1 l0 : Byte),
        let n := l1.toNat * 256 + l0.toNat
        1 < valid.toNat ∨ n = 0 ∨ 4095 < n → answers [1, byte c.val, valid, page, o1, o0, l1, l0] 2)

/-- START (R187, R188). With data it is answered LENGTH, in RUN WRONG_MODE, and in CONFIG, where a relation of R187 is broken,
BAD_VALUE with the lowest number of an offending item; nothing else changes. Otherwise it is answered OK and the part is in
RUN: the clock and block frame count at 0 (R2, R108); the marks clear, the orders behind the one being sent replaced by the 57
of the sweep (R14, R15); every queue seeded and pending (R84); the music channels loading their clips, the first of them
granted the port (R101, R104); a notice asked for and the period set (R157). A frame in progress on the bus is passed over
(R144). Where nothing was in flight the division of Q0 begins. That data is answered LENGTH (R184) in RUN as well, before
WRONG_MODE, is the model's choice of log entry 12. -/
def Obligations.StartIsTakenOrRefused : Prop :=
  ∀ s : State,
    let answers := fun (data code : List Byte) =>
      exec (.start data) s = .next { s with mpi := { s.mpi with response := some code } }
    let i := s.mpi.image
    let offends := fun n : Nat =>
      (n = 6 ∧ i.station.lentLimit ≤ i.station.ringLimit + i.station.connectLimit) ∨
      (n = 8 ∧ i.station.presenceLimit < 2 * i.station.availPeriod) ∨
      (∃ m : Programme, n = 16 + 2 * m.val ∧ i.clips[i.music[m].clip].valid = false) ∨
      ∃ q : QueueNo, n = 35 + 16 * q.val ∧ i.queues[q].wrapTime < i.queues[q].wrapMin
    (∀ data, data ≠ [] → answers data [4]) ∧
    (s.running = true → answers [] [3]) ∧
    (s.running = false → ∀ n, offends n → (∀ k < n, ¬ offends k) → answers [] [2, byte (n / 256), byte n]) ∧
    (s.running = false → (∀ n, ¬ offends n) →
      ∃ m v : State,
        exec (.start []) s = .next ((v.close s).setResponse (some [0])) ∧
        v = (m.grant.requestNotice).setPeriod (some (deadline 0 i.station.availPeriod)) ∧
        (∀ c : Channel, m.pbc.channels[c] =
          if 2 ≤ c.val then
            let clip := i.music[programmeOf c].clip
            let e := i.clips[clip]
            { s.pbc.channels[c] with
              state := .loading ⟨clip, e.page, e.offset, e.length, [], 0, false⟩
              startNumber := s.pbc.channels[c].startNumber + 1 }
          else s.pbc.channels[c]) ∧
        (∀ q : QueueNo, m.est.recs[q] =
          { s.est.recs[q] with aht16 := i.queues[q].ahtSeed * 16, pendingFlag := true }) ∧
        m = { s with
          mpi := { s.mpi with mode := .run }
          clk := ⟨0, 0, 0⟩
          pbc := { s.pbc with channels := m.pbc.channels, blockFrameCount := 0, boundariesDue := 0 }
          plc := { s.plc with onBus := if s.plc.onBus = .none then .none else .passedOver }
          est := { s.est with recs := m.est.recs }
          lsi := { s.lsi with
            trunks := s.lsi.trunks.map fun x => { x with reported := false }
            positions := s.lsi.positions.map fun x => { x with reported := false }
            orders := s.lsi.orders.take 1 ++ (List.finRange 32).map Order.clear ++
              (List.finRange 24).map Order.stopRing ++ [.scanAll] } } ∧
        (s.est.inFlight = none →
          (v.close s).est.inFlight = some ⟨0, i.queues[(0 : QueueNo)].ahtSeed * 16, s.staffedCount 0⟩))

/-- The RESET pin brings every block to its values after RESET, the image to its defaults, and the station number to the
straps; RESTART, in either mode, does the same but keeps the image, the station number and the order being sent, and is
answered OK; with data it is answered LENGTH (R185, R14, R184). The idle measure and the frame in progress on the bus are
taken as they are found (R140); the commands that wait still wait (log entry 29). -/
def Obligations.ResetAndRestartStartAfresh : Prop :=
  ∀ s : State,
    (∀ straps : Station, exec (.resetPin straps) s = .next { State.reset with
      plc := { State.reset.plc with busIdle := s.plc.busIdle, onBus := s.plc.onBus }
      mpi := { State.reset.mpi with station := straps }
      pending := s.pending }) ∧
    exec (.restart []) s = .next { State.reset with
      lsi := { State.reset.lsi with orders := s.lsi.orders.take 1 }
      plc := { State.reset.plc with busIdle := s.plc.busIdle, onBus := s.plc.onBus }
      mpi := { State.reset.mpi with
        station := s.mpi.station
        image := s.mpi.image
        response := some [0] }
      pending := s.pending } ∧
    ∀ data, data ≠ [] →
      exec (.restart data) s = .next { s with mpi := { s.mpi with response := some [4] } }

/-- SELECT sets the table pointer, in either mode, and is answered OK; a table above the eight is BAD_ITEM, an index at or
beyond the table's entries (TABLE 12-6) BAD_VALUE, another count of bytes LENGTH; then the pointer stays (R189). READ_NEXT
answers OK, the table, the index and the entry, and the index rises by one, or becomes 0 after the last entry. -/
def Obligations.TablesAreSelectedAndRead : Prop :=
  ∀ s : State,
    let size : Fin 8 → Nat := ![32, 25, 8, 6, 8, 16, 16, 4]
    let answers := fun (c : Instr) (code : List Byte) =>
      exec c s = .next { s with mpi := { s.mpi with response := some code } }
    (∀ (t : Fin 8) (i : Byte), i.toNat < size t →
      exec (.select [byte t.val, i]) s =
        .next { s with mpi := { s.mpi with pointer := ⟨t, i.toNat⟩, response := some [0] } }) ∧
    (∀ (t : Fin 8) (i : Byte), size t ≤ i.toNat → answers (.select [byte t.val, i]) [2]) ∧
    (∀ t i : Byte, 7 < t.toNat → answers (.select [t, i]) [1]) ∧
    (∀ data : List Byte, data.length ≠ 2 → answers (.select data) [4]) ∧
    (∀ data : List Byte, data ≠ [] → answers (.readNext data) [4]) ∧
    ∀ (t : Fin 8) (i : Nat), s.mpi.pointer = ⟨t, i⟩ → i < size t →
      ∃ fields, entryFields s t i = some fields ∧
        exec (.readNext []) s = .next { s with mpi := { s.mpi with
          pointer := ⟨t, if i + 1 = size t then 0 else i + 1⟩
          response := some (0 :: byte t.val :: byte i :: entryBytes fields) } }

/-- What an entry of each table shows (TABLE 13-7): every field of the record in order, present where the record's state has
it, with the codes of the table. That the waiting field of a call is present with its other hold fields is read from R114. -/
def Obligations.EntriesShowTheRecords : Prop :=
  ∀ s : State,
    let shows := fun (table : Fin 8) (i : Nat) (row : List (Nat × Option (List Byte))) =>
      (entryFields s table i).map entryBytes = some (entryOf row)
    let flag := fun b : Bool => some (bit b)
    let perQueue := fun f : QueueNo → Byte => (8, some ((List.finRange 8).map f))
    (∀ t : Trunk,
      let b := s.call t
      let phase : Option CallPhase := b.map (·.phase)
      let (code, agent, answer, slot, peer, junctor, lent) :
          Nat × Option Position × Option Stamp × Option SlotNo × Option Station × Option Junctor × Option Stamp :=
        match phase with
        | none => (0, none, none, none, none, none, none)
        | some .queued => (1, none, none, none, none, none, none)
        | some (.offered o x j) => (2, none, none, some o, some x, some j, none)
        | some (.alerting p) => (3, some p, none, none, none, none, none)
        | some (.talking p a) => (4, some p, some a, none, none, none, none)
        | some (.lentAlerting x j d) => (5, none, none, none, some x, some j, some d)
        | some (.lentTalking x j a) => (6, none, some a, none, some x, some j, none)
      shows 0 t.val
        [one (some code), one (some s.cqm.calls[t].gen.toNat), one (b.map (·.queue.val)), one (b.map (·.priority.val)),
          one (b.map (·.programme.val)), clock (b.map (·.arrival)), one (b.map fun c => bit c.recovered),
          one (agent.map (·.val)), clock answer, one (slot.map (·.val)), one (peer.map (·.val)), one (junctor.map (·.val)),
          clock lent,
          one (b.map fun c =>
            match c.source with
            | none => 255
            | some k => if k.val < 2 then k.val + 4 else k.val - 2),
          (5, b.map fun c =>
            match c.nextDue with
            | .at a => 0 :: bytes4 a.toNat
            | .never => [1, 0, 0, 0, 0]
            | .due => [2, 0, 0, 0, 0]),
          one (b.map fun c =>
            if c.waiting then ((s.htu.waiting.find? fun e => e.trunk = t).map (·.clip.val)).getD 255 else 255)]) ∧
    (∀ p : Position,
      let a := s.dsu.agents[p]
      let (code, bound, ring, since, wrap) :
          Nat × Option Bound × Option Stamp × Option Stamp × Option WrapFields :=
        match s.duty p with
        | none => (0, none, none, none, none)
        | some .notReady => (1, none, none, none, none)
        | some (.ready x) => (2, none, none, some x, none)
        | some (.reserved g) => (3, some (.guest g), none, none, none)
        | some (.alerting x d) => (4, some x, some d, none, none)
        | some (.talking x) => (5, some x, none, none, none)
        | some (.wrapup w) => (6, none, none, none, some w)
      shows 1 p.val
        [one (some code), one (a.post.map (·.profile.val)), one (flag (a.headset == .present)),
          one (bound.map fun
            | .call t => t.val
            | .guest g => 128 + g.val),
          clock ring, clock since,
          one (some (match a.pendingAction with
            | .none => 0
            | .ready => 1
            | .notReady => 2
            | .signOff => 3)),
          one (wrap.map (·.queue.val)), clock (wrap.map (·.start)), clock (wrap.map (·.wrapEnd)),
          clock (wrap.map (·.minEnd)), one (wrap.map (·.extensions)), two (wrap.map (·.talk))]) ∧
    shows 1 24 [perQueue fun q => byte s.dsu.hunt[q].val] ∧
    (∀ q : QueueNo,
      let r := s.est.recs[q]
      shows 2 q.val
        [four (some r.aht16), four (some r.step), one (some r.nUsed), one (some (s.staffedCount q)),
          one (flag r.pendingFlag), one (flag (s.est.inFlight.any fun d => d.queue == q)), two (some r.restarts)]) ∧
    (∀ c : Channel,
      let r := s.pbc.channels[c]
      let (code, run, playing) : Nat × Option ClipRun × Option Playing :=
        match r.state with
        | .idle => (0, none, none)
        | .loading x => (1, some x, none)
        | .playing x b => (2, some x, b)
      let block := fun b : Block => bit b.last
      shows 3 c.val
        [one (some code), one (run.map (·.clip.val)), one (run.map (·.page.toNat)), two (run.map (·.offset.toNat)),
          two (run.map (·.remaining)),
          (1, run.map fun x => byte x.buffer.length :: x.buffer.map fun b => byte (block b)),
          one (playing.map fun
            | .block b => block b
            | .stall => 2),
          one (if c.val < 2 then none else run.map (·.segment)), one (flag (2 ≤ c.val)),
          one (run.map fun x => bit x.fetching), one (some r.startNumber.toNat), one (some r.underruns),
          one (some r.faults)]) ∧
    (∀ j : Junctor,
      shows 4 j.val
        (match s.sps.junctors[j] with
          | .free => [one (some 0), one none, one none, clock none, one (some (s.sps.freeOrder.idxOf j))]
          | .bound t =>
            [one (some 1), one (some t.val),
              one ((s.call t).bind fun b =>
                match b.phase with
                | .offered _ x _ | .lentAlerting x _ _ | .lentTalking x _ _ => some x.val
                | .queued | .alerting _ | .talking _ _ => none),
              clock none, one none]
          | .holdoff a => [one (some 2), one none, one none, clock (some a), one (some (s.sps.holdoffOrder.idxOf j))])) ∧
    (∀ g : GuestNo,
      let r := s.ofu.guests[g]
      let phase : Option GuestPhase := r.map (·.phase)
      let (code, connect, answer) : Nat × Option Stamp × Option Stamp :=
        match phase with
        | none => (0, none, none)
        | some (.waitConnect d) => (1, some d, none)
        | some .alerting => (2, none, none)
        | some (.talking a) => (3, none, some a)
      shows 5 g.val
        [one (some code), one (r.map (·.origin.val)),
          (2, r.map fun x => [byte x.tag.trunk.val, byte x.tag.gen.toNat]), one (r.map (·.junctor.val)),
          one (r.map (·.queue.val)), one (r.map (·.priority.val)), one (r.map (·.programme.val)), two (r.map (·.waited)),
          one (r.map (·.agent.val)), clock connect, clock answer]) ∧
    (∀ x : Station,
      let (code, last, heard, view) : Nat × Option Stamp × Option Stamp × Option PeerData :=
        match s.pvt.peers[x] with
        | .unknown => (0, none, none, none)
        | .present d => (1, some d.lastClock, some d.lastHeard, some d)
        | .absent c h => (2, some c, some h, none)
      let each := fun f : PeerData → QueueNo → Byte => (8, view.map fun d => (List.finRange 8).map (f d))
      shows 6 x.val
        [one (some code), clock last, clock heard, one (view.map (·.room)), each fun d q => byte d.idle[q],
          each fun d q => byte d.band[q],
          one (view.map fun d => ((List.finRange 8).map fun q : QueueNo => if d.decline[q] then 2 ^ q.val else 0).sum),
          each fun d j =>
            match d.map[j] with
            | none => 0
            | some y => byte (128 + y.val)]) ∧
    shows 7 0 [four (some s.clk.tickCount.toNat), one (flag s.running)] ∧
    shows 7 1 [two (some s.lsi.scanErrors), one (some s.lsi.orderLosses)] ∧
    shows 7 2
      [two (some s.plc.crcErr), two (some s.plc.lengthErr), two (some s.plc.idClash), two (some s.plc.contentionDrop),
        two (some s.plc.txqDrop)] ∧
    shows 7 3
      [one (some (s.plc.queue.countP (·.isFrame))),
        one (some (match s.plc.queue.find? fun e => e.body == .notice with
          | none => 0
          | some e => if e.tries = 0 then 1 else 2)),
        one (some s.mpi.fifo.length), one (some s.mpi.lostReports)]

/-- A transaction (R184, R195). One whose select period ends before the stated count of bytes has come has no effect and no
response. A count of 0, a code that names no command, and a count that is not the command's, are answered LENGTH with no
effect. A whole transaction of a command does what the command does, by whatever row it is given: the model's choice of log
entry 31. -/
def Obligations.TransactionsAreTakenWhole : Prop :=
  ∀ s : State,
    let silent := fun c : Instr => exec c s = .next { s with mpi := { s.mpi with response := none } }
    let refused := fun c : Instr => exec c s = .next { s with mpi := { s.mpi with response := some [4] } }
    silent (.transactionAbandoned []) ∧
    (∀ (count : Byte) (arrived : List Byte), arrived.length < count.toNat → silent (.transactionAbandoned (count :: arrived))) ∧
    refused (.unknownCommandCode [0]) ∧
    (∀ (code : Byte) (data : List Byte), data.length ≤ 254 → code.toNat = 0 ∨ 7 < code.toNat →
      refused (.unknownCommandCode (byte (data.length + 1) :: code :: data))) ∧
    (∀ data : List Byte, data ≠ [] → refused (.reportNext data) ∧ refused (.status data)) ∧
    ∀ data : List Byte, data.length ≤ 254 →
      ∀ e ∈ [((1 : Byte), Instr.set data), (2, .start data), (3, .restart data), (4, .select data), (5, .readNext data),
          (6, .reportNext data), (7, .status data)],
        exec (.transactionAbandoned (byte (data.length + 1) :: e.1 :: data)) s = exec e.2 s

/-! ## The tick (Section 1) -/

/-- A tick (R1, R2). In CONFIG the clock is stopped and nothing happens. In RUN the frame sync pulses up to the tick are
counted on both counts, none where a tick is due already (R1, R108; the model's choice of log entry 7), and the tick count
rises by one, 4,294,967,295 followed by 0. From counts in their ranges with nothing due, the frame count is then 0. A pulse
that is both the 800th and the 256th is counted once: TICK and BLOCK_BOUNDARY, in either order, leave both counts 0 and
nothing due. Whatever deadlines the tick reaches, it changes no generation, no channel and no fetch (R19, R104), no received
count of the link and no echo, no image, mode, station, table pointer or response, and no command that waits. Every deadline
that the tick reaches is taken, as its own row takes it (R1; an event each, log entry 34). First come those that an earlier
tick left, and the divisions (R89; log entries 3 and 5); then, at the new clock value, what the plan names first, and the
rest in the default order but for what the plan leaves to later commands (log entry 3); a division that these begin completes
before the scan only where the plan names it (R89; log entry 36). Then Q0 to Q7 take their turns of the offer scan (R168), in
one event with its close, and the hold of a placeholder ends where it does (R148; log entry 35). Where no row has anything to
do, the tick is the advance, the scan and the end of the hold, whatever order it takes the blocks in. Where further the part
was settled with no division in flight, no queue makes an offer, and nothing on the bus waits for the hold alone, it changes
nothing but the counts (R1, R3). -/
def Obligations.TicksAdvanceTheClock : Prop :=
  (∀ (s : State) (plan : TickPlan),
      let n := if s.clk.ticksDue = 0 then 800 - s.clk.frameCount else 0
      (s.running = false → exec (.tick plan) s = .next s) ∧
      (s.running = true →
        ∃ u, exec (.tick plan) s = .next u ∧
          u.clk = ⟨s.clk.tickCount + 1, (s.clk.frameCount + n) % 800, s.clk.ticksDue + (s.clk.frameCount + n) / 800 - 1⟩ ∧
          u.pbc = { s.pbc with
            blockFrameCount := (s.pbc.blockFrameCount + n) % 256
            boundariesDue := s.pbc.boundariesDue + (s.pbc.blockFrameCount + n) / 256 } ∧
          (s.clk.ticksDue = 0 → s.clk.frameCount < 800 → u.clk = ⟨s.clk.tickCount + 1, 0, 0⟩) ∧
          (∀ t : Trunk, u.cqm.calls[t].gen = s.cqm.calls[t].gen) ∧
          u.lsi.scanOpen = s.lsi.scanOpen ∧
          u.plc.crcErr = s.plc.crcErr ∧ u.plc.lengthErr = s.plc.lengthErr ∧ u.plc.idClash = s.plc.idClash ∧
          u.plc.contentionDrop = s.plc.contentionDrop ∧ u.plc.lastAvail = s.plc.lastAvail ∧ u.plc.echo = s.plc.echo ∧
          u.mpi.mode = s.mpi.mode ∧ u.mpi.station = s.mpi.station ∧ u.mpi.image = s.mpi.image ∧
          u.mpi.pointer = s.mpi.pointer ∧ u.mpi.response = s.mpi.response ∧
          u.pending = s.pending)) ∧
  (∀ (s : State) (plan : TickPlan) (order : List Channel),
      s.running = true → s.clk.ticksDue = 0 → s.pbc.boundariesDue = 0 → s.clk.frameCount < 800 →
      s.pbc.blockFrameCount < 256 → 800 - s.clk.frameCount = 256 - s.pbc.blockFrameCount →
      ∀ e ∈ [(Instr.tick plan, Instr.blockBoundary order), (.blockBoundary order, .tick plan)],
        ∃ u w, exec e.1 s = .next u ∧ exec e.2 u = .next w ∧
          w.clk = ⟨s.clk.tickCount + 1, 0, 0⟩ ∧ w.pbc.blockFrameCount = 0 ∧ w.pbc.boundariesDue = 0) ∧
  (∀ (s : State) (plan : TickPlan), s.running = true →
      ∃ a w : State,
        RowsTaken (tickOrder ++ List.replicate 9 .division) s a ∧
        RowsTaken (plan.first ++ tickOrder.filter fun e => !plan.later.contains e) (ticked a) w ∧
        exec (.tick plan) s = scanned w) ∧
  ∀ (s : State) (plan : TickPlan), s.running = true →
    let v := ticked s
    (∀ e ∈ .division :: tickOrder, exec (rowOf e) s = .next s) →
    (∀ e ∈ plan.first ++ tickOrder, exec (rowOf e) v = .next v) →
    exec (.tick plan) s = scanned v ∧
      (s.settled = true → s.est.inFlight = none → (∀ q, v.scanQueue q = v) → v.linkWaits = true →
        exec (.tick plan) s = .next v)
end

