-- ==== Sys2Proof/Laws/State.lean ====
section
/-! SUPPORT. What each setter of State changes and leaves: one lemma for each setter, every field of State in it, true by
`rfl`. -/

namespace Sys2Proof.Machine.State

variable (s : State)

@[simp] theorem setTrunkSup_fields (t : Trunk) (x : TrunkSup) :
    (s.setTrunkSup t x).lsi = { s.lsi with trunks := s.lsi.trunks.set t x } ∧ (s.setTrunkSup t x).clk = s.clk ∧
      (s.setTrunkSup t x).cqm = s.cqm ∧ (s.setTrunkSup t x).dsu = s.dsu ∧ (s.setTrunkSup t x).est = s.est ∧
      (s.setTrunkSup t x).pbc = s.pbc ∧ (s.setTrunkSup t x).htu = s.htu ∧ (s.setTrunkSup t x).sps = s.sps ∧
      (s.setTrunkSup t x).plc = s.plc ∧ (s.setTrunkSup t x).pvt = s.pvt ∧ (s.setTrunkSup t x).ofu = s.ofu ∧
      (s.setTrunkSup t x).mpi = s.mpi ∧ (s.setTrunkSup t x).pending = s.pending :=
  ⟨rfl, rfl, rfl, rfl, rfl, rfl, rfl, rfl, rfl, rfl, rfl, rfl, rfl⟩

@[simp] theorem setPositionSup_fields (p : Position) (x : PositionSup) :
    (s.setPositionSup p x).lsi = { s.lsi with positions := s.lsi.positions.set p x } ∧
      (s.setPositionSup p x).clk = s.clk ∧ (s.setPositionSup p x).cqm = s.cqm ∧ (s.setPositionSup p x).dsu = s.dsu ∧
      (s.setPositionSup p x).est = s.est ∧ (s.setPositionSup p x).pbc = s.pbc ∧ (s.setPositionSup p x).htu = s.htu ∧
      (s.setPositionSup p x).sps = s.sps ∧ (s.setPositionSup p x).plc = s.plc ∧ (s.setPositionSup p x).pvt = s.pvt ∧
      (s.setPositionSup p x).ofu = s.ofu ∧ (s.setPositionSup p x).mpi = s.mpi ∧
      (s.setPositionSup p x).pending = s.pending :=
  ⟨rfl, rfl, rfl, rfl, rfl, rfl, rfl, rfl, rfl, rfl, rfl, rfl, rfl⟩

@[simp] theorem setOrders_fields (x : List Order) :
    (s.setOrders x).lsi = { s.lsi with orders := x } ∧ (s.setOrders x).clk = s.clk ∧ (s.setOrders x).cqm = s.cqm ∧
      (s.setOrders x).dsu = s.dsu ∧ (s.setOrders x).est = s.est ∧ (s.setOrders x).pbc = s.pbc ∧
      (s.setOrders x).htu = s.htu ∧ (s.setOrders x).sps = s.sps ∧ (s.setOrders x).plc = s.plc ∧
      (s.setOrders x).pvt = s.pvt ∧ (s.setOrders x).ofu = s.ofu ∧ (s.setOrders x).mpi = s.mpi ∧
      (s.setOrders x).pending = s.pending :=
  ⟨rfl, rfl, rfl, rfl, rfl, rfl, rfl, rfl, rfl, rfl, rfl, rfl, rfl⟩

@[simp] theorem setOrderLosses_fields (x : Nat) :
    (s.setOrderLosses x).lsi = { s.lsi with orderLosses := x } ∧ (s.setOrderLosses x).clk = s.clk ∧
      (s.setOrderLosses x).cqm = s.cqm ∧ (s.setOrderLosses x).dsu = s.dsu ∧ (s.setOrderLosses x).est = s.est ∧
      (s.setOrderLosses x).pbc = s.pbc ∧ (s.setOrderLosses x).htu = s.htu ∧ (s.setOrderLosses x).sps = s.sps ∧
      (s.setOrderLosses x).plc = s.plc ∧ (s.setOrderLosses x).pvt = s.pvt ∧ (s.setOrderLosses x).ofu = s.ofu ∧
      (s.setOrderLosses x).mpi = s.mpi ∧ (s.setOrderLosses x).pending = s.pending :=
  ⟨rfl, rfl, rfl, rfl, rfl, rfl, rfl, rfl, rfl, rfl, rfl, rfl, rfl⟩

@[simp] theorem setScanErrors_fields (x : Nat) :
    (s.setScanErrors x).lsi = { s.lsi with scanErrors := x } ∧ (s.setScanErrors x).clk = s.clk ∧
      (s.setScanErrors x).cqm = s.cqm ∧ (s.setScanErrors x).dsu = s.dsu ∧ (s.setScanErrors x).est = s.est ∧
      (s.setScanErrors x).pbc = s.pbc ∧ (s.setScanErrors x).htu = s.htu ∧ (s.setScanErrors x).sps = s.sps ∧
      (s.setScanErrors x).plc = s.plc ∧ (s.setScanErrors x).pvt = s.pvt ∧ (s.setScanErrors x).ofu = s.ofu ∧
      (s.setScanErrors x).mpi = s.mpi ∧ (s.setScanErrors x).pending = s.pending :=
  ⟨rfl, rfl, rfl, rfl, rfl, rfl, rfl, rfl, rfl, rfl, rfl, rfl, rfl⟩

@[simp] theorem setScanOpen_fields (x : List Byte) :
    (s.setScanOpen x).lsi = { s.lsi with scanOpen := x } ∧ (s.setScanOpen x).clk = s.clk ∧
      (s.setScanOpen x).cqm = s.cqm ∧ (s.setScanOpen x).dsu = s.dsu ∧ (s.setScanOpen x).est = s.est ∧
      (s.setScanOpen x).pbc = s.pbc ∧ (s.setScanOpen x).htu = s.htu ∧ (s.setScanOpen x).sps = s.sps ∧
      (s.setScanOpen x).plc = s.plc ∧ (s.setScanOpen x).pvt = s.pvt ∧ (s.setScanOpen x).ofu = s.ofu ∧
      (s.setScanOpen x).mpi = s.mpi ∧ (s.setScanOpen x).pending = s.pending :=
  ⟨rfl, rfl, rfl, rfl, rfl, rfl, rfl, rfl, rfl, rfl, rfl, rfl, rfl⟩

@[simp] theorem setClk_fields (x : Clk) :
    (s.setClk x).lsi = s.lsi ∧ (s.setClk x).clk = x ∧ (s.setClk x).cqm = s.cqm ∧ (s.setClk x).dsu = s.dsu ∧
      (s.setClk x).est = s.est ∧ (s.setClk x).pbc = s.pbc ∧ (s.setClk x).htu = s.htu ∧ (s.setClk x).sps = s.sps ∧
      (s.setClk x).plc = s.plc ∧ (s.setClk x).pvt = s.pvt ∧ (s.setClk x).ofu = s.ofu ∧ (s.setClk x).mpi = s.mpi ∧
      (s.setClk x).pending = s.pending :=
  ⟨rfl, rfl, rfl, rfl, rfl, rfl, rfl, rfl, rfl, rfl, rfl, rfl, rfl⟩

@[simp] theorem setCall_fields (t : Trunk) (x : CallRec) :
    (s.setCall t x).lsi = s.lsi ∧ (s.setCall t x).clk = s.clk ∧
      (s.setCall t x).cqm = { s.cqm with calls := s.cqm.calls.set t x } ∧ (s.setCall t x).dsu = s.dsu ∧
      (s.setCall t x).est = s.est ∧ (s.setCall t x).pbc = s.pbc ∧ (s.setCall t x).htu = s.htu ∧
      (s.setCall t x).sps = s.sps ∧ (s.setCall t x).plc = s.plc ∧ (s.setCall t x).pvt = s.pvt ∧
      (s.setCall t x).ofu = s.ofu ∧ (s.setCall t x).mpi = s.mpi ∧ (s.setCall t x).pending = s.pending :=
  ⟨rfl, rfl, rfl, rfl, rfl, rfl, rfl, rfl, rfl, rfl, rfl, rfl, rfl⟩

@[simp] theorem setList_fields (q : QueueNo) (x : List Trunk) :
    (s.setList q x).lsi = s.lsi ∧ (s.setList q x).clk = s.clk ∧
      (s.setList q x).cqm = { s.cqm with lists := s.cqm.lists.set q x } ∧ (s.setList q x).dsu = s.dsu ∧
      (s.setList q x).est = s.est ∧ (s.setList q x).pbc = s.pbc ∧ (s.setList q x).htu = s.htu ∧
      (s.setList q x).sps = s.sps ∧ (s.setList q x).plc = s.plc ∧ (s.setList q x).pvt = s.pvt ∧
      (s.setList q x).ofu = s.ofu ∧ (s.setList q x).mpi = s.mpi ∧ (s.setList q x).pending = s.pending :=
  ⟨rfl, rfl, rfl, rfl, rfl, rfl, rfl, rfl, rfl, rfl, rfl, rfl, rfl⟩

@[simp] theorem setAgent_fields (p : Position) (x : AgentRec) :
    (s.setAgent p x).lsi = s.lsi ∧ (s.setAgent p x).clk = s.clk ∧ (s.setAgent p x).cqm = s.cqm ∧
      (s.setAgent p x).dsu = { s.dsu with agents := s.dsu.agents.set p x } ∧ (s.setAgent p x).est = s.est ∧
      (s.setAgent p x).pbc = s.pbc ∧ (s.setAgent p x).htu = s.htu ∧ (s.setAgent p x).sps = s.sps ∧
      (s.setAgent p x).plc = s.plc ∧ (s.setAgent p x).pvt = s.pvt ∧ (s.setAgent p x).ofu = s.ofu ∧
      (s.setAgent p x).mpi = s.mpi ∧ (s.setAgent p x).pending = s.pending :=
  ⟨rfl, rfl, rfl, rfl, rfl, rfl, rfl, rfl, rfl, rfl, rfl, rfl, rfl⟩

@[simp] theorem setIdleList_fields (x : List Position) :
    (s.setIdleList x).lsi = s.lsi ∧ (s.setIdleList x).clk = s.clk ∧ (s.setIdleList x).cqm = s.cqm ∧
      (s.setIdleList x).dsu = { s.dsu with idleList := x } ∧ (s.setIdleList x).est = s.est ∧
      (s.setIdleList x).pbc = s.pbc ∧ (s.setIdleList x).htu = s.htu ∧ (s.setIdleList x).sps = s.sps ∧
      (s.setIdleList x).plc = s.plc ∧ (s.setIdleList x).pvt = s.pvt ∧ (s.setIdleList x).ofu = s.ofu ∧
      (s.setIdleList x).mpi = s.mpi ∧ (s.setIdleList x).pending = s.pending :=
  ⟨rfl, rfl, rfl, rfl, rfl, rfl, rfl, rfl, rfl, rfl, rfl, rfl, rfl⟩

@[simp] theorem setHunt_fields (q : QueueNo) (x : Position) :
    (s.setHunt q x).lsi = s.lsi ∧ (s.setHunt q x).clk = s.clk ∧ (s.setHunt q x).cqm = s.cqm ∧
      (s.setHunt q x).dsu = { s.dsu with hunt := s.dsu.hunt.set q x } ∧ (s.setHunt q x).est = s.est ∧
      (s.setHunt q x).pbc = s.pbc ∧ (s.setHunt q x).htu = s.htu ∧ (s.setHunt q x).sps = s.sps ∧
      (s.setHunt q x).plc = s.plc ∧ (s.setHunt q x).pvt = s.pvt ∧ (s.setHunt q x).ofu = s.ofu ∧
      (s.setHunt q x).mpi = s.mpi ∧ (s.setHunt q x).pending = s.pending :=
  ⟨rfl, rfl, rfl, rfl, rfl, rfl, rfl, rfl, rfl, rfl, rfl, rfl, rfl⟩

@[simp] theorem setEst_fields (q : QueueNo) (x : EstRec) :
    (s.setEst q x).lsi = s.lsi ∧ (s.setEst q x).clk = s.clk ∧ (s.setEst q x).cqm = s.cqm ∧
      (s.setEst q x).dsu = s.dsu ∧ (s.setEst q x).est = { s.est with recs := s.est.recs.set q x } ∧
      (s.setEst q x).pbc = s.pbc ∧ (s.setEst q x).htu = s.htu ∧ (s.setEst q x).sps = s.sps ∧
      (s.setEst q x).plc = s.plc ∧ (s.setEst q x).pvt = s.pvt ∧ (s.setEst q x).ofu = s.ofu ∧
      (s.setEst q x).mpi = s.mpi ∧ (s.setEst q x).pending = s.pending :=
  ⟨rfl, rfl, rfl, rfl, rfl, rfl, rfl, rfl, rfl, rfl, rfl, rfl, rfl⟩

@[simp] theorem setInFlight_fields (x : Option Division) :
    (s.setInFlight x).lsi = s.lsi ∧ (s.setInFlight x).clk = s.clk ∧ (s.setInFlight x).cqm = s.cqm ∧
      (s.setInFlight x).dsu = s.dsu ∧ (s.setInFlight x).est = { s.est with inFlight := x } ∧
      (s.setInFlight x).pbc = s.pbc ∧ (s.setInFlight x).htu = s.htu ∧ (s.setInFlight x).sps = s.sps ∧
      (s.setInFlight x).plc = s.plc ∧ (s.setInFlight x).pvt = s.pvt ∧ (s.setInFlight x).ofu = s.ofu ∧
      (s.setInFlight x).mpi = s.mpi ∧ (s.setInFlight x).pending = s.pending :=
  ⟨rfl, rfl, rfl, rfl, rfl, rfl, rfl, rfl, rfl, rfl, rfl, rfl, rfl⟩

@[simp] theorem setChannel_fields (c : Channel) (x : ChannelRec) :
    (s.setChannel c x).lsi = s.lsi ∧ (s.setChannel c x).clk = s.clk ∧ (s.setChannel c x).cqm = s.cqm ∧
      (s.setChannel c x).dsu = s.dsu ∧ (s.setChannel c x).est = s.est ∧
      (s.setChannel c x).pbc = { s.pbc with channels := s.pbc.channels.set c x } ∧ (s.setChannel c x).htu = s.htu ∧
      (s.setChannel c x).sps = s.sps ∧ (s.setChannel c x).plc = s.plc ∧ (s.setChannel c x).pvt = s.pvt ∧
      (s.setChannel c x).ofu = s.ofu ∧ (s.setChannel c x).mpi = s.mpi ∧ (s.setChannel c x).pending = s.pending :=
  ⟨rfl, rfl, rfl, rfl, rfl, rfl, rfl, rfl, rfl, rfl, rfl, rfl, rfl⟩

@[simp] theorem setPort_fields (x : Option Fetch) :
    (s.setPort x).lsi = s.lsi ∧ (s.setPort x).clk = s.clk ∧ (s.setPort x).cqm = s.cqm ∧ (s.setPort x).dsu = s.dsu ∧
      (s.setPort x).est = s.est ∧ (s.setPort x).pbc = { s.pbc with port := x } ∧ (s.setPort x).htu = s.htu ∧
      (s.setPort x).sps = s.sps ∧ (s.setPort x).plc = s.plc ∧ (s.setPort x).pvt = s.pvt ∧ (s.setPort x).ofu = s.ofu ∧
      (s.setPort x).mpi = s.mpi ∧ (s.setPort x).pending = s.pending :=
  ⟨rfl, rfl, rfl, rfl, rfl, rfl, rfl, rfl, rfl, rfl, rfl, rfl, rfl⟩

@[simp] theorem setBlockFrame_fields (x : Nat) :
    (s.setBlockFrame x).lsi = s.lsi ∧ (s.setBlockFrame x).clk = s.clk ∧ (s.setBlockFrame x).cqm = s.cqm ∧
      (s.setBlockFrame x).dsu = s.dsu ∧ (s.setBlockFrame x).est = s.est ∧
      (s.setBlockFrame x).pbc = { s.pbc with blockFrameCount := x } ∧ (s.setBlockFrame x).htu = s.htu ∧
      (s.setBlockFrame x).sps = s.sps ∧ (s.setBlockFrame x).plc = s.plc ∧ (s.setBlockFrame x).pvt = s.pvt ∧
      (s.setBlockFrame x).ofu = s.ofu ∧ (s.setBlockFrame x).mpi = s.mpi ∧ (s.setBlockFrame x).pending = s.pending :=
  ⟨rfl, rfl, rfl, rfl, rfl, rfl, rfl, rfl, rfl, rfl, rfl, rfl, rfl⟩

@[simp] theorem setBoundariesDue_fields (x : Nat) :
    (s.setBoundariesDue x).lsi = s.lsi ∧ (s.setBoundariesDue x).clk = s.clk ∧ (s.setBoundariesDue x).cqm = s.cqm ∧
      (s.setBoundariesDue x).dsu = s.dsu ∧ (s.setBoundariesDue x).est = s.est ∧
      (s.setBoundariesDue x).pbc = { s.pbc with boundariesDue := x } ∧ (s.setBoundariesDue x).htu = s.htu ∧
      (s.setBoundariesDue x).sps = s.sps ∧ (s.setBoundariesDue x).plc = s.plc ∧ (s.setBoundariesDue x).pvt = s.pvt ∧
      (s.setBoundariesDue x).ofu = s.ofu ∧ (s.setBoundariesDue x).mpi = s.mpi ∧
      (s.setBoundariesDue x).pending = s.pending :=
  ⟨rfl, rfl, rfl, rfl, rfl, rfl, rfl, rfl, rfl, rfl, rfl, rfl, rfl⟩

@[simp] theorem setWaiting_fields (x : List WaitEntry) :
    (s.setWaiting x).lsi = s.lsi ∧ (s.setWaiting x).clk = s.clk ∧ (s.setWaiting x).cqm = s.cqm ∧
      (s.setWaiting x).dsu = s.dsu ∧ (s.setWaiting x).est = s.est ∧ (s.setWaiting x).pbc = s.pbc ∧
      (s.setWaiting x).htu = { s.htu with waiting := x } ∧ (s.setWaiting x).sps = s.sps ∧
      (s.setWaiting x).plc = s.plc ∧ (s.setWaiting x).pvt = s.pvt ∧ (s.setWaiting x).ofu = s.ofu ∧
      (s.setWaiting x).mpi = s.mpi ∧ (s.setWaiting x).pending = s.pending :=
  ⟨rfl, rfl, rfl, rfl, rfl, rfl, rfl, rfl, rfl, rfl, rfl, rfl, rfl⟩

@[simp] theorem setMap_fields (x : ConnMap) :
    (s.setMap x).lsi = s.lsi ∧ (s.setMap x).clk = s.clk ∧ (s.setMap x).cqm = s.cqm ∧ (s.setMap x).dsu = s.dsu ∧
      (s.setMap x).est = s.est ∧ (s.setMap x).pbc = s.pbc ∧ (s.setMap x).htu = s.htu ∧
      (s.setMap x).sps = { s.sps with map := x } ∧ (s.setMap x).plc = s.plc ∧ (s.setMap x).pvt = s.pvt ∧
      (s.setMap x).ofu = s.ofu ∧ (s.setMap x).mpi = s.mpi ∧ (s.setMap x).pending = s.pending :=
  ⟨rfl, rfl, rfl, rfl, rfl, rfl, rfl, rfl, rfl, rfl, rfl, rfl, rfl⟩

@[simp] theorem setSending_fields (x : FramePaths) :
    (s.setSending x).lsi = s.lsi ∧ (s.setSending x).clk = s.clk ∧ (s.setSending x).cqm = s.cqm ∧
      (s.setSending x).dsu = s.dsu ∧ (s.setSending x).est = s.est ∧ (s.setSending x).pbc = s.pbc ∧
      (s.setSending x).htu = s.htu ∧ (s.setSending x).sps = { s.sps with sending := x } ∧ (s.setSending x).plc = s.plc ∧
      (s.setSending x).pvt = s.pvt ∧ (s.setSending x).ofu = s.ofu ∧ (s.setSending x).mpi = s.mpi ∧
      (s.setSending x).pending = s.pending :=
  ⟨rfl, rfl, rfl, rfl, rfl, rfl, rfl, rfl, rfl, rfl, rfl, rfl, rfl⟩

@[simp] theorem setJunctor_fields (j : Junctor) (x : JunctorRec) :
    (s.setJunctor j x).lsi = s.lsi ∧ (s.setJunctor j x).clk = s.clk ∧ (s.setJunctor j x).cqm = s.cqm ∧
      (s.setJunctor j x).dsu = s.dsu ∧ (s.setJunctor j x).est = s.est ∧ (s.setJunctor j x).pbc = s.pbc ∧
      (s.setJunctor j x).htu = s.htu ∧ (s.setJunctor j x).sps = { s.sps with junctors := s.sps.junctors.set j x } ∧
      (s.setJunctor j x).plc = s.plc ∧ (s.setJunctor j x).pvt = s.pvt ∧ (s.setJunctor j x).ofu = s.ofu ∧
      (s.setJunctor j x).mpi = s.mpi ∧ (s.setJunctor j x).pending = s.pending :=
  ⟨rfl, rfl, rfl, rfl, rfl, rfl, rfl, rfl, rfl, rfl, rfl, rfl, rfl⟩

@[simp] theorem setFreeOrder_fields (x : List Junctor) :
    (s.setFreeOrder x).lsi = s.lsi ∧ (s.setFreeOrder x).clk = s.clk ∧ (s.setFreeOrder x).cqm = s.cqm ∧
      (s.setFreeOrder x).dsu = s.dsu ∧ (s.setFreeOrder x).est = s.est ∧ (s.setFreeOrder x).pbc = s.pbc ∧
      (s.setFreeOrder x).htu = s.htu ∧ (s.setFreeOrder x).sps = { s.sps with freeOrder := x } ∧
      (s.setFreeOrder x).plc = s.plc ∧ (s.setFreeOrder x).pvt = s.pvt ∧ (s.setFreeOrder x).ofu = s.ofu ∧
      (s.setFreeOrder x).mpi = s.mpi ∧ (s.setFreeOrder x).pending = s.pending :=
  ⟨rfl, rfl, rfl, rfl, rfl, rfl, rfl, rfl, rfl, rfl, rfl, rfl, rfl⟩

@[simp] theorem setHoldoffOrder_fields (x : List Junctor) :
    (s.setHoldoffOrder x).lsi = s.lsi ∧ (s.setHoldoffOrder x).clk = s.clk ∧ (s.setHoldoffOrder x).cqm = s.cqm ∧
      (s.setHoldoffOrder x).dsu = s.dsu ∧ (s.setHoldoffOrder x).est = s.est ∧ (s.setHoldoffOrder x).pbc = s.pbc ∧
      (s.setHoldoffOrder x).htu = s.htu ∧ (s.setHoldoffOrder x).sps = { s.sps with holdoffOrder := x } ∧
      (s.setHoldoffOrder x).plc = s.plc ∧ (s.setHoldoffOrder x).pvt = s.pvt ∧ (s.setHoldoffOrder x).ofu = s.ofu ∧
      (s.setHoldoffOrder x).mpi = s.mpi ∧ (s.setHoldoffOrder x).pending = s.pending :=
  ⟨rfl, rfl, rfl, rfl, rfl, rfl, rfl, rfl, rfl, rfl, rfl, rfl, rfl⟩

@[simp] theorem setPlc_fields (x : Plc) :
    (s.setPlc x).lsi = s.lsi ∧ (s.setPlc x).clk = s.clk ∧ (s.setPlc x).cqm = s.cqm ∧ (s.setPlc x).dsu = s.dsu ∧
      (s.setPlc x).est = s.est ∧ (s.setPlc x).pbc = s.pbc ∧ (s.setPlc x).htu = s.htu ∧ (s.setPlc x).sps = s.sps ∧
      (s.setPlc x).plc = x ∧ (s.setPlc x).pvt = s.pvt ∧ (s.setPlc x).ofu = s.ofu ∧ (s.setPlc x).mpi = s.mpi ∧
      (s.setPlc x).pending = s.pending :=
  ⟨rfl, rfl, rfl, rfl, rfl, rfl, rfl, rfl, rfl, rfl, rfl, rfl, rfl⟩

@[simp] theorem setPeer_fields (x : Station) (e : PeerEntry) :
    (s.setPeer x e).lsi = s.lsi ∧ (s.setPeer x e).clk = s.clk ∧ (s.setPeer x e).cqm = s.cqm ∧
      (s.setPeer x e).dsu = s.dsu ∧ (s.setPeer x e).est = s.est ∧ (s.setPeer x e).pbc = s.pbc ∧
      (s.setPeer x e).htu = s.htu ∧ (s.setPeer x e).sps = s.sps ∧ (s.setPeer x e).plc = s.plc ∧
      (s.setPeer x e).pvt = { s.pvt with peers := s.pvt.peers.set x e } ∧ (s.setPeer x e).ofu = s.ofu ∧
      (s.setPeer x e).mpi = s.mpi ∧ (s.setPeer x e).pending = s.pending :=
  ⟨rfl, rfl, rfl, rfl, rfl, rfl, rfl, rfl, rfl, rfl, rfl, rfl, rfl⟩

@[simp] theorem setPeriod_fields (x : Option Stamp) :
    (s.setPeriod x).lsi = s.lsi ∧ (s.setPeriod x).clk = s.clk ∧ (s.setPeriod x).cqm = s.cqm ∧
      (s.setPeriod x).dsu = s.dsu ∧ (s.setPeriod x).est = s.est ∧ (s.setPeriod x).pbc = s.pbc ∧
      (s.setPeriod x).htu = s.htu ∧ (s.setPeriod x).sps = s.sps ∧ (s.setPeriod x).plc = s.plc ∧
      (s.setPeriod x).pvt = { s.pvt with periodDeadline := x } ∧ (s.setPeriod x).ofu = s.ofu ∧
      (s.setPeriod x).mpi = s.mpi ∧ (s.setPeriod x).pending = s.pending :=
  ⟨rfl, rfl, rfl, rfl, rfl, rfl, rfl, rfl, rfl, rfl, rfl, rfl, rfl⟩

@[simp] theorem setSlot_fields (o : SlotNo) (x : Option OfferSlot) :
    (s.setSlot o x).lsi = s.lsi ∧ (s.setSlot o x).clk = s.clk ∧ (s.setSlot o x).cqm = s.cqm ∧
      (s.setSlot o x).dsu = s.dsu ∧ (s.setSlot o x).est = s.est ∧ (s.setSlot o x).pbc = s.pbc ∧
      (s.setSlot o x).htu = s.htu ∧ (s.setSlot o x).sps = s.sps ∧ (s.setSlot o x).plc = s.plc ∧
      (s.setSlot o x).pvt = s.pvt ∧ (s.setSlot o x).ofu = { s.ofu with slots := s.ofu.slots.set o x } ∧
      (s.setSlot o x).mpi = s.mpi ∧ (s.setSlot o x).pending = s.pending :=
  ⟨rfl, rfl, rfl, rfl, rfl, rfl, rfl, rfl, rfl, rfl, rfl, rfl, rfl⟩

@[simp] theorem setGuest_fields (g : GuestNo) (x : Option GuestRec) :
    (s.setGuest g x).lsi = s.lsi ∧ (s.setGuest g x).clk = s.clk ∧ (s.setGuest g x).cqm = s.cqm ∧
      (s.setGuest g x).dsu = s.dsu ∧ (s.setGuest g x).est = s.est ∧ (s.setGuest g x).pbc = s.pbc ∧
      (s.setGuest g x).htu = s.htu ∧ (s.setGuest g x).sps = s.sps ∧ (s.setGuest g x).plc = s.plc ∧
      (s.setGuest g x).pvt = s.pvt ∧ (s.setGuest g x).ofu = { s.ofu with guests := s.ofu.guests.set g x } ∧
      (s.setGuest g x).mpi = s.mpi ∧ (s.setGuest g x).pending = s.pending :=
  ⟨rfl, rfl, rfl, rfl, rfl, rfl, rfl, rfl, rfl, rfl, rfl, rfl, rfl⟩

@[simp] theorem setMode_fields (x : Mode) :
    (s.setMode x).lsi = s.lsi ∧ (s.setMode x).clk = s.clk ∧ (s.setMode x).cqm = s.cqm ∧ (s.setMode x).dsu = s.dsu ∧
      (s.setMode x).est = s.est ∧ (s.setMode x).pbc = s.pbc ∧ (s.setMode x).htu = s.htu ∧ (s.setMode x).sps = s.sps ∧
      (s.setMode x).plc = s.plc ∧ (s.setMode x).pvt = s.pvt ∧ (s.setMode x).ofu = s.ofu ∧
      (s.setMode x).mpi = { s.mpi with mode := x } ∧ (s.setMode x).pending = s.pending :=
  ⟨rfl, rfl, rfl, rfl, rfl, rfl, rfl, rfl, rfl, rfl, rfl, rfl, rfl⟩

@[simp] theorem setImage_fields (x : Image) :
    (s.setImage x).lsi = s.lsi ∧ (s.setImage x).clk = s.clk ∧ (s.setImage x).cqm = s.cqm ∧
      (s.setImage x).dsu = s.dsu ∧ (s.setImage x).est = s.est ∧ (s.setImage x).pbc = s.pbc ∧
      (s.setImage x).htu = s.htu ∧ (s.setImage x).sps = s.sps ∧ (s.setImage x).plc = s.plc ∧
      (s.setImage x).pvt = s.pvt ∧ (s.setImage x).ofu = s.ofu ∧ (s.setImage x).mpi = { s.mpi with image := x } ∧
      (s.setImage x).pending = s.pending :=
  ⟨rfl, rfl, rfl, rfl, rfl, rfl, rfl, rfl, rfl, rfl, rfl, rfl, rfl⟩

@[simp] theorem setPointer_fields (x : TablePointer) :
    (s.setPointer x).lsi = s.lsi ∧ (s.setPointer x).clk = s.clk ∧ (s.setPointer x).cqm = s.cqm ∧
      (s.setPointer x).dsu = s.dsu ∧ (s.setPointer x).est = s.est ∧ (s.setPointer x).pbc = s.pbc ∧
      (s.setPointer x).htu = s.htu ∧ (s.setPointer x).sps = s.sps ∧ (s.setPointer x).plc = s.plc ∧
      (s.setPointer x).pvt = s.pvt ∧ (s.setPointer x).ofu = s.ofu ∧
      (s.setPointer x).mpi = { s.mpi with pointer := x } ∧ (s.setPointer x).pending = s.pending :=
  ⟨rfl, rfl, rfl, rfl, rfl, rfl, rfl, rfl, rfl, rfl, rfl, rfl, rfl⟩

@[simp] theorem setFifo_fields (x : List Report) :
    (s.setFifo x).lsi = s.lsi ∧ (s.setFifo x).clk = s.clk ∧ (s.setFifo x).cqm = s.cqm ∧ (s.setFifo x).dsu = s.dsu ∧
      (s.setFifo x).est = s.est ∧ (s.setFifo x).pbc = s.pbc ∧ (s.setFifo x).htu = s.htu ∧ (s.setFifo x).sps = s.sps ∧
      (s.setFifo x).plc = s.plc ∧ (s.setFifo x).pvt = s.pvt ∧ (s.setFifo x).ofu = s.ofu ∧
      (s.setFifo x).mpi = { s.mpi with fifo := x } ∧ (s.setFifo x).pending = s.pending :=
  ⟨rfl, rfl, rfl, rfl, rfl, rfl, rfl, rfl, rfl, rfl, rfl, rfl, rfl⟩

@[simp] theorem setLostReports_fields (x : Nat) :
    (s.setLostReports x).lsi = s.lsi ∧ (s.setLostReports x).clk = s.clk ∧ (s.setLostReports x).cqm = s.cqm ∧
      (s.setLostReports x).dsu = s.dsu ∧ (s.setLostReports x).est = s.est ∧ (s.setLostReports x).pbc = s.pbc ∧
      (s.setLostReports x).htu = s.htu ∧ (s.setLostReports x).sps = s.sps ∧ (s.setLostReports x).plc = s.plc ∧
      (s.setLostReports x).pvt = s.pvt ∧ (s.setLostReports x).ofu = s.ofu ∧
      (s.setLostReports x).mpi = { s.mpi with lostReports := x } ∧ (s.setLostReports x).pending = s.pending :=
  ⟨rfl, rfl, rfl, rfl, rfl, rfl, rfl, rfl, rfl, rfl, rfl, rfl, rfl⟩

@[simp] theorem setAttn_fields (x : Bool) :
    (s.setAttn x).lsi = s.lsi ∧ (s.setAttn x).clk = s.clk ∧ (s.setAttn x).cqm = s.cqm ∧ (s.setAttn x).dsu = s.dsu ∧
      (s.setAttn x).est = s.est ∧ (s.setAttn x).pbc = s.pbc ∧ (s.setAttn x).htu = s.htu ∧ (s.setAttn x).sps = s.sps ∧
      (s.setAttn x).plc = s.plc ∧ (s.setAttn x).pvt = s.pvt ∧ (s.setAttn x).ofu = s.ofu ∧
      (s.setAttn x).mpi = { s.mpi with attn := x } ∧ (s.setAttn x).pending = s.pending :=
  ⟨rfl, rfl, rfl, rfl, rfl, rfl, rfl, rfl, rfl, rfl, rfl, rfl, rfl⟩

@[simp] theorem setResponse_fields (x : Option (List Byte)) :
    (s.setResponse x).lsi = s.lsi ∧ (s.setResponse x).clk = s.clk ∧ (s.setResponse x).cqm = s.cqm ∧
      (s.setResponse x).dsu = s.dsu ∧ (s.setResponse x).est = s.est ∧ (s.setResponse x).pbc = s.pbc ∧
      (s.setResponse x).htu = s.htu ∧ (s.setResponse x).sps = s.sps ∧ (s.setResponse x).plc = s.plc ∧
      (s.setResponse x).pvt = s.pvt ∧ (s.setResponse x).ofu = s.ofu ∧
      (s.setResponse x).mpi = { s.mpi with response := x } ∧ (s.setResponse x).pending = s.pending :=
  ⟨rfl, rfl, rfl, rfl, rfl, rfl, rfl, rfl, rfl, rfl, rfl, rfl, rfl⟩

end Sys2Proof.Machine.State
end

