-- ==== Sys2Proof/Laws/Ops.lean ====
section
/-! SUPPORT. What each shared operation of Ops.lean keeps: every piece of State that it does not write. -/

namespace Sys2Proof.Machine.State

variable (s : State)

@[simp] theorem writeReport_keeps (r : Report) :
    (s.writeReport r).clk = s.clk ∧ (s.writeReport r).pending = s.pending ∧ (s.writeReport r).pbc = s.pbc ∧
      (s.writeReport r).pvt = s.pvt ∧ (s.writeReport r).est = s.est ∧ (s.writeReport r).htu = s.htu ∧
      (s.writeReport r).plc = s.plc ∧ (s.writeReport r).ofu = s.ofu ∧ (s.writeReport r).cqm = s.cqm ∧
      (s.writeReport r).dsu = s.dsu ∧ (s.writeReport r).sps.map = s.sps.map ∧ (s.writeReport r).sps.sending = s.sps.sending ∧
      (s.writeReport r).sps.junctors = s.sps.junctors ∧ (s.writeReport r).sps.freeOrder = s.sps.freeOrder ∧
      (s.writeReport r).sps.holdoffOrder = s.sps.holdoffOrder ∧ (s.writeReport r).lsi.trunks = s.lsi.trunks ∧
      (s.writeReport r).lsi.positions = s.lsi.positions ∧ (s.writeReport r).lsi.orders = s.lsi.orders ∧
      (s.writeReport r).lsi.orderLosses = s.lsi.orderLosses ∧ (s.writeReport r).lsi.scanErrors = s.lsi.scanErrors ∧
      (s.writeReport r).lsi.scanOpen = s.lsi.scanOpen ∧ (s.writeReport r).mpi.mode = s.mpi.mode ∧
      (s.writeReport r).mpi.station = s.mpi.station ∧ (s.writeReport r).mpi.image = s.mpi.image ∧
      (s.writeReport r).mpi.pointer = s.mpi.pointer ∧ (s.writeReport r).mpi.attn = s.mpi.attn ∧
      (s.writeReport r).mpi.response = s.mpi.response := by
  unfold writeReport
  (repeat' split) <;> simp

@[simp] theorem issue_keeps (o : Order) :
    (s.issue o).clk = s.clk ∧ (s.issue o).pending = s.pending ∧ (s.issue o).pbc = s.pbc ∧ (s.issue o).pvt = s.pvt ∧
      (s.issue o).est = s.est ∧ (s.issue o).htu = s.htu ∧ (s.issue o).plc = s.plc ∧ (s.issue o).ofu = s.ofu ∧
      (s.issue o).cqm = s.cqm ∧ (s.issue o).dsu = s.dsu ∧ (s.issue o).sps.map = s.sps.map ∧
      (s.issue o).sps.sending = s.sps.sending ∧ (s.issue o).sps.junctors = s.sps.junctors ∧
      (s.issue o).sps.freeOrder = s.sps.freeOrder ∧ (s.issue o).sps.holdoffOrder = s.sps.holdoffOrder ∧
      (s.issue o).lsi.trunks = s.lsi.trunks ∧ (s.issue o).lsi.positions = s.lsi.positions ∧
      (s.issue o).lsi.scanErrors = s.lsi.scanErrors ∧ (s.issue o).lsi.scanOpen = s.lsi.scanOpen ∧
      (s.issue o).mpi.mode = s.mpi.mode ∧ (s.issue o).mpi.station = s.mpi.station ∧
      (s.issue o).mpi.image = s.mpi.image ∧ (s.issue o).mpi.pointer = s.mpi.pointer ∧
      (s.issue o).mpi.attn = s.mpi.attn ∧ (s.issue o).mpi.response = s.mpi.response ∧
      (s.issue o).mpi.fifo = s.mpi.fifo ∧ (s.issue o).mpi.lostReports = s.mpi.lostReports := by
  unfold issue
  (repeat' split) <;> simp

@[simp] theorem scanError_keeps :
    (s.scanError).clk = s.clk ∧ (s.scanError).pending = s.pending ∧ (s.scanError).pbc = s.pbc ∧
      (s.scanError).pvt = s.pvt ∧ (s.scanError).est = s.est ∧ (s.scanError).htu = s.htu ∧ (s.scanError).plc = s.plc ∧
      (s.scanError).ofu = s.ofu ∧ (s.scanError).cqm = s.cqm ∧ (s.scanError).dsu = s.dsu ∧
      (s.scanError).sps.map = s.sps.map ∧ (s.scanError).sps.sending = s.sps.sending ∧
      (s.scanError).sps.junctors = s.sps.junctors ∧ (s.scanError).sps.freeOrder = s.sps.freeOrder ∧
      (s.scanError).sps.holdoffOrder = s.sps.holdoffOrder ∧ (s.scanError).lsi.trunks = s.lsi.trunks ∧
      (s.scanError).lsi.positions = s.lsi.positions ∧ (s.scanError).lsi.orders = s.lsi.orders ∧
      (s.scanError).lsi.orderLosses = s.lsi.orderLosses ∧ (s.scanError).lsi.scanOpen = s.lsi.scanOpen ∧
      (s.scanError).mpi.mode = s.mpi.mode ∧ (s.scanError).mpi.station = s.mpi.station ∧
      (s.scanError).mpi.image = s.mpi.image ∧ (s.scanError).mpi.pointer = s.mpi.pointer ∧
      (s.scanError).mpi.attn = s.mpi.attn ∧ (s.scanError).mpi.response = s.mpi.response ∧
      (s.scanError).mpi.fifo = s.mpi.fifo ∧ (s.scanError).mpi.lostReports = s.mpi.lostReports := by
  simp [scanError]

@[simp] theorem freeJunctor_keeps (j : Junctor) :
    (s.freeJunctor j).clk = s.clk ∧ (s.freeJunctor j).pending = s.pending ∧ (s.freeJunctor j).pbc = s.pbc ∧
      (s.freeJunctor j).pvt = s.pvt ∧ (s.freeJunctor j).est = s.est ∧ (s.freeJunctor j).htu = s.htu ∧
      (s.freeJunctor j).plc = s.plc ∧ (s.freeJunctor j).ofu = s.ofu ∧ (s.freeJunctor j).cqm = s.cqm ∧
      (s.freeJunctor j).dsu = s.dsu ∧ (s.freeJunctor j).sps.map = s.sps.map ∧ (s.freeJunctor j).sps.sending = s.sps.sending ∧
      (s.freeJunctor j).sps.freeOrder = s.sps.freeOrder ∧ (s.freeJunctor j).lsi.trunks = s.lsi.trunks ∧
      (s.freeJunctor j).lsi.positions = s.lsi.positions ∧ (s.freeJunctor j).lsi.orders = s.lsi.orders ∧
      (s.freeJunctor j).lsi.orderLosses = s.lsi.orderLosses ∧ (s.freeJunctor j).lsi.scanErrors = s.lsi.scanErrors ∧
      (s.freeJunctor j).lsi.scanOpen = s.lsi.scanOpen ∧ (s.freeJunctor j).mpi.mode = s.mpi.mode ∧
      (s.freeJunctor j).mpi.station = s.mpi.station ∧ (s.freeJunctor j).mpi.image = s.mpi.image ∧
      (s.freeJunctor j).mpi.pointer = s.mpi.pointer ∧ (s.freeJunctor j).mpi.attn = s.mpi.attn ∧
      (s.freeJunctor j).mpi.response = s.mpi.response ∧ (s.freeJunctor j).mpi.fifo = s.mpi.fifo ∧
      (s.freeJunctor j).mpi.lostReports = s.mpi.lostReports := by
  unfold freeJunctor
  (repeat' split) <;> simp

@[simp] theorem give_keeps (x : Station) (p : Payload) :
    (s.give x p).clk = s.clk ∧ (s.give x p).pending = s.pending ∧ (s.give x p).pbc = s.pbc ∧ (s.give x p).pvt = s.pvt ∧
      (s.give x p).est = s.est ∧ (s.give x p).htu = s.htu ∧ (s.give x p).ofu = s.ofu ∧ (s.give x p).cqm = s.cqm ∧
      (s.give x p).dsu = s.dsu ∧ (s.give x p).sps.map = s.sps.map ∧ (s.give x p).sps.sending = s.sps.sending ∧
      (s.give x p).sps.junctors = s.sps.junctors ∧ (s.give x p).sps.freeOrder = s.sps.freeOrder ∧
      (s.give x p).sps.holdoffOrder = s.sps.holdoffOrder ∧ (s.give x p).lsi.trunks = s.lsi.trunks ∧
      (s.give x p).lsi.positions = s.lsi.positions ∧ (s.give x p).lsi.orders = s.lsi.orders ∧
      (s.give x p).lsi.orderLosses = s.lsi.orderLosses ∧ (s.give x p).lsi.scanErrors = s.lsi.scanErrors ∧
      (s.give x p).lsi.scanOpen = s.lsi.scanOpen ∧ (s.give x p).mpi.mode = s.mpi.mode ∧
      (s.give x p).mpi.station = s.mpi.station ∧ (s.give x p).mpi.image = s.mpi.image ∧
      (s.give x p).mpi.pointer = s.mpi.pointer ∧ (s.give x p).mpi.attn = s.mpi.attn ∧
      (s.give x p).mpi.response = s.mpi.response ∧ (s.give x p).mpi.fifo = s.mpi.fifo ∧
      (s.give x p).mpi.lostReports = s.mpi.lostReports := by
  unfold give
  (repeat' split) <;> simp

@[simp] theorem requestNotice_keeps :
    (s.requestNotice).clk = s.clk ∧ (s.requestNotice).pending = s.pending ∧ (s.requestNotice).pbc = s.pbc ∧
      (s.requestNotice).pvt = s.pvt ∧ (s.requestNotice).est = s.est ∧ (s.requestNotice).htu = s.htu ∧
      (s.requestNotice).ofu = s.ofu ∧ (s.requestNotice).cqm = s.cqm ∧ (s.requestNotice).dsu = s.dsu ∧
      (s.requestNotice).sps.map = s.sps.map ∧ (s.requestNotice).sps.sending = s.sps.sending ∧
      (s.requestNotice).sps.junctors = s.sps.junctors ∧ (s.requestNotice).sps.freeOrder = s.sps.freeOrder ∧
      (s.requestNotice).sps.holdoffOrder = s.sps.holdoffOrder ∧ (s.requestNotice).lsi.trunks = s.lsi.trunks ∧
      (s.requestNotice).lsi.positions = s.lsi.positions ∧ (s.requestNotice).lsi.orders = s.lsi.orders ∧
      (s.requestNotice).lsi.orderLosses = s.lsi.orderLosses ∧ (s.requestNotice).lsi.scanErrors = s.lsi.scanErrors ∧
      (s.requestNotice).lsi.scanOpen = s.lsi.scanOpen ∧ (s.requestNotice).mpi.mode = s.mpi.mode ∧
      (s.requestNotice).mpi.station = s.mpi.station ∧ (s.requestNotice).mpi.image = s.mpi.image ∧
      (s.requestNotice).mpi.pointer = s.mpi.pointer ∧ (s.requestNotice).mpi.attn = s.mpi.attn ∧
      (s.requestNotice).mpi.response = s.mpi.response ∧ (s.requestNotice).mpi.fifo = s.mpi.fifo ∧
      (s.requestNotice).mpi.lostReports = s.mpi.lostReports := by
  unfold requestNotice
  (repeat' split) <;> simp

@[simp] theorem modifyCall_keeps (t : Trunk) (f : CallBody → CallBody) :
    (s.modifyCall t f).clk = s.clk ∧ (s.modifyCall t f).pending = s.pending ∧ (s.modifyCall t f).pbc = s.pbc ∧
      (s.modifyCall t f).pvt = s.pvt ∧ (s.modifyCall t f).est = s.est ∧ (s.modifyCall t f).htu = s.htu ∧
      (s.modifyCall t f).plc = s.plc ∧ (s.modifyCall t f).ofu = s.ofu ∧ (s.modifyCall t f).dsu = s.dsu ∧
      (s.modifyCall t f).sps.map = s.sps.map ∧ (s.modifyCall t f).sps.sending = s.sps.sending ∧
      (s.modifyCall t f).sps.junctors = s.sps.junctors ∧ (s.modifyCall t f).sps.freeOrder = s.sps.freeOrder ∧
      (s.modifyCall t f).sps.holdoffOrder = s.sps.holdoffOrder ∧ (s.modifyCall t f).lsi.trunks = s.lsi.trunks ∧
      (s.modifyCall t f).lsi.positions = s.lsi.positions ∧ (s.modifyCall t f).lsi.orders = s.lsi.orders ∧
      (s.modifyCall t f).lsi.orderLosses = s.lsi.orderLosses ∧ (s.modifyCall t f).lsi.scanErrors = s.lsi.scanErrors ∧
      (s.modifyCall t f).lsi.scanOpen = s.lsi.scanOpen ∧ (s.modifyCall t f).mpi.mode = s.mpi.mode ∧
      (s.modifyCall t f).mpi.station = s.mpi.station ∧ (s.modifyCall t f).mpi.image = s.mpi.image ∧
      (s.modifyCall t f).mpi.pointer = s.mpi.pointer ∧ (s.modifyCall t f).mpi.attn = s.mpi.attn ∧
      (s.modifyCall t f).mpi.response = s.mpi.response ∧ (s.modifyCall t f).mpi.fifo = s.mpi.fifo ∧
      (s.modifyCall t f).mpi.lostReports = s.mpi.lostReports := by
  simp [modifyCall]

@[simp] theorem setPhase_keeps (t : Trunk) (p : CallPhase) :
    (s.setPhase t p).clk = s.clk ∧ (s.setPhase t p).pending = s.pending ∧ (s.setPhase t p).pbc = s.pbc ∧
      (s.setPhase t p).pvt = s.pvt ∧ (s.setPhase t p).est = s.est ∧ (s.setPhase t p).htu = s.htu ∧
      (s.setPhase t p).plc = s.plc ∧ (s.setPhase t p).ofu = s.ofu ∧ (s.setPhase t p).dsu = s.dsu ∧
      (s.setPhase t p).sps.map = s.sps.map ∧ (s.setPhase t p).sps.sending = s.sps.sending ∧
      (s.setPhase t p).sps.junctors = s.sps.junctors ∧ (s.setPhase t p).sps.freeOrder = s.sps.freeOrder ∧
      (s.setPhase t p).sps.holdoffOrder = s.sps.holdoffOrder ∧ (s.setPhase t p).lsi.trunks = s.lsi.trunks ∧
      (s.setPhase t p).lsi.positions = s.lsi.positions ∧ (s.setPhase t p).lsi.orders = s.lsi.orders ∧
      (s.setPhase t p).lsi.orderLosses = s.lsi.orderLosses ∧ (s.setPhase t p).lsi.scanErrors = s.lsi.scanErrors ∧
      (s.setPhase t p).lsi.scanOpen = s.lsi.scanOpen ∧ (s.setPhase t p).mpi.mode = s.mpi.mode ∧
      (s.setPhase t p).mpi.station = s.mpi.station ∧ (s.setPhase t p).mpi.image = s.mpi.image ∧
      (s.setPhase t p).mpi.pointer = s.mpi.pointer ∧ (s.setPhase t p).mpi.attn = s.mpi.attn ∧
      (s.setPhase t p).mpi.response = s.mpi.response ∧ (s.setPhase t p).mpi.fifo = s.mpi.fifo ∧
      (s.setPhase t p).mpi.lostReports = s.mpi.lostReports := by
  simp [setPhase]

@[simp] theorem insertCall_keeps (q : QueueNo) (t : Trunk) :
    (s.insertCall q t).clk = s.clk ∧ (s.insertCall q t).pending = s.pending ∧ (s.insertCall q t).pbc = s.pbc ∧
      (s.insertCall q t).pvt = s.pvt ∧ (s.insertCall q t).est = s.est ∧ (s.insertCall q t).htu = s.htu ∧
      (s.insertCall q t).plc = s.plc ∧ (s.insertCall q t).ofu = s.ofu ∧ (s.insertCall q t).dsu = s.dsu ∧
      (s.insertCall q t).sps.map = s.sps.map ∧ (s.insertCall q t).sps.sending = s.sps.sending ∧
      (s.insertCall q t).sps.junctors = s.sps.junctors ∧ (s.insertCall q t).sps.freeOrder = s.sps.freeOrder ∧
      (s.insertCall q t).sps.holdoffOrder = s.sps.holdoffOrder ∧ (s.insertCall q t).lsi.trunks = s.lsi.trunks ∧
      (s.insertCall q t).lsi.positions = s.lsi.positions ∧ (s.insertCall q t).lsi.orders = s.lsi.orders ∧
      (s.insertCall q t).lsi.orderLosses = s.lsi.orderLosses ∧ (s.insertCall q t).lsi.scanErrors = s.lsi.scanErrors ∧
      (s.insertCall q t).lsi.scanOpen = s.lsi.scanOpen ∧ (s.insertCall q t).mpi.mode = s.mpi.mode ∧
      (s.insertCall q t).mpi.station = s.mpi.station ∧ (s.insertCall q t).mpi.image = s.mpi.image ∧
      (s.insertCall q t).mpi.pointer = s.mpi.pointer ∧ (s.insertCall q t).mpi.attn = s.mpi.attn ∧
      (s.insertCall q t).mpi.response = s.mpi.response ∧ (s.insertCall q t).mpi.fifo = s.mpi.fifo ∧
      (s.insertCall q t).mpi.lostReports = s.mpi.lostReports := by
  simp [insertCall]

@[simp] theorem removeCall_keeps (q : QueueNo) (t : Trunk) :
    (s.removeCall q t).clk = s.clk ∧ (s.removeCall q t).pending = s.pending ∧ (s.removeCall q t).pbc = s.pbc ∧
      (s.removeCall q t).pvt = s.pvt ∧ (s.removeCall q t).est = s.est ∧ (s.removeCall q t).htu = s.htu ∧
      (s.removeCall q t).plc = s.plc ∧ (s.removeCall q t).ofu = s.ofu ∧ (s.removeCall q t).dsu = s.dsu ∧
      (s.removeCall q t).sps.map = s.sps.map ∧ (s.removeCall q t).sps.sending = s.sps.sending ∧
      (s.removeCall q t).sps.junctors = s.sps.junctors ∧ (s.removeCall q t).sps.freeOrder = s.sps.freeOrder ∧
      (s.removeCall q t).sps.holdoffOrder = s.sps.holdoffOrder ∧ (s.removeCall q t).lsi.trunks = s.lsi.trunks ∧
      (s.removeCall q t).lsi.positions = s.lsi.positions ∧ (s.removeCall q t).lsi.orders = s.lsi.orders ∧
      (s.removeCall q t).lsi.orderLosses = s.lsi.orderLosses ∧ (s.removeCall q t).lsi.scanErrors = s.lsi.scanErrors ∧
      (s.removeCall q t).lsi.scanOpen = s.lsi.scanOpen ∧ (s.removeCall q t).mpi.mode = s.mpi.mode ∧
      (s.removeCall q t).mpi.station = s.mpi.station ∧ (s.removeCall q t).mpi.image = s.mpi.image ∧
      (s.removeCall q t).mpi.pointer = s.mpi.pointer ∧ (s.removeCall q t).mpi.attn = s.mpi.attn ∧
      (s.removeCall q t).mpi.response = s.mpi.response ∧ (s.removeCall q t).mpi.fifo = s.mpi.fifo ∧
      (s.removeCall q t).mpi.lostReports = s.mpi.lostReports := by
  simp [removeCall]

@[simp] theorem removeEntry_keeps (t : Trunk) :
    (s.removeEntry t).clk = s.clk ∧ (s.removeEntry t).pending = s.pending ∧ (s.removeEntry t).pbc = s.pbc ∧
      (s.removeEntry t).pvt = s.pvt ∧ (s.removeEntry t).est = s.est ∧ (s.removeEntry t).plc = s.plc ∧
      (s.removeEntry t).ofu = s.ofu ∧ (s.removeEntry t).dsu = s.dsu ∧ (s.removeEntry t).sps.map = s.sps.map ∧
      (s.removeEntry t).sps.sending = s.sps.sending ∧ (s.removeEntry t).sps.junctors = s.sps.junctors ∧
      (s.removeEntry t).sps.freeOrder = s.sps.freeOrder ∧ (s.removeEntry t).sps.holdoffOrder = s.sps.holdoffOrder ∧
      (s.removeEntry t).lsi.trunks = s.lsi.trunks ∧ (s.removeEntry t).lsi.positions = s.lsi.positions ∧
      (s.removeEntry t).lsi.orders = s.lsi.orders ∧ (s.removeEntry t).lsi.orderLosses = s.lsi.orderLosses ∧
      (s.removeEntry t).lsi.scanErrors = s.lsi.scanErrors ∧ (s.removeEntry t).lsi.scanOpen = s.lsi.scanOpen ∧
      (s.removeEntry t).mpi.mode = s.mpi.mode ∧ (s.removeEntry t).mpi.station = s.mpi.station ∧
      (s.removeEntry t).mpi.image = s.mpi.image ∧ (s.removeEntry t).mpi.pointer = s.mpi.pointer ∧
      (s.removeEntry t).mpi.attn = s.mpi.attn ∧ (s.removeEntry t).mpi.response = s.mpi.response ∧
      (s.removeEntry t).mpi.fifo = s.mpi.fifo ∧ (s.removeEntry t).mpi.lostReports = s.mpi.lostReports := by
  simp [removeEntry]

@[simp] theorem joinWaiting_keeps (t : Trunk) (k : Clip) :
    (s.joinWaiting t k).clk = s.clk ∧ (s.joinWaiting t k).pending = s.pending ∧ (s.joinWaiting t k).pbc = s.pbc ∧
      (s.joinWaiting t k).pvt = s.pvt ∧ (s.joinWaiting t k).est = s.est ∧ (s.joinWaiting t k).plc = s.plc ∧
      (s.joinWaiting t k).ofu = s.ofu ∧ (s.joinWaiting t k).dsu = s.dsu ∧ (s.joinWaiting t k).sps.map = s.sps.map ∧
      (s.joinWaiting t k).sps.sending = s.sps.sending ∧ (s.joinWaiting t k).sps.junctors = s.sps.junctors ∧
      (s.joinWaiting t k).sps.freeOrder = s.sps.freeOrder ∧ (s.joinWaiting t k).sps.holdoffOrder = s.sps.holdoffOrder ∧
      (s.joinWaiting t k).lsi.trunks = s.lsi.trunks ∧ (s.joinWaiting t k).lsi.positions = s.lsi.positions ∧
      (s.joinWaiting t k).lsi.orders = s.lsi.orders ∧ (s.joinWaiting t k).lsi.orderLosses = s.lsi.orderLosses ∧
      (s.joinWaiting t k).lsi.scanErrors = s.lsi.scanErrors ∧ (s.joinWaiting t k).lsi.scanOpen = s.lsi.scanOpen ∧
      (s.joinWaiting t k).mpi.mode = s.mpi.mode ∧ (s.joinWaiting t k).mpi.station = s.mpi.station ∧
      (s.joinWaiting t k).mpi.image = s.mpi.image ∧ (s.joinWaiting t k).mpi.pointer = s.mpi.pointer ∧
      (s.joinWaiting t k).mpi.attn = s.mpi.attn ∧ (s.joinWaiting t k).mpi.response = s.mpi.response ∧
      (s.joinWaiting t k).mpi.fifo = s.mpi.fifo ∧ (s.joinWaiting t k).mpi.lostReports = s.mpi.lostReports := by
  simp [joinWaiting]

@[simp] theorem sourceToMusic_keeps (t : Trunk) :
    (s.sourceToMusic t).clk = s.clk ∧ (s.sourceToMusic t).pending = s.pending ∧ (s.sourceToMusic t).pbc = s.pbc ∧
      (s.sourceToMusic t).pvt = s.pvt ∧ (s.sourceToMusic t).est = s.est ∧ (s.sourceToMusic t).htu = s.htu ∧
      (s.sourceToMusic t).plc = s.plc ∧ (s.sourceToMusic t).ofu = s.ofu ∧ (s.sourceToMusic t).dsu = s.dsu ∧
      (s.sourceToMusic t).sps.map = s.sps.map ∧ (s.sourceToMusic t).sps.sending = s.sps.sending ∧
      (s.sourceToMusic t).sps.junctors = s.sps.junctors ∧ (s.sourceToMusic t).sps.freeOrder = s.sps.freeOrder ∧
      (s.sourceToMusic t).sps.holdoffOrder = s.sps.holdoffOrder ∧ (s.sourceToMusic t).lsi.trunks = s.lsi.trunks ∧
      (s.sourceToMusic t).lsi.positions = s.lsi.positions ∧ (s.sourceToMusic t).lsi.orders = s.lsi.orders ∧
      (s.sourceToMusic t).lsi.orderLosses = s.lsi.orderLosses ∧ (s.sourceToMusic t).lsi.scanErrors = s.lsi.scanErrors ∧
      (s.sourceToMusic t).lsi.scanOpen = s.lsi.scanOpen ∧ (s.sourceToMusic t).mpi.mode = s.mpi.mode ∧
      (s.sourceToMusic t).mpi.station = s.mpi.station ∧ (s.sourceToMusic t).mpi.image = s.mpi.image ∧
      (s.sourceToMusic t).mpi.pointer = s.mpi.pointer ∧ (s.sourceToMusic t).mpi.attn = s.mpi.attn ∧
      (s.sourceToMusic t).mpi.response = s.mpi.response ∧ (s.sourceToMusic t).mpi.fifo = s.mpi.fifo ∧
      (s.sourceToMusic t).mpi.lostReports = s.mpi.lostReports := by
  simp [sourceToMusic]

@[simp] theorem sourceToNone_keeps (t : Trunk) :
    (s.sourceToNone t).clk = s.clk ∧ (s.sourceToNone t).pending = s.pending ∧ (s.sourceToNone t).pbc = s.pbc ∧
      (s.sourceToNone t).pvt = s.pvt ∧ (s.sourceToNone t).est = s.est ∧ (s.sourceToNone t).htu = s.htu ∧
      (s.sourceToNone t).plc = s.plc ∧ (s.sourceToNone t).ofu = s.ofu ∧ (s.sourceToNone t).dsu = s.dsu ∧
      (s.sourceToNone t).sps.map = s.sps.map ∧ (s.sourceToNone t).sps.sending = s.sps.sending ∧
      (s.sourceToNone t).sps.junctors = s.sps.junctors ∧ (s.sourceToNone t).sps.freeOrder = s.sps.freeOrder ∧
      (s.sourceToNone t).sps.holdoffOrder = s.sps.holdoffOrder ∧ (s.sourceToNone t).lsi.trunks = s.lsi.trunks ∧
      (s.sourceToNone t).lsi.positions = s.lsi.positions ∧ (s.sourceToNone t).lsi.orders = s.lsi.orders ∧
      (s.sourceToNone t).lsi.orderLosses = s.lsi.orderLosses ∧ (s.sourceToNone t).lsi.scanErrors = s.lsi.scanErrors ∧
      (s.sourceToNone t).lsi.scanOpen = s.lsi.scanOpen ∧ (s.sourceToNone t).mpi.mode = s.mpi.mode ∧
      (s.sourceToNone t).mpi.station = s.mpi.station ∧ (s.sourceToNone t).mpi.image = s.mpi.image ∧
      (s.sourceToNone t).mpi.pointer = s.mpi.pointer ∧ (s.sourceToNone t).mpi.attn = s.mpi.attn ∧
      (s.sourceToNone t).mpi.response = s.mpi.response ∧ (s.sourceToNone t).mpi.fifo = s.mpi.fifo ∧
      (s.sourceToNone t).mpi.lostReports = s.mpi.lostReports := by
  simp [sourceToNone]

@[simp] theorem setDuty_keeps (p : Position) (d : Duty) :
    (s.setDuty p d).clk = s.clk ∧ (s.setDuty p d).pending = s.pending ∧ (s.setDuty p d).pbc = s.pbc ∧
      (s.setDuty p d).pvt = s.pvt ∧ (s.setDuty p d).est = s.est ∧ (s.setDuty p d).htu = s.htu ∧
      (s.setDuty p d).plc = s.plc ∧ (s.setDuty p d).ofu = s.ofu ∧ (s.setDuty p d).cqm = s.cqm ∧
      (s.setDuty p d).sps.map = s.sps.map ∧ (s.setDuty p d).sps.sending = s.sps.sending ∧
      (s.setDuty p d).sps.junctors = s.sps.junctors ∧ (s.setDuty p d).sps.freeOrder = s.sps.freeOrder ∧
      (s.setDuty p d).sps.holdoffOrder = s.sps.holdoffOrder ∧ (s.setDuty p d).lsi.trunks = s.lsi.trunks ∧
      (s.setDuty p d).lsi.positions = s.lsi.positions ∧ (s.setDuty p d).lsi.orders = s.lsi.orders ∧
      (s.setDuty p d).lsi.orderLosses = s.lsi.orderLosses ∧ (s.setDuty p d).lsi.scanErrors = s.lsi.scanErrors ∧
      (s.setDuty p d).lsi.scanOpen = s.lsi.scanOpen ∧ (s.setDuty p d).mpi.mode = s.mpi.mode ∧
      (s.setDuty p d).mpi.station = s.mpi.station ∧ (s.setDuty p d).mpi.image = s.mpi.image ∧
      (s.setDuty p d).mpi.pointer = s.mpi.pointer ∧ (s.setDuty p d).mpi.attn = s.mpi.attn ∧
      (s.setDuty p d).mpi.response = s.mpi.response ∧ (s.setDuty p d).mpi.fifo = s.mpi.fifo ∧
      (s.setDuty p d).mpi.lostReports = s.mpi.lostReports := by
  simp [setDuty]

@[simp] theorem setPendingAction_keeps (p : Position) (a : PendingAction) :
    (s.setPendingAction p a).clk = s.clk ∧ (s.setPendingAction p a).pending = s.pending ∧
      (s.setPendingAction p a).pbc = s.pbc ∧ (s.setPendingAction p a).pvt = s.pvt ∧
      (s.setPendingAction p a).est = s.est ∧ (s.setPendingAction p a).htu = s.htu ∧
      (s.setPendingAction p a).plc = s.plc ∧ (s.setPendingAction p a).ofu = s.ofu ∧
      (s.setPendingAction p a).cqm = s.cqm ∧ (s.setPendingAction p a).sps.map = s.sps.map ∧
      (s.setPendingAction p a).sps.sending = s.sps.sending ∧ (s.setPendingAction p a).sps.junctors = s.sps.junctors ∧
      (s.setPendingAction p a).sps.freeOrder = s.sps.freeOrder ∧
      (s.setPendingAction p a).sps.holdoffOrder = s.sps.holdoffOrder ∧
      (s.setPendingAction p a).lsi.trunks = s.lsi.trunks ∧ (s.setPendingAction p a).lsi.positions = s.lsi.positions ∧
      (s.setPendingAction p a).lsi.orders = s.lsi.orders ∧
      (s.setPendingAction p a).lsi.orderLosses = s.lsi.orderLosses ∧
      (s.setPendingAction p a).lsi.scanErrors = s.lsi.scanErrors ∧
      (s.setPendingAction p a).lsi.scanOpen = s.lsi.scanOpen ∧ (s.setPendingAction p a).mpi.mode = s.mpi.mode ∧
      (s.setPendingAction p a).mpi.station = s.mpi.station ∧ (s.setPendingAction p a).mpi.image = s.mpi.image ∧
      (s.setPendingAction p a).mpi.pointer = s.mpi.pointer ∧ (s.setPendingAction p a).mpi.attn = s.mpi.attn ∧
      (s.setPendingAction p a).mpi.response = s.mpi.response ∧ (s.setPendingAction p a).mpi.fifo = s.mpi.fifo ∧
      (s.setPendingAction p a).mpi.lostReports = s.mpi.lostReports := by
  simp [setPendingAction]

@[simp] theorem leaveIdle_keeps (p : Position) :
    (s.leaveIdle p).clk = s.clk ∧ (s.leaveIdle p).pending = s.pending ∧ (s.leaveIdle p).pbc = s.pbc ∧
      (s.leaveIdle p).pvt = s.pvt ∧ (s.leaveIdle p).est = s.est ∧ (s.leaveIdle p).htu = s.htu ∧
      (s.leaveIdle p).plc = s.plc ∧ (s.leaveIdle p).ofu = s.ofu ∧ (s.leaveIdle p).cqm = s.cqm ∧
      (s.leaveIdle p).sps.map = s.sps.map ∧ (s.leaveIdle p).sps.sending = s.sps.sending ∧
      (s.leaveIdle p).sps.junctors = s.sps.junctors ∧ (s.leaveIdle p).sps.freeOrder = s.sps.freeOrder ∧
      (s.leaveIdle p).sps.holdoffOrder = s.sps.holdoffOrder ∧ (s.leaveIdle p).lsi.trunks = s.lsi.trunks ∧
      (s.leaveIdle p).lsi.positions = s.lsi.positions ∧ (s.leaveIdle p).lsi.orders = s.lsi.orders ∧
      (s.leaveIdle p).lsi.orderLosses = s.lsi.orderLosses ∧ (s.leaveIdle p).lsi.scanErrors = s.lsi.scanErrors ∧
      (s.leaveIdle p).lsi.scanOpen = s.lsi.scanOpen ∧ (s.leaveIdle p).mpi.mode = s.mpi.mode ∧
      (s.leaveIdle p).mpi.station = s.mpi.station ∧ (s.leaveIdle p).mpi.image = s.mpi.image ∧
      (s.leaveIdle p).mpi.pointer = s.mpi.pointer ∧ (s.leaveIdle p).mpi.attn = s.mpi.attn ∧
      (s.leaveIdle p).mpi.response = s.mpi.response ∧ (s.leaveIdle p).mpi.fifo = s.mpi.fifo ∧
      (s.leaveIdle p).mpi.lostReports = s.mpi.lostReports := by
  simp [leaveIdle]

@[simp] theorem toNotReady_keeps (p : Position) :
    (s.toNotReady p).clk = s.clk ∧ (s.toNotReady p).pending = s.pending ∧ (s.toNotReady p).pbc = s.pbc ∧
      (s.toNotReady p).pvt = s.pvt ∧ (s.toNotReady p).est = s.est ∧ (s.toNotReady p).htu = s.htu ∧
      (s.toNotReady p).plc = s.plc ∧ (s.toNotReady p).ofu = s.ofu ∧ (s.toNotReady p).cqm = s.cqm ∧
      (s.toNotReady p).sps.map = s.sps.map ∧ (s.toNotReady p).sps.sending = s.sps.sending ∧
      (s.toNotReady p).sps.junctors = s.sps.junctors ∧ (s.toNotReady p).sps.freeOrder = s.sps.freeOrder ∧
      (s.toNotReady p).sps.holdoffOrder = s.sps.holdoffOrder ∧ (s.toNotReady p).lsi.trunks = s.lsi.trunks ∧
      (s.toNotReady p).lsi.positions = s.lsi.positions ∧ (s.toNotReady p).lsi.orders = s.lsi.orders ∧
      (s.toNotReady p).lsi.orderLosses = s.lsi.orderLosses ∧ (s.toNotReady p).lsi.scanErrors = s.lsi.scanErrors ∧
      (s.toNotReady p).lsi.scanOpen = s.lsi.scanOpen ∧ (s.toNotReady p).mpi.mode = s.mpi.mode ∧
      (s.toNotReady p).mpi.station = s.mpi.station ∧ (s.toNotReady p).mpi.image = s.mpi.image ∧
      (s.toNotReady p).mpi.pointer = s.mpi.pointer ∧ (s.toNotReady p).mpi.attn = s.mpi.attn ∧
      (s.toNotReady p).mpi.response = s.mpi.response ∧ (s.toNotReady p).mpi.fifo = s.mpi.fifo ∧
      (s.toNotReady p).mpi.lostReports = s.mpi.lostReports := by
  simp [toNotReady]

@[simp] theorem toSignedOff_keeps (p : Position) :
    (s.toSignedOff p).clk = s.clk ∧ (s.toSignedOff p).pending = s.pending ∧ (s.toSignedOff p).pbc = s.pbc ∧
      (s.toSignedOff p).pvt = s.pvt ∧ (s.toSignedOff p).est = s.est ∧ (s.toSignedOff p).htu = s.htu ∧
      (s.toSignedOff p).plc = s.plc ∧ (s.toSignedOff p).ofu = s.ofu ∧ (s.toSignedOff p).cqm = s.cqm ∧
      (s.toSignedOff p).sps.map = s.sps.map ∧ (s.toSignedOff p).sps.sending = s.sps.sending ∧
      (s.toSignedOff p).sps.junctors = s.sps.junctors ∧ (s.toSignedOff p).sps.freeOrder = s.sps.freeOrder ∧
      (s.toSignedOff p).sps.holdoffOrder = s.sps.holdoffOrder ∧ (s.toSignedOff p).lsi.trunks = s.lsi.trunks ∧
      (s.toSignedOff p).lsi.positions = s.lsi.positions ∧ (s.toSignedOff p).lsi.orders = s.lsi.orders ∧
      (s.toSignedOff p).lsi.orderLosses = s.lsi.orderLosses ∧ (s.toSignedOff p).lsi.scanErrors = s.lsi.scanErrors ∧
      (s.toSignedOff p).lsi.scanOpen = s.lsi.scanOpen ∧ (s.toSignedOff p).mpi.mode = s.mpi.mode ∧
      (s.toSignedOff p).mpi.station = s.mpi.station ∧ (s.toSignedOff p).mpi.image = s.mpi.image ∧
      (s.toSignedOff p).mpi.pointer = s.mpi.pointer ∧ (s.toSignedOff p).mpi.attn = s.mpi.attn ∧
      (s.toSignedOff p).mpi.response = s.mpi.response ∧ (s.toSignedOff p).mpi.fifo = s.mpi.fifo ∧
      (s.toSignedOff p).mpi.lostReports = s.mpi.lostReports := by
  simp [toSignedOff]

@[simp] theorem outOfService_keeps (p : Position) :
    (s.outOfService p).clk = s.clk ∧ (s.outOfService p).pending = s.pending ∧ (s.outOfService p).pbc = s.pbc ∧
      (s.outOfService p).pvt = s.pvt ∧ (s.outOfService p).est = s.est ∧ (s.outOfService p).htu = s.htu ∧
      (s.outOfService p).plc = s.plc ∧ (s.outOfService p).ofu = s.ofu ∧ (s.outOfService p).cqm = s.cqm ∧
      (s.outOfService p).sps.map = s.sps.map ∧ (s.outOfService p).sps.sending = s.sps.sending ∧
      (s.outOfService p).sps.junctors = s.sps.junctors ∧ (s.outOfService p).sps.freeOrder = s.sps.freeOrder ∧
      (s.outOfService p).sps.holdoffOrder = s.sps.holdoffOrder ∧ (s.outOfService p).lsi.trunks = s.lsi.trunks ∧
      (s.outOfService p).lsi.positions = s.lsi.positions ∧ (s.outOfService p).lsi.orders = s.lsi.orders ∧
      (s.outOfService p).lsi.orderLosses = s.lsi.orderLosses ∧ (s.outOfService p).lsi.scanErrors = s.lsi.scanErrors ∧
      (s.outOfService p).lsi.scanOpen = s.lsi.scanOpen ∧ (s.outOfService p).mpi.mode = s.mpi.mode ∧
      (s.outOfService p).mpi.station = s.mpi.station ∧ (s.outOfService p).mpi.image = s.mpi.image ∧
      (s.outOfService p).mpi.pointer = s.mpi.pointer ∧ (s.outOfService p).mpi.attn = s.mpi.attn ∧
      (s.outOfService p).mpi.response = s.mpi.response ∧ (s.outOfService p).mpi.fifo = s.mpi.fifo ∧
      (s.outOfService p).mpi.lostReports = s.mpi.lostReports := by
  unfold outOfService
  (repeat' split) <;> simp

@[simp] theorem ringAgent_keeps (p : Position) (b : Bound) :
    (s.ringAgent p b).clk = s.clk ∧ (s.ringAgent p b).pending = s.pending ∧ (s.ringAgent p b).pbc = s.pbc ∧
      (s.ringAgent p b).pvt = s.pvt ∧ (s.ringAgent p b).est = s.est ∧ (s.ringAgent p b).htu = s.htu ∧
      (s.ringAgent p b).plc = s.plc ∧ (s.ringAgent p b).ofu = s.ofu ∧ (s.ringAgent p b).cqm = s.cqm ∧
      (s.ringAgent p b).sps.map = s.sps.map ∧ (s.ringAgent p b).sps.sending = s.sps.sending ∧
      (s.ringAgent p b).sps.junctors = s.sps.junctors ∧ (s.ringAgent p b).sps.freeOrder = s.sps.freeOrder ∧
      (s.ringAgent p b).sps.holdoffOrder = s.sps.holdoffOrder ∧ (s.ringAgent p b).lsi.trunks = s.lsi.trunks ∧
      (s.ringAgent p b).lsi.positions = s.lsi.positions ∧ (s.ringAgent p b).lsi.scanErrors = s.lsi.scanErrors ∧
      (s.ringAgent p b).lsi.scanOpen = s.lsi.scanOpen ∧ (s.ringAgent p b).mpi.mode = s.mpi.mode ∧
      (s.ringAgent p b).mpi.station = s.mpi.station ∧ (s.ringAgent p b).mpi.image = s.mpi.image ∧
      (s.ringAgent p b).mpi.pointer = s.mpi.pointer ∧ (s.ringAgent p b).mpi.attn = s.mpi.attn ∧
      (s.ringAgent p b).mpi.response = s.mpi.response ∧ (s.ringAgent p b).mpi.fifo = s.mpi.fifo ∧
      (s.ringAgent p b).mpi.lostReports = s.mpi.lostReports := by
  simp [ringAgent]

@[simp] theorem ringForCall_keeps (p : Position) (t : Trunk) :
    (s.ringForCall p t).clk = s.clk ∧ (s.ringForCall p t).pending = s.pending ∧ (s.ringForCall p t).pbc = s.pbc ∧
      (s.ringForCall p t).pvt = s.pvt ∧ (s.ringForCall p t).est = s.est ∧ (s.ringForCall p t).plc = s.plc ∧
      (s.ringForCall p t).ofu = s.ofu ∧ (s.ringForCall p t).sps.map = s.sps.map ∧
      (s.ringForCall p t).sps.sending = s.sps.sending ∧ (s.ringForCall p t).sps.junctors = s.sps.junctors ∧
      (s.ringForCall p t).sps.freeOrder = s.sps.freeOrder ∧ (s.ringForCall p t).sps.holdoffOrder = s.sps.holdoffOrder ∧
      (s.ringForCall p t).lsi.trunks = s.lsi.trunks ∧ (s.ringForCall p t).lsi.positions = s.lsi.positions ∧
      (s.ringForCall p t).lsi.scanErrors = s.lsi.scanErrors ∧ (s.ringForCall p t).lsi.scanOpen = s.lsi.scanOpen ∧
      (s.ringForCall p t).mpi.mode = s.mpi.mode ∧ (s.ringForCall p t).mpi.station = s.mpi.station ∧
      (s.ringForCall p t).mpi.image = s.mpi.image ∧ (s.ringForCall p t).mpi.pointer = s.mpi.pointer ∧
      (s.ringForCall p t).mpi.attn = s.mpi.attn ∧ (s.ringForCall p t).mpi.response = s.mpi.response ∧
      (s.ringForCall p t).mpi.fifo = s.mpi.fifo ∧ (s.ringForCall p t).mpi.lostReports = s.mpi.lostReports := by
  unfold ringForCall
  (repeat' split) <;> simp

/-- The choice of an agent moves a hunt pointer at most (R57, R58). -/
theorem chooseAgent_cases {q : QueueNo} {p : Position} {u : State} (h : s.chooseAgent q = some (p, u)) :
    s.idle q p = true ∧ (u = s ∨ u = s.setHunt q (p + 1)) := by
  unfold chooseAgent at h
  split at h
  · obtain ⟨x, hx, e⟩ := Option.map_eq_some_iff.1 h
    cases e
    exact ⟨List.find?_some hx, .inl rfl⟩
  · obtain ⟨x, hx, e⟩ := Option.map_eq_some_iff.1 h
    cases e
    exact ⟨List.find?_some hx, .inr rfl⟩

@[simp] theorem matchCall_keeps (t : Trunk) :
    (s.matchCall t).clk = s.clk ∧ (s.matchCall t).pending = s.pending ∧ (s.matchCall t).pbc = s.pbc ∧
      (s.matchCall t).pvt = s.pvt ∧ (s.matchCall t).est = s.est ∧ (s.matchCall t).plc = s.plc ∧
      (s.matchCall t).ofu = s.ofu ∧ (s.matchCall t).sps.map = s.sps.map ∧ (s.matchCall t).sps.sending = s.sps.sending ∧
      (s.matchCall t).sps.junctors = s.sps.junctors ∧ (s.matchCall t).sps.freeOrder = s.sps.freeOrder ∧
      (s.matchCall t).sps.holdoffOrder = s.sps.holdoffOrder ∧ (s.matchCall t).lsi.trunks = s.lsi.trunks ∧
      (s.matchCall t).lsi.positions = s.lsi.positions ∧ (s.matchCall t).lsi.scanErrors = s.lsi.scanErrors ∧
      (s.matchCall t).lsi.scanOpen = s.lsi.scanOpen ∧ (s.matchCall t).mpi.mode = s.mpi.mode ∧
      (s.matchCall t).mpi.station = s.mpi.station ∧ (s.matchCall t).mpi.image = s.mpi.image ∧
      (s.matchCall t).mpi.pointer = s.mpi.pointer ∧ (s.matchCall t).mpi.attn = s.mpi.attn ∧
      (s.matchCall t).mpi.response = s.mpi.response ∧ (s.matchCall t).mpi.fifo = s.mpi.fifo ∧
      (s.matchCall t).mpi.lostReports = s.mpi.lostReports := by
  unfold matchCall
  split
  · simp
  · split
    · simp
    · rename_i h
      obtain ⟨-, rfl | rfl⟩ := chooseAgent_cases s h <;> simp

@[simp] theorem becomeReady_keeps (p : Position) :
    (s.becomeReady p).clk = s.clk ∧ (s.becomeReady p).pending = s.pending ∧ (s.becomeReady p).pbc = s.pbc ∧
      (s.becomeReady p).pvt = s.pvt ∧ (s.becomeReady p).est = s.est ∧ (s.becomeReady p).plc = s.plc ∧
      (s.becomeReady p).ofu = s.ofu ∧ (s.becomeReady p).sps.map = s.sps.map ∧ (s.becomeReady p).sps.sending = s.sps.sending ∧
      (s.becomeReady p).sps.junctors = s.sps.junctors ∧ (s.becomeReady p).sps.freeOrder = s.sps.freeOrder ∧
      (s.becomeReady p).sps.holdoffOrder = s.sps.holdoffOrder ∧ (s.becomeReady p).lsi.trunks = s.lsi.trunks ∧
      (s.becomeReady p).lsi.positions = s.lsi.positions ∧ (s.becomeReady p).lsi.scanErrors = s.lsi.scanErrors ∧
      (s.becomeReady p).lsi.scanOpen = s.lsi.scanOpen ∧ (s.becomeReady p).mpi.mode = s.mpi.mode ∧
      (s.becomeReady p).mpi.station = s.mpi.station ∧ (s.becomeReady p).mpi.image = s.mpi.image ∧
      (s.becomeReady p).mpi.pointer = s.mpi.pointer ∧ (s.becomeReady p).mpi.attn = s.mpi.attn ∧
      (s.becomeReady p).mpi.response = s.mpi.response ∧ (s.becomeReady p).mpi.fifo = s.mpi.fifo ∧
      (s.becomeReady p).mpi.lostReports = s.mpi.lostReports := by
  unfold becomeReady
  simp only
  split <;> simp

@[simp] theorem takePending_keeps (p : Position) :
    (s.takePending p).clk = s.clk ∧ (s.takePending p).pending = s.pending ∧ (s.takePending p).pbc = s.pbc ∧
      (s.takePending p).pvt = s.pvt ∧ (s.takePending p).est = s.est ∧ (s.takePending p).plc = s.plc ∧
      (s.takePending p).ofu = s.ofu ∧ (s.takePending p).sps.map = s.sps.map ∧ (s.takePending p).sps.sending = s.sps.sending ∧
      (s.takePending p).sps.junctors = s.sps.junctors ∧ (s.takePending p).sps.freeOrder = s.sps.freeOrder ∧
      (s.takePending p).sps.holdoffOrder = s.sps.holdoffOrder ∧ (s.takePending p).lsi.trunks = s.lsi.trunks ∧
      (s.takePending p).lsi.positions = s.lsi.positions ∧ (s.takePending p).lsi.scanErrors = s.lsi.scanErrors ∧
      (s.takePending p).lsi.scanOpen = s.lsi.scanOpen ∧ (s.takePending p).mpi.mode = s.mpi.mode ∧
      (s.takePending p).mpi.station = s.mpi.station ∧ (s.takePending p).mpi.image = s.mpi.image ∧
      (s.takePending p).mpi.pointer = s.mpi.pointer ∧ (s.takePending p).mpi.attn = s.mpi.attn ∧
      (s.takePending p).mpi.response = s.mpi.response ∧ (s.takePending p).mpi.fifo = s.mpi.fifo ∧
      (s.takePending p).mpi.lostReports = s.mpi.lostReports := by
  unfold takePending
  (repeat' split) <;> simp

@[simp] theorem reportAgent_keeps (before : State) (p : Position) (c : AgentCause) :
    (s.reportAgent before p c).clk = s.clk ∧ (s.reportAgent before p c).pending = s.pending ∧
      (s.reportAgent before p c).pbc = s.pbc ∧ (s.reportAgent before p c).pvt = s.pvt ∧
      (s.reportAgent before p c).est = s.est ∧ (s.reportAgent before p c).htu = s.htu ∧
      (s.reportAgent before p c).plc = s.plc ∧ (s.reportAgent before p c).ofu = s.ofu ∧
      (s.reportAgent before p c).cqm = s.cqm ∧ (s.reportAgent before p c).dsu = s.dsu ∧
      (s.reportAgent before p c).sps.map = s.sps.map ∧ (s.reportAgent before p c).sps.sending = s.sps.sending ∧
      (s.reportAgent before p c).sps.junctors = s.sps.junctors ∧
      (s.reportAgent before p c).sps.freeOrder = s.sps.freeOrder ∧
      (s.reportAgent before p c).sps.holdoffOrder = s.sps.holdoffOrder ∧
      (s.reportAgent before p c).lsi.trunks = s.lsi.trunks ∧
      (s.reportAgent before p c).lsi.positions = s.lsi.positions ∧
      (s.reportAgent before p c).lsi.orders = s.lsi.orders ∧
      (s.reportAgent before p c).lsi.orderLosses = s.lsi.orderLosses ∧
      (s.reportAgent before p c).lsi.scanErrors = s.lsi.scanErrors ∧
      (s.reportAgent before p c).lsi.scanOpen = s.lsi.scanOpen ∧ (s.reportAgent before p c).mpi.mode = s.mpi.mode ∧
      (s.reportAgent before p c).mpi.station = s.mpi.station ∧ (s.reportAgent before p c).mpi.image = s.mpi.image ∧
      (s.reportAgent before p c).mpi.pointer = s.mpi.pointer ∧ (s.reportAgent before p c).mpi.attn = s.mpi.attn ∧
      (s.reportAgent before p c).mpi.response = s.mpi.response := by
  unfold reportAgent
  simp only
  (repeat' split) <;> simp

@[simp] theorem sample_keeps (q : QueueNo) (n : Nat) :
    (s.sample q n).clk = s.clk ∧ (s.sample q n).pending = s.pending ∧ (s.sample q n).pbc = s.pbc ∧
      (s.sample q n).pvt = s.pvt ∧ (s.sample q n).htu = s.htu ∧ (s.sample q n).plc = s.plc ∧
      (s.sample q n).ofu = s.ofu ∧ (s.sample q n).cqm = s.cqm ∧ (s.sample q n).dsu = s.dsu ∧
      (s.sample q n).sps.map = s.sps.map ∧ (s.sample q n).sps.sending = s.sps.sending ∧
      (s.sample q n).sps.junctors = s.sps.junctors ∧ (s.sample q n).sps.freeOrder = s.sps.freeOrder ∧
      (s.sample q n).sps.holdoffOrder = s.sps.holdoffOrder ∧ (s.sample q n).lsi.trunks = s.lsi.trunks ∧
      (s.sample q n).lsi.positions = s.lsi.positions ∧ (s.sample q n).lsi.orders = s.lsi.orders ∧
      (s.sample q n).lsi.orderLosses = s.lsi.orderLosses ∧ (s.sample q n).lsi.scanErrors = s.lsi.scanErrors ∧
      (s.sample q n).lsi.scanOpen = s.lsi.scanOpen ∧ (s.sample q n).mpi.mode = s.mpi.mode ∧
      (s.sample q n).mpi.station = s.mpi.station ∧ (s.sample q n).mpi.image = s.mpi.image ∧
      (s.sample q n).mpi.pointer = s.mpi.pointer ∧ (s.sample q n).mpi.attn = s.mpi.attn ∧
      (s.sample q n).mpi.response = s.mpi.response ∧ (s.sample q n).mpi.fifo = s.mpi.fifo ∧
      (s.sample q n).mpi.lostReports = s.mpi.lostReports := by
  simp [sample]

@[simp] theorem endWrap_keeps (p : Position) (w : WrapFields) (e : EndedBy) (d : Destination) :
    (s.endWrap p w e d).clk = s.clk ∧ (s.endWrap p w e d).pending = s.pending ∧ (s.endWrap p w e d).pbc = s.pbc ∧
      (s.endWrap p w e d).pvt = s.pvt ∧ (s.endWrap p w e d).plc = s.plc ∧ (s.endWrap p w e d).ofu = s.ofu ∧
      (s.endWrap p w e d).sps.map = s.sps.map ∧ (s.endWrap p w e d).sps.sending = s.sps.sending ∧
      (s.endWrap p w e d).sps.junctors = s.sps.junctors ∧ (s.endWrap p w e d).sps.freeOrder = s.sps.freeOrder ∧
      (s.endWrap p w e d).sps.holdoffOrder = s.sps.holdoffOrder ∧ (s.endWrap p w e d).lsi.trunks = s.lsi.trunks ∧
      (s.endWrap p w e d).lsi.positions = s.lsi.positions ∧ (s.endWrap p w e d).lsi.scanErrors = s.lsi.scanErrors ∧
      (s.endWrap p w e d).lsi.scanOpen = s.lsi.scanOpen ∧ (s.endWrap p w e d).mpi.mode = s.mpi.mode ∧
      (s.endWrap p w e d).mpi.station = s.mpi.station ∧ (s.endWrap p w e d).mpi.image = s.mpi.image ∧
      (s.endWrap p w e d).mpi.pointer = s.mpi.pointer ∧ (s.endWrap p w e d).mpi.attn = s.mpi.attn ∧
      (s.endWrap p w e d).mpi.response = s.mpi.response := by
  unfold endWrap
  simp only
  (repeat' split) <;> simp

@[simp] theorem openWrap_keeps (p : Position) (q : QueueNo) (n : Nat) :
    (s.openWrap p q n).clk = s.clk ∧ (s.openWrap p q n).pending = s.pending ∧ (s.openWrap p q n).pbc = s.pbc ∧
      (s.openWrap p q n).pvt = s.pvt ∧ (s.openWrap p q n).plc = s.plc ∧ (s.openWrap p q n).ofu = s.ofu ∧
      (s.openWrap p q n).sps.map = s.sps.map ∧ (s.openWrap p q n).sps.sending = s.sps.sending ∧
      (s.openWrap p q n).sps.junctors = s.sps.junctors ∧ (s.openWrap p q n).sps.freeOrder = s.sps.freeOrder ∧
      (s.openWrap p q n).sps.holdoffOrder = s.sps.holdoffOrder ∧ (s.openWrap p q n).lsi.trunks = s.lsi.trunks ∧
      (s.openWrap p q n).lsi.positions = s.lsi.positions ∧ (s.openWrap p q n).lsi.scanErrors = s.lsi.scanErrors ∧
      (s.openWrap p q n).lsi.scanOpen = s.lsi.scanOpen ∧ (s.openWrap p q n).mpi.mode = s.mpi.mode ∧
      (s.openWrap p q n).mpi.station = s.mpi.station ∧ (s.openWrap p q n).mpi.image = s.mpi.image ∧
      (s.openWrap p q n).mpi.pointer = s.mpi.pointer ∧ (s.openWrap p q n).mpi.attn = s.mpi.attn ∧
      (s.openWrap p q n).mpi.response = s.mpi.response := by
  unfold openWrap
  simp only
  (repeat' split) <;> simp

@[simp] theorem clearTrunk_keeps (t : Trunk) :
    (s.clearTrunk t).clk = s.clk ∧ (s.clearTrunk t).pending = s.pending ∧ (s.clearTrunk t).pbc = s.pbc ∧
      (s.clearTrunk t).pvt = s.pvt ∧ (s.clearTrunk t).est = s.est ∧ (s.clearTrunk t).htu = s.htu ∧
      (s.clearTrunk t).plc = s.plc ∧ (s.clearTrunk t).ofu = s.ofu ∧ (s.clearTrunk t).cqm = s.cqm ∧
      (s.clearTrunk t).dsu = s.dsu ∧ (s.clearTrunk t).sps.map = s.sps.map ∧ (s.clearTrunk t).sps.sending = s.sps.sending ∧
      (s.clearTrunk t).sps.junctors = s.sps.junctors ∧ (s.clearTrunk t).sps.freeOrder = s.sps.freeOrder ∧
      (s.clearTrunk t).sps.holdoffOrder = s.sps.holdoffOrder ∧ (s.clearTrunk t).lsi.positions = s.lsi.positions ∧
      (s.clearTrunk t).lsi.scanErrors = s.lsi.scanErrors ∧ (s.clearTrunk t).lsi.scanOpen = s.lsi.scanOpen ∧
      (s.clearTrunk t).mpi.mode = s.mpi.mode ∧ (s.clearTrunk t).mpi.station = s.mpi.station ∧
      (s.clearTrunk t).mpi.image = s.mpi.image ∧ (s.clearTrunk t).mpi.pointer = s.mpi.pointer ∧
      (s.clearTrunk t).mpi.attn = s.mpi.attn ∧ (s.clearTrunk t).mpi.response = s.mpi.response ∧
      (s.clearTrunk t).mpi.fifo = s.mpi.fifo ∧ (s.clearTrunk t).mpi.lostReports = s.mpi.lostReports := by
  simp [clearTrunk]

@[simp] theorem freeOverflow_keeps (p : CallPhase) :
    (s.freeOverflow p).clk = s.clk ∧ (s.freeOverflow p).pending = s.pending ∧ (s.freeOverflow p).pbc = s.pbc ∧
      (s.freeOverflow p).pvt = s.pvt ∧ (s.freeOverflow p).est = s.est ∧ (s.freeOverflow p).htu = s.htu ∧
      (s.freeOverflow p).plc = s.plc ∧ (s.freeOverflow p).cqm = s.cqm ∧ (s.freeOverflow p).dsu = s.dsu ∧
      (s.freeOverflow p).sps.map = s.sps.map ∧ (s.freeOverflow p).sps.sending = s.sps.sending ∧
      (s.freeOverflow p).sps.freeOrder = s.sps.freeOrder ∧ (s.freeOverflow p).lsi.trunks = s.lsi.trunks ∧
      (s.freeOverflow p).lsi.positions = s.lsi.positions ∧ (s.freeOverflow p).lsi.orders = s.lsi.orders ∧
      (s.freeOverflow p).lsi.orderLosses = s.lsi.orderLosses ∧ (s.freeOverflow p).lsi.scanErrors = s.lsi.scanErrors ∧
      (s.freeOverflow p).lsi.scanOpen = s.lsi.scanOpen ∧ (s.freeOverflow p).mpi.mode = s.mpi.mode ∧
      (s.freeOverflow p).mpi.station = s.mpi.station ∧ (s.freeOverflow p).mpi.image = s.mpi.image ∧
      (s.freeOverflow p).mpi.pointer = s.mpi.pointer ∧ (s.freeOverflow p).mpi.attn = s.mpi.attn ∧
      (s.freeOverflow p).mpi.response = s.mpi.response ∧ (s.freeOverflow p).mpi.fifo = s.mpi.fifo ∧
      (s.freeOverflow p).mpi.lostReports = s.mpi.lostReports := by
  unfold freeOverflow
  (repeat' split) <;> simp

@[simp] theorem endCall_keeps (t : Trunk) :
    (s.endCall t).clk = s.clk ∧ (s.endCall t).pending = s.pending ∧ (s.endCall t).pbc = s.pbc ∧
      (s.endCall t).pvt = s.pvt ∧ (s.endCall t).est = s.est ∧ (s.endCall t).plc = s.plc ∧ (s.endCall t).dsu = s.dsu ∧
      (s.endCall t).sps.map = s.sps.map ∧ (s.endCall t).sps.sending = s.sps.sending ∧
      (s.endCall t).sps.freeOrder = s.sps.freeOrder ∧ (s.endCall t).lsi.positions = s.lsi.positions ∧
      (s.endCall t).lsi.scanErrors = s.lsi.scanErrors ∧ (s.endCall t).lsi.scanOpen = s.lsi.scanOpen ∧
      (s.endCall t).mpi.mode = s.mpi.mode ∧ (s.endCall t).mpi.station = s.mpi.station ∧
      (s.endCall t).mpi.image = s.mpi.image ∧ (s.endCall t).mpi.pointer = s.mpi.pointer ∧
      (s.endCall t).mpi.attn = s.mpi.attn ∧ (s.endCall t).mpi.response = s.mpi.response := by
  unfold endCall
  (repeat' split) <;> simp

@[simp] theorem failOffer_keeps (t : Trunk) :
    (s.failOffer t).clk = s.clk ∧ (s.failOffer t).pending = s.pending ∧ (s.failOffer t).pbc = s.pbc ∧
      (s.failOffer t).pvt = s.pvt ∧ (s.failOffer t).est = s.est ∧ (s.failOffer t).plc = s.plc ∧
      (s.failOffer t).sps.map = s.sps.map ∧ (s.failOffer t).sps.sending = s.sps.sending ∧
      (s.failOffer t).sps.freeOrder = s.sps.freeOrder ∧ (s.failOffer t).lsi.trunks = s.lsi.trunks ∧
      (s.failOffer t).lsi.positions = s.lsi.positions ∧ (s.failOffer t).lsi.scanErrors = s.lsi.scanErrors ∧
      (s.failOffer t).lsi.scanOpen = s.lsi.scanOpen ∧ (s.failOffer t).mpi.mode = s.mpi.mode ∧
      (s.failOffer t).mpi.station = s.mpi.station ∧ (s.failOffer t).mpi.image = s.mpi.image ∧
      (s.failOffer t).mpi.pointer = s.mpi.pointer ∧ (s.failOffer t).mpi.attn = s.mpi.attn ∧
      (s.failOffer t).mpi.response = s.mpi.response ∧ (s.failOffer t).mpi.fifo = s.mpi.fifo ∧
      (s.failOffer t).mpi.lostReports = s.mpi.lostReports := by
  unfold failOffer
  (repeat' split) <;> simp

@[simp] theorem requeue_keeps (q : QueueNo) (t : Trunk) :
    (s.requeue q t).clk = s.clk ∧ (s.requeue q t).pending = s.pending ∧ (s.requeue q t).pbc = s.pbc ∧
      (s.requeue q t).pvt = s.pvt ∧ (s.requeue q t).est = s.est ∧ (s.requeue q t).plc = s.plc ∧
      (s.requeue q t).ofu = s.ofu ∧ (s.requeue q t).sps.map = s.sps.map ∧ (s.requeue q t).sps.sending = s.sps.sending ∧
      (s.requeue q t).sps.junctors = s.sps.junctors ∧ (s.requeue q t).sps.freeOrder = s.sps.freeOrder ∧
      (s.requeue q t).sps.holdoffOrder = s.sps.holdoffOrder ∧ (s.requeue q t).lsi.trunks = s.lsi.trunks ∧
      (s.requeue q t).lsi.positions = s.lsi.positions ∧ (s.requeue q t).lsi.scanErrors = s.lsi.scanErrors ∧
      (s.requeue q t).lsi.scanOpen = s.lsi.scanOpen ∧ (s.requeue q t).mpi.mode = s.mpi.mode ∧
      (s.requeue q t).mpi.station = s.mpi.station ∧ (s.requeue q t).mpi.image = s.mpi.image ∧
      (s.requeue q t).mpi.pointer = s.mpi.pointer ∧ (s.requeue q t).mpi.attn = s.mpi.attn ∧
      (s.requeue q t).mpi.response = s.mpi.response ∧ (s.requeue q t).mpi.fifo = s.mpi.fifo ∧
      (s.requeue q t).mpi.lostReports = s.mpi.lostReports := by
  simp [requeue]

@[simp] theorem returnCall_keeps (t : Trunk) :
    (s.returnCall t).clk = s.clk ∧ (s.returnCall t).pending = s.pending ∧ (s.returnCall t).pbc = s.pbc ∧
      (s.returnCall t).pvt = s.pvt ∧ (s.returnCall t).est = s.est ∧ (s.returnCall t).plc = s.plc ∧
      (s.returnCall t).sps.map = s.sps.map ∧ (s.returnCall t).sps.sending = s.sps.sending ∧
      (s.returnCall t).sps.freeOrder = s.sps.freeOrder ∧ (s.returnCall t).lsi.trunks = s.lsi.trunks ∧
      (s.returnCall t).lsi.positions = s.lsi.positions ∧ (s.returnCall t).lsi.scanErrors = s.lsi.scanErrors ∧
      (s.returnCall t).lsi.scanOpen = s.lsi.scanOpen ∧ (s.returnCall t).mpi.mode = s.mpi.mode ∧
      (s.returnCall t).mpi.station = s.mpi.station ∧ (s.returnCall t).mpi.image = s.mpi.image ∧
      (s.returnCall t).mpi.pointer = s.mpi.pointer ∧ (s.returnCall t).mpi.attn = s.mpi.attn ∧
      (s.returnCall t).mpi.response = s.mpi.response ∧ (s.returnCall t).mpi.fifo = s.mpi.fifo ∧
      (s.returnCall t).mpi.lostReports = s.mpi.lostReports := by
  unfold returnCall
  split
  · simp
  · split <;> simp

@[simp] theorem callerRelease_keeps (before : State) (t : Trunk) :
    (s.callerRelease before t).clk = s.clk ∧ (s.callerRelease before t).pending = s.pending ∧
      (s.callerRelease before t).pbc = s.pbc ∧ (s.callerRelease before t).pvt = s.pvt ∧
      (s.callerRelease before t).sps.map = s.sps.map ∧ (s.callerRelease before t).sps.sending = s.sps.sending ∧
      (s.callerRelease before t).sps.freeOrder = s.sps.freeOrder ∧
      (s.callerRelease before t).lsi.positions = s.lsi.positions ∧
      (s.callerRelease before t).lsi.scanErrors = s.lsi.scanErrors ∧
      (s.callerRelease before t).lsi.scanOpen = s.lsi.scanOpen ∧ (s.callerRelease before t).mpi.mode = s.mpi.mode ∧
      (s.callerRelease before t).mpi.station = s.mpi.station ∧ (s.callerRelease before t).mpi.image = s.mpi.image ∧
      (s.callerRelease before t).mpi.pointer = s.mpi.pointer ∧ (s.callerRelease before t).mpi.attn = s.mpi.attn ∧
      (s.callerRelease before t).mpi.response = s.mpi.response := by
  unfold callerRelease
  split
  · simp
  · simp only
    split <;> simp

@[simp] theorem freeGuest_keeps (g : GuestNo) :
    (s.freeGuest g).clk = s.clk ∧ (s.freeGuest g).pending = s.pending ∧ (s.freeGuest g).pbc = s.pbc ∧
      (s.freeGuest g).pvt = s.pvt ∧ (s.freeGuest g).plc = s.plc ∧ (s.freeGuest g).sps.map = s.sps.map ∧
      (s.freeGuest g).sps.sending = s.sps.sending ∧ (s.freeGuest g).sps.junctors = s.sps.junctors ∧
      (s.freeGuest g).sps.freeOrder = s.sps.freeOrder ∧ (s.freeGuest g).sps.holdoffOrder = s.sps.holdoffOrder ∧
      (s.freeGuest g).lsi.trunks = s.lsi.trunks ∧ (s.freeGuest g).lsi.positions = s.lsi.positions ∧
      (s.freeGuest g).lsi.scanErrors = s.lsi.scanErrors ∧ (s.freeGuest g).lsi.scanOpen = s.lsi.scanOpen ∧
      (s.freeGuest g).mpi.mode = s.mpi.mode ∧ (s.freeGuest g).mpi.station = s.mpi.station ∧
      (s.freeGuest g).mpi.image = s.mpi.image ∧ (s.freeGuest g).mpi.pointer = s.mpi.pointer ∧
      (s.freeGuest g).mpi.attn = s.mpi.attn ∧ (s.freeGuest g).mpi.response = s.mpi.response := by
  unfold freeGuest
  split
  · simp
  · simp only
    split
    · split <;> simp
    · simp
    · simp

@[simp] theorem releaseGuest_keeps (before : State) (g : GuestNo) :
    (s.releaseGuest before g).clk = s.clk ∧ (s.releaseGuest before g).pending = s.pending ∧
      (s.releaseGuest before g).pbc = s.pbc ∧ (s.releaseGuest before g).pvt = s.pvt ∧
      (s.releaseGuest before g).plc = s.plc ∧ (s.releaseGuest before g).sps.map = s.sps.map ∧
      (s.releaseGuest before g).sps.sending = s.sps.sending ∧ (s.releaseGuest before g).sps.junctors = s.sps.junctors ∧
      (s.releaseGuest before g).sps.freeOrder = s.sps.freeOrder ∧
      (s.releaseGuest before g).sps.holdoffOrder = s.sps.holdoffOrder ∧
      (s.releaseGuest before g).lsi.trunks = s.lsi.trunks ∧ (s.releaseGuest before g).lsi.positions = s.lsi.positions ∧
      (s.releaseGuest before g).lsi.scanErrors = s.lsi.scanErrors ∧
      (s.releaseGuest before g).lsi.scanOpen = s.lsi.scanOpen ∧ (s.releaseGuest before g).mpi.mode = s.mpi.mode ∧
      (s.releaseGuest before g).mpi.station = s.mpi.station ∧ (s.releaseGuest before g).mpi.image = s.mpi.image ∧
      (s.releaseGuest before g).mpi.pointer = s.mpi.pointer ∧ (s.releaseGuest before g).mpi.attn = s.mpi.attn ∧
      (s.releaseGuest before g).mpi.response = s.mpi.response := by
  unfold releaseGuest
  (repeat' split) <;> simp

@[simp] theorem settleCall_keeps (t : Trunk) :
    (s.settleCall t).clk = s.clk ∧ (s.settleCall t).pending = s.pending ∧ (s.settleCall t).pbc = s.pbc ∧
      (s.settleCall t).pvt = s.pvt ∧ (s.settleCall t).est = s.est ∧ (s.settleCall t).plc = s.plc ∧
      (s.settleCall t).sps.map = s.sps.map ∧ (s.settleCall t).sps.sending = s.sps.sending ∧
      (s.settleCall t).sps.freeOrder = s.sps.freeOrder ∧ (s.settleCall t).lsi.trunks = s.lsi.trunks ∧
      (s.settleCall t).lsi.positions = s.lsi.positions ∧ (s.settleCall t).lsi.scanErrors = s.lsi.scanErrors ∧
      (s.settleCall t).lsi.scanOpen = s.lsi.scanOpen ∧ (s.settleCall t).mpi.mode = s.mpi.mode ∧
      (s.settleCall t).mpi.station = s.mpi.station ∧ (s.settleCall t).mpi.image = s.mpi.image ∧
      (s.settleCall t).mpi.pointer = s.mpi.pointer ∧ (s.settleCall t).mpi.attn = s.mpi.attn ∧
      (s.settleCall t).mpi.response = s.mpi.response ∧ (s.settleCall t).mpi.fifo = s.mpi.fifo ∧
      (s.settleCall t).mpi.lostReports = s.mpi.lostReports := by
  unfold settleCall
  (repeat' split) <;> simp

@[simp] theorem settleCalls_keeps (l : List Trunk) :
    (l.foldl (fun v t => v.settleCall t) s).clk = s.clk ∧ (l.foldl (fun v t => v.settleCall t) s).pending = s.pending ∧
      (l.foldl (fun v t => v.settleCall t) s).pbc = s.pbc ∧ (l.foldl (fun v t => v.settleCall t) s).pvt = s.pvt ∧
      (l.foldl (fun v t => v.settleCall t) s).est = s.est ∧ (l.foldl (fun v t => v.settleCall t) s).plc = s.plc ∧
      (l.foldl (fun v t => v.settleCall t) s).sps.map = s.sps.map ∧
      (l.foldl (fun v t => v.settleCall t) s).sps.sending = s.sps.sending ∧
      (l.foldl (fun v t => v.settleCall t) s).sps.freeOrder = s.sps.freeOrder ∧
      (l.foldl (fun v t => v.settleCall t) s).lsi.trunks = s.lsi.trunks ∧
      (l.foldl (fun v t => v.settleCall t) s).lsi.positions = s.lsi.positions ∧
      (l.foldl (fun v t => v.settleCall t) s).lsi.scanErrors = s.lsi.scanErrors ∧
      (l.foldl (fun v t => v.settleCall t) s).lsi.scanOpen = s.lsi.scanOpen ∧
      (l.foldl (fun v t => v.settleCall t) s).mpi.mode = s.mpi.mode ∧
      (l.foldl (fun v t => v.settleCall t) s).mpi.station = s.mpi.station ∧
      (l.foldl (fun v t => v.settleCall t) s).mpi.image = s.mpi.image ∧
      (l.foldl (fun v t => v.settleCall t) s).mpi.pointer = s.mpi.pointer ∧
      (l.foldl (fun v t => v.settleCall t) s).mpi.attn = s.mpi.attn ∧
      (l.foldl (fun v t => v.settleCall t) s).mpi.response = s.mpi.response ∧
      (l.foldl (fun v t => v.settleCall t) s).mpi.fifo = s.mpi.fifo ∧
      (l.foldl (fun v t => v.settleCall t) s).mpi.lostReports = s.mpi.lostReports := by
  induction l generalizing s with
  | nil => simp
  | cons b l ih => simpa using ih (s.settleCall b)

@[simp] theorem releaseGuests_keeps (before : State) (l : List GuestNo) :
    (l.foldl (fun v g => v.releaseGuest before g) s).clk = s.clk ∧
      (l.foldl (fun v g => v.releaseGuest before g) s).pending = s.pending ∧
      (l.foldl (fun v g => v.releaseGuest before g) s).pbc = s.pbc ∧
      (l.foldl (fun v g => v.releaseGuest before g) s).pvt = s.pvt ∧
      (l.foldl (fun v g => v.releaseGuest before g) s).plc = s.plc ∧
      (l.foldl (fun v g => v.releaseGuest before g) s).sps.map = s.sps.map ∧
      (l.foldl (fun v g => v.releaseGuest before g) s).sps.sending = s.sps.sending ∧
      (l.foldl (fun v g => v.releaseGuest before g) s).sps.junctors = s.sps.junctors ∧
      (l.foldl (fun v g => v.releaseGuest before g) s).sps.freeOrder = s.sps.freeOrder ∧
      (l.foldl (fun v g => v.releaseGuest before g) s).sps.holdoffOrder = s.sps.holdoffOrder ∧
      (l.foldl (fun v g => v.releaseGuest before g) s).lsi.trunks = s.lsi.trunks ∧
      (l.foldl (fun v g => v.releaseGuest before g) s).lsi.positions = s.lsi.positions ∧
      (l.foldl (fun v g => v.releaseGuest before g) s).lsi.scanErrors = s.lsi.scanErrors ∧
      (l.foldl (fun v g => v.releaseGuest before g) s).lsi.scanOpen = s.lsi.scanOpen ∧
      (l.foldl (fun v g => v.releaseGuest before g) s).mpi.mode = s.mpi.mode ∧
      (l.foldl (fun v g => v.releaseGuest before g) s).mpi.station = s.mpi.station ∧
      (l.foldl (fun v g => v.releaseGuest before g) s).mpi.image = s.mpi.image ∧
      (l.foldl (fun v g => v.releaseGuest before g) s).mpi.pointer = s.mpi.pointer ∧
      (l.foldl (fun v g => v.releaseGuest before g) s).mpi.attn = s.mpi.attn ∧
      (l.foldl (fun v g => v.releaseGuest before g) s).mpi.response = s.mpi.response := by
  induction l generalizing s with
  | nil => simp
  | cons b l ih => simpa using ih (s.releaseGuest before b)

@[simp] theorem losePeer_keeps (before : State) (x : Station) :
    (s.losePeer before x).clk = s.clk ∧ (s.losePeer before x).pending = s.pending ∧ (s.losePeer before x).pbc = s.pbc ∧
      (s.losePeer before x).pvt = s.pvt ∧ (s.losePeer before x).plc = s.plc ∧
      (s.losePeer before x).sps.map = s.sps.map ∧ (s.losePeer before x).sps.sending = s.sps.sending ∧
      (s.losePeer before x).sps.freeOrder = s.sps.freeOrder ∧ (s.losePeer before x).lsi.trunks = s.lsi.trunks ∧
      (s.losePeer before x).lsi.positions = s.lsi.positions ∧ (s.losePeer before x).lsi.scanErrors = s.lsi.scanErrors ∧
      (s.losePeer before x).lsi.scanOpen = s.lsi.scanOpen ∧ (s.losePeer before x).mpi.mode = s.mpi.mode ∧
      (s.losePeer before x).mpi.station = s.mpi.station ∧ (s.losePeer before x).mpi.image = s.mpi.image ∧
      (s.losePeer before x).mpi.pointer = s.mpi.pointer ∧ (s.losePeer before x).mpi.attn = s.mpi.attn ∧
      (s.losePeer before x).mpi.response = s.mpi.response := by
  simp [losePeer]

end Sys2Proof.Machine.State
end

