-- ==== Sys2Proof/Laws/Event.lean ====
section
/-! SUPPORT. What each operation of Event.lean keeps: every piece of State that it does not write. -/

namespace Sys2Proof.Machine.State

variable (s : State)

@[simp] theorem beginDivision_keeps :
    (s.beginDivision).clk = s.clk ∧ (s.beginDivision).pending = s.pending ∧ (s.beginDivision).pbc = s.pbc ∧
      (s.beginDivision).pvt = s.pvt ∧ (s.beginDivision).htu = s.htu ∧ (s.beginDivision).plc = s.plc ∧
      (s.beginDivision).ofu = s.ofu ∧ (s.beginDivision).cqm = s.cqm ∧ (s.beginDivision).dsu = s.dsu ∧
      (s.beginDivision).sps.map = s.sps.map ∧ (s.beginDivision).sps.sending = s.sps.sending ∧
      (s.beginDivision).sps.junctors = s.sps.junctors ∧ (s.beginDivision).sps.freeOrder = s.sps.freeOrder ∧
      (s.beginDivision).sps.holdoffOrder = s.sps.holdoffOrder ∧ (s.beginDivision).lsi.trunks = s.lsi.trunks ∧
      (s.beginDivision).lsi.positions = s.lsi.positions ∧ (s.beginDivision).lsi.orders = s.lsi.orders ∧
      (s.beginDivision).lsi.orderLosses = s.lsi.orderLosses ∧ (s.beginDivision).lsi.scanErrors = s.lsi.scanErrors ∧
      (s.beginDivision).lsi.scanOpen = s.lsi.scanOpen ∧ (s.beginDivision).mpi.mode = s.mpi.mode ∧
      (s.beginDivision).mpi.station = s.mpi.station ∧ (s.beginDivision).mpi.image = s.mpi.image ∧
      (s.beginDivision).mpi.pointer = s.mpi.pointer ∧ (s.beginDivision).mpi.attn = s.mpi.attn ∧
      (s.beginDivision).mpi.response = s.mpi.response ∧ (s.beginDivision).mpi.fifo = s.mpi.fifo ∧
      (s.beginDivision).mpi.lostReports = s.mpi.lostReports := by
  unfold beginDivision
  split
  · simp
  · split <;> simp

theorem markStaffing_fold (before : State) (l : List QueueNo) (v : State) :
    ∃ r, l.foldl (fun u q => if s.staffedCount q = before.staffedCount q then u
      else u.setEst q { u.est.recs[q] with pendingFlag := true }) v = { v with est := { v.est with recs := r } } := by
  induction l generalizing v with
  | nil => exact ⟨v.est.recs, rfl⟩
  | cons q l ih =>
    rw [List.foldl_cons]
    split
    · exact ih v
    · obtain ⟨r, h⟩ := ih (v.setEst q { v.est.recs[q] with pendingFlag := true })
      exact ⟨r, h⟩

@[simp] theorem markStaffing_keeps (before : State) :
    (s.markStaffing before).clk = s.clk ∧ (s.markStaffing before).pending = s.pending ∧
      (s.markStaffing before).pbc = s.pbc ∧ (s.markStaffing before).pvt = s.pvt ∧ (s.markStaffing before).htu = s.htu ∧
      (s.markStaffing before).plc = s.plc ∧ (s.markStaffing before).ofu = s.ofu ∧ (s.markStaffing before).cqm = s.cqm ∧
      (s.markStaffing before).dsu = s.dsu ∧ (s.markStaffing before).sps.map = s.sps.map ∧
      (s.markStaffing before).sps.sending = s.sps.sending ∧ (s.markStaffing before).sps.junctors = s.sps.junctors ∧
      (s.markStaffing before).sps.freeOrder = s.sps.freeOrder ∧
      (s.markStaffing before).sps.holdoffOrder = s.sps.holdoffOrder ∧
      (s.markStaffing before).lsi.trunks = s.lsi.trunks ∧ (s.markStaffing before).lsi.positions = s.lsi.positions ∧
      (s.markStaffing before).lsi.orders = s.lsi.orders ∧ (s.markStaffing before).lsi.orderLosses = s.lsi.orderLosses ∧
      (s.markStaffing before).lsi.scanErrors = s.lsi.scanErrors ∧
      (s.markStaffing before).lsi.scanOpen = s.lsi.scanOpen ∧ (s.markStaffing before).mpi.mode = s.mpi.mode ∧
      (s.markStaffing before).mpi.station = s.mpi.station ∧ (s.markStaffing before).mpi.image = s.mpi.image ∧
      (s.markStaffing before).mpi.pointer = s.mpi.pointer ∧ (s.markStaffing before).mpi.attn = s.mpi.attn ∧
      (s.markStaffing before).mpi.response = s.mpi.response ∧ (s.markStaffing before).mpi.fifo = s.mpi.fifo ∧
      (s.markStaffing before).mpi.lostReports = s.mpi.lostReports := by
  obtain ⟨r, h⟩ := markStaffing_fold s before (List.finRange 8) s
  unfold markStaffing
  rw [h]
  simp

@[simp] theorem abandonStale_keeps :
    (s.abandonStale).clk = s.clk ∧ (s.abandonStale).pending = s.pending ∧ (s.abandonStale).pbc = s.pbc ∧
      (s.abandonStale).pvt = s.pvt ∧ (s.abandonStale).htu = s.htu ∧ (s.abandonStale).plc = s.plc ∧
      (s.abandonStale).ofu = s.ofu ∧ (s.abandonStale).cqm = s.cqm ∧ (s.abandonStale).dsu = s.dsu ∧
      (s.abandonStale).sps.map = s.sps.map ∧ (s.abandonStale).sps.sending = s.sps.sending ∧
      (s.abandonStale).sps.junctors = s.sps.junctors ∧ (s.abandonStale).sps.freeOrder = s.sps.freeOrder ∧
      (s.abandonStale).sps.holdoffOrder = s.sps.holdoffOrder ∧ (s.abandonStale).lsi.trunks = s.lsi.trunks ∧
      (s.abandonStale).lsi.positions = s.lsi.positions ∧ (s.abandonStale).lsi.orders = s.lsi.orders ∧
      (s.abandonStale).lsi.orderLosses = s.lsi.orderLosses ∧ (s.abandonStale).lsi.scanErrors = s.lsi.scanErrors ∧
      (s.abandonStale).lsi.scanOpen = s.lsi.scanOpen ∧ (s.abandonStale).mpi.mode = s.mpi.mode ∧
      (s.abandonStale).mpi.station = s.mpi.station ∧ (s.abandonStale).mpi.image = s.mpi.image ∧
      (s.abandonStale).mpi.pointer = s.mpi.pointer ∧ (s.abandonStale).mpi.attn = s.mpi.attn ∧
      (s.abandonStale).mpi.response = s.mpi.response ∧ (s.abandonStale).mpi.fifo = s.mpi.fifo ∧
      (s.abandonStale).mpi.lostReports = s.mpi.lostReports := by
  unfold abandonStale
  split
  · simp
  · simp only
    split <;> simp

@[simp] theorem closeEst_keeps (before : State) :
    (s.closeEst before).clk = s.clk ∧ (s.closeEst before).pending = s.pending ∧ (s.closeEst before).pbc = s.pbc ∧
      (s.closeEst before).pvt = s.pvt ∧ (s.closeEst before).htu = s.htu ∧ (s.closeEst before).plc = s.plc ∧
      (s.closeEst before).ofu = s.ofu ∧ (s.closeEst before).cqm = s.cqm ∧ (s.closeEst before).dsu = s.dsu ∧
      (s.closeEst before).sps.map = s.sps.map ∧ (s.closeEst before).sps.sending = s.sps.sending ∧
      (s.closeEst before).sps.junctors = s.sps.junctors ∧ (s.closeEst before).sps.freeOrder = s.sps.freeOrder ∧
      (s.closeEst before).sps.holdoffOrder = s.sps.holdoffOrder ∧ (s.closeEst before).lsi.trunks = s.lsi.trunks ∧
      (s.closeEst before).lsi.positions = s.lsi.positions ∧ (s.closeEst before).lsi.orders = s.lsi.orders ∧
      (s.closeEst before).lsi.orderLosses = s.lsi.orderLosses ∧ (s.closeEst before).lsi.scanErrors = s.lsi.scanErrors ∧
      (s.closeEst before).lsi.scanOpen = s.lsi.scanOpen ∧ (s.closeEst before).mpi.mode = s.mpi.mode ∧
      (s.closeEst before).mpi.station = s.mpi.station ∧ (s.closeEst before).mpi.image = s.mpi.image ∧
      (s.closeEst before).mpi.pointer = s.mpi.pointer ∧ (s.closeEst before).mpi.attn = s.mpi.attn ∧
      (s.closeEst before).mpi.response = s.mpi.response ∧ (s.closeEst before).mpi.fifo = s.mpi.fifo ∧
      (s.closeEst before).mpi.lostReports = s.mpi.lostReports := by
  simp [closeEst]

@[simp] theorem completeDivision_keeps :
    (s.completeDivision).clk = s.clk ∧ (s.completeDivision).pending = s.pending ∧ (s.completeDivision).pbc = s.pbc ∧
      (s.completeDivision).pvt = s.pvt ∧ (s.completeDivision).htu = s.htu ∧ (s.completeDivision).plc = s.plc ∧
      (s.completeDivision).ofu = s.ofu ∧ (s.completeDivision).cqm = s.cqm ∧ (s.completeDivision).dsu = s.dsu ∧
      (s.completeDivision).sps.map = s.sps.map ∧ (s.completeDivision).sps.sending = s.sps.sending ∧
      (s.completeDivision).sps.junctors = s.sps.junctors ∧ (s.completeDivision).sps.freeOrder = s.sps.freeOrder ∧
      (s.completeDivision).sps.holdoffOrder = s.sps.holdoffOrder ∧ (s.completeDivision).lsi.trunks = s.lsi.trunks ∧
      (s.completeDivision).lsi.positions = s.lsi.positions ∧ (s.completeDivision).lsi.orders = s.lsi.orders ∧
      (s.completeDivision).lsi.orderLosses = s.lsi.orderLosses ∧
      (s.completeDivision).lsi.scanErrors = s.lsi.scanErrors ∧ (s.completeDivision).lsi.scanOpen = s.lsi.scanOpen ∧
      (s.completeDivision).mpi.mode = s.mpi.mode ∧ (s.completeDivision).mpi.station = s.mpi.station ∧
      (s.completeDivision).mpi.image = s.mpi.image ∧ (s.completeDivision).mpi.pointer = s.mpi.pointer ∧
      (s.completeDivision).mpi.attn = s.mpi.attn ∧ (s.completeDivision).mpi.response = s.mpi.response ∧
      (s.completeDivision).mpi.fifo = s.mpi.fifo ∧ (s.completeDivision).mpi.lostReports = s.mpi.lostReports := by
  unfold completeDivision
  split <;> simp

@[simp] theorem askOnCrossing_keeps (before : State) :
    (s.askOnCrossing before).clk = s.clk ∧ (s.askOnCrossing before).pending = s.pending ∧
      (s.askOnCrossing before).pbc = s.pbc ∧ (s.askOnCrossing before).pvt = s.pvt ∧
      (s.askOnCrossing before).est = s.est ∧ (s.askOnCrossing before).htu = s.htu ∧
      (s.askOnCrossing before).ofu = s.ofu ∧ (s.askOnCrossing before).cqm = s.cqm ∧
      (s.askOnCrossing before).dsu = s.dsu ∧ (s.askOnCrossing before).sps.map = s.sps.map ∧
      (s.askOnCrossing before).sps.sending = s.sps.sending ∧ (s.askOnCrossing before).sps.junctors = s.sps.junctors ∧
      (s.askOnCrossing before).sps.freeOrder = s.sps.freeOrder ∧
      (s.askOnCrossing before).sps.holdoffOrder = s.sps.holdoffOrder ∧
      (s.askOnCrossing before).lsi.trunks = s.lsi.trunks ∧ (s.askOnCrossing before).lsi.positions = s.lsi.positions ∧
      (s.askOnCrossing before).lsi.orders = s.lsi.orders ∧
      (s.askOnCrossing before).lsi.orderLosses = s.lsi.orderLosses ∧
      (s.askOnCrossing before).lsi.scanErrors = s.lsi.scanErrors ∧
      (s.askOnCrossing before).lsi.scanOpen = s.lsi.scanOpen ∧ (s.askOnCrossing before).mpi.mode = s.mpi.mode ∧
      (s.askOnCrossing before).mpi.station = s.mpi.station ∧ (s.askOnCrossing before).mpi.image = s.mpi.image ∧
      (s.askOnCrossing before).mpi.pointer = s.mpi.pointer ∧ (s.askOnCrossing before).mpi.attn = s.mpi.attn ∧
      (s.askOnCrossing before).mpi.response = s.mpi.response ∧ (s.askOnCrossing before).mpi.fifo = s.mpi.fifo ∧
      (s.askOnCrossing before).mpi.lostReports = s.mpi.lostReports := by
  unfold askOnCrossing
  split <;> simp

@[simp] theorem beginAttempt_keeps :
    (s.beginAttempt).clk = s.clk ∧ (s.beginAttempt).pending = s.pending ∧ (s.beginAttempt).pbc = s.pbc ∧
      (s.beginAttempt).pvt = s.pvt ∧ (s.beginAttempt).est = s.est ∧ (s.beginAttempt).htu = s.htu ∧
      (s.beginAttempt).ofu = s.ofu ∧ (s.beginAttempt).cqm = s.cqm ∧ (s.beginAttempt).dsu = s.dsu ∧
      (s.beginAttempt).sps.map = s.sps.map ∧ (s.beginAttempt).sps.sending = s.sps.sending ∧
      (s.beginAttempt).sps.junctors = s.sps.junctors ∧ (s.beginAttempt).sps.freeOrder = s.sps.freeOrder ∧
      (s.beginAttempt).sps.holdoffOrder = s.sps.holdoffOrder ∧ (s.beginAttempt).lsi.trunks = s.lsi.trunks ∧
      (s.beginAttempt).lsi.positions = s.lsi.positions ∧ (s.beginAttempt).lsi.orders = s.lsi.orders ∧
      (s.beginAttempt).lsi.orderLosses = s.lsi.orderLosses ∧ (s.beginAttempt).lsi.scanErrors = s.lsi.scanErrors ∧
      (s.beginAttempt).lsi.scanOpen = s.lsi.scanOpen ∧ (s.beginAttempt).mpi.mode = s.mpi.mode ∧
      (s.beginAttempt).mpi.station = s.mpi.station ∧ (s.beginAttempt).mpi.image = s.mpi.image ∧
      (s.beginAttempt).mpi.pointer = s.mpi.pointer ∧ (s.beginAttempt).mpi.attn = s.mpi.attn ∧
      (s.beginAttempt).mpi.response = s.mpi.response ∧ (s.beginAttempt).mpi.fifo = s.mpi.fifo ∧
      (s.beginAttempt).mpi.lostReports = s.mpi.lostReports := by
  unfold beginAttempt
  split
  · split
    · simp
    · split
      · simp
      · split <;> simp
  · simp

@[simp] theorem refresh_keeps :
    (s.refresh).clk = s.clk ∧ (s.refresh).pending = s.pending ∧ (s.refresh).pbc = s.pbc ∧ (s.refresh).pvt = s.pvt ∧
      (s.refresh).est = s.est ∧ (s.refresh).htu = s.htu ∧ (s.refresh).plc = s.plc ∧ (s.refresh).ofu = s.ofu ∧
      (s.refresh).cqm = s.cqm ∧ (s.refresh).dsu = s.dsu ∧ (s.refresh).sps.sending = s.sps.sending ∧ (s.refresh).sps.junctors = s.sps.junctors ∧
      (s.refresh).sps.freeOrder = s.sps.freeOrder ∧ (s.refresh).sps.holdoffOrder = s.sps.holdoffOrder ∧
      (s.refresh).lsi.trunks = s.lsi.trunks ∧ (s.refresh).lsi.positions = s.lsi.positions ∧
      (s.refresh).lsi.orders = s.lsi.orders ∧ (s.refresh).lsi.orderLosses = s.lsi.orderLosses ∧
      (s.refresh).lsi.scanErrors = s.lsi.scanErrors ∧ (s.refresh).lsi.scanOpen = s.lsi.scanOpen ∧
      (s.refresh).mpi.mode = s.mpi.mode ∧ (s.refresh).mpi.station = s.mpi.station ∧
      (s.refresh).mpi.image = s.mpi.image ∧ (s.refresh).mpi.pointer = s.mpi.pointer ∧
      (s.refresh).mpi.response = s.mpi.response ∧ (s.refresh).mpi.fifo = s.mpi.fifo ∧
      (s.refresh).mpi.lostReports = s.mpi.lostReports := by
  simp [refresh]

@[simp] theorem close_keeps (before : State) :
    (s.close before).clk = s.clk ∧ (s.close before).pending = s.pending ∧ (s.close before).pbc = s.pbc ∧
      (s.close before).pvt = s.pvt ∧ (s.close before).htu = s.htu ∧ (s.close before).ofu = s.ofu ∧
      (s.close before).cqm = s.cqm ∧ (s.close before).dsu = s.dsu ∧ (s.close before).sps.sending = s.sps.sending ∧ (s.close before).sps.junctors = s.sps.junctors ∧
      (s.close before).sps.freeOrder = s.sps.freeOrder ∧ (s.close before).sps.holdoffOrder = s.sps.holdoffOrder ∧
      (s.close before).lsi.trunks = s.lsi.trunks ∧ (s.close before).lsi.positions = s.lsi.positions ∧
      (s.close before).lsi.orders = s.lsi.orders ∧ (s.close before).lsi.orderLosses = s.lsi.orderLosses ∧
      (s.close before).lsi.scanErrors = s.lsi.scanErrors ∧ (s.close before).lsi.scanOpen = s.lsi.scanOpen ∧
      (s.close before).mpi.mode = s.mpi.mode ∧ (s.close before).mpi.station = s.mpi.station ∧
      (s.close before).mpi.image = s.mpi.image ∧ (s.close before).mpi.pointer = s.mpi.pointer ∧
      (s.close before).mpi.response = s.mpi.response ∧ (s.close before).mpi.fifo = s.mpi.fifo ∧
      (s.close before).mpi.lostReports = s.mpi.lostReports := by
  simp [close]

end Sys2Proof.Machine.State
end

