-- ==== Sys2Proof/Laws/Keys.lean ====
section
/-! SUPPORT. What each operation of Keys.lean keeps: every piece of State that it does not write. -/

namespace Sys2Proof.Machine.State

variable (s : State)

@[simp] theorem refuseKey_keeps (p : Position) :
    (s.refuseKey p).clk = s.clk ∧ (s.refuseKey p).pending = s.pending ∧ (s.refuseKey p).pbc = s.pbc ∧
      (s.refuseKey p).pvt = s.pvt ∧ (s.refuseKey p).est = s.est ∧ (s.refuseKey p).htu = s.htu ∧
      (s.refuseKey p).plc = s.plc ∧ (s.refuseKey p).ofu = s.ofu ∧ (s.refuseKey p).cqm = s.cqm ∧
      (s.refuseKey p).dsu = s.dsu ∧ (s.refuseKey p).sps.map = s.sps.map ∧ (s.refuseKey p).sps.sending = s.sps.sending ∧
      (s.refuseKey p).sps.junctors = s.sps.junctors ∧ (s.refuseKey p).sps.freeOrder = s.sps.freeOrder ∧
      (s.refuseKey p).sps.holdoffOrder = s.sps.holdoffOrder ∧ (s.refuseKey p).lsi.trunks = s.lsi.trunks ∧
      (s.refuseKey p).lsi.positions = s.lsi.positions ∧ (s.refuseKey p).lsi.scanErrors = s.lsi.scanErrors ∧
      (s.refuseKey p).lsi.scanOpen = s.lsi.scanOpen ∧ (s.refuseKey p).mpi.mode = s.mpi.mode ∧
      (s.refuseKey p).mpi.station = s.mpi.station ∧ (s.refuseKey p).mpi.image = s.mpi.image ∧
      (s.refuseKey p).mpi.pointer = s.mpi.pointer ∧ (s.refuseKey p).mpi.attn = s.mpi.attn ∧
      (s.refuseKey p).mpi.response = s.mpi.response ∧ (s.refuseKey p).mpi.fifo = s.mpi.fifo ∧
      (s.refuseKey p).mpi.lostReports = s.mpi.lostReports := by
  simp [refuseKey]

@[simp] theorem keySignOn_keeps (p : Position) (f : ProfileNo) :
    (s.keySignOn p f).clk = s.clk ∧ (s.keySignOn p f).pending = s.pending ∧ (s.keySignOn p f).pbc = s.pbc ∧
      (s.keySignOn p f).pvt = s.pvt ∧ (s.keySignOn p f).est = s.est ∧ (s.keySignOn p f).htu = s.htu ∧
      (s.keySignOn p f).plc = s.plc ∧ (s.keySignOn p f).ofu = s.ofu ∧ (s.keySignOn p f).cqm = s.cqm ∧
      (s.keySignOn p f).sps.map = s.sps.map ∧ (s.keySignOn p f).sps.sending = s.sps.sending ∧
      (s.keySignOn p f).sps.junctors = s.sps.junctors ∧ (s.keySignOn p f).sps.freeOrder = s.sps.freeOrder ∧
      (s.keySignOn p f).sps.holdoffOrder = s.sps.holdoffOrder ∧ (s.keySignOn p f).lsi.trunks = s.lsi.trunks ∧
      (s.keySignOn p f).lsi.positions = s.lsi.positions ∧ (s.keySignOn p f).lsi.scanErrors = s.lsi.scanErrors ∧
      (s.keySignOn p f).lsi.scanOpen = s.lsi.scanOpen ∧ (s.keySignOn p f).mpi.mode = s.mpi.mode ∧
      (s.keySignOn p f).mpi.station = s.mpi.station ∧ (s.keySignOn p f).mpi.image = s.mpi.image ∧
      (s.keySignOn p f).mpi.pointer = s.mpi.pointer ∧ (s.keySignOn p f).mpi.attn = s.mpi.attn ∧
      (s.keySignOn p f).mpi.response = s.mpi.response := by
  unfold keySignOn
  simp only
  (repeat' split) <;> simp

@[simp] theorem keyReady_keeps (p : Position) :
    (s.keyReady p).clk = s.clk ∧ (s.keyReady p).pending = s.pending ∧ (s.keyReady p).pbc = s.pbc ∧
      (s.keyReady p).pvt = s.pvt ∧ (s.keyReady p).plc = s.plc ∧ (s.keyReady p).ofu = s.ofu ∧
      (s.keyReady p).sps.map = s.sps.map ∧ (s.keyReady p).sps.sending = s.sps.sending ∧
      (s.keyReady p).sps.junctors = s.sps.junctors ∧ (s.keyReady p).sps.freeOrder = s.sps.freeOrder ∧
      (s.keyReady p).sps.holdoffOrder = s.sps.holdoffOrder ∧ (s.keyReady p).lsi.trunks = s.lsi.trunks ∧
      (s.keyReady p).lsi.positions = s.lsi.positions ∧ (s.keyReady p).lsi.scanErrors = s.lsi.scanErrors ∧
      (s.keyReady p).lsi.scanOpen = s.lsi.scanOpen ∧ (s.keyReady p).mpi.mode = s.mpi.mode ∧
      (s.keyReady p).mpi.station = s.mpi.station ∧ (s.keyReady p).mpi.image = s.mpi.image ∧
      (s.keyReady p).mpi.pointer = s.mpi.pointer ∧ (s.keyReady p).mpi.attn = s.mpi.attn ∧
      (s.keyReady p).mpi.response = s.mpi.response := by
  unfold keyReady
  simp only
  (repeat' split) <;> simp

@[simp] theorem keyNotReady_keeps (p : Position) :
    (s.keyNotReady p).clk = s.clk ∧ (s.keyNotReady p).pending = s.pending ∧ (s.keyNotReady p).pbc = s.pbc ∧
      (s.keyNotReady p).pvt = s.pvt ∧ (s.keyNotReady p).plc = s.plc ∧ (s.keyNotReady p).ofu = s.ofu ∧
      (s.keyNotReady p).sps.map = s.sps.map ∧ (s.keyNotReady p).sps.sending = s.sps.sending ∧
      (s.keyNotReady p).sps.junctors = s.sps.junctors ∧ (s.keyNotReady p).sps.freeOrder = s.sps.freeOrder ∧
      (s.keyNotReady p).sps.holdoffOrder = s.sps.holdoffOrder ∧ (s.keyNotReady p).lsi.trunks = s.lsi.trunks ∧
      (s.keyNotReady p).lsi.positions = s.lsi.positions ∧ (s.keyNotReady p).lsi.scanErrors = s.lsi.scanErrors ∧
      (s.keyNotReady p).lsi.scanOpen = s.lsi.scanOpen ∧ (s.keyNotReady p).mpi.mode = s.mpi.mode ∧
      (s.keyNotReady p).mpi.station = s.mpi.station ∧ (s.keyNotReady p).mpi.image = s.mpi.image ∧
      (s.keyNotReady p).mpi.pointer = s.mpi.pointer ∧ (s.keyNotReady p).mpi.attn = s.mpi.attn ∧
      (s.keyNotReady p).mpi.response = s.mpi.response := by
  unfold keyNotReady
  split <;> simp

@[simp] theorem keySignOff_keeps (p : Position) :
    (s.keySignOff p).clk = s.clk ∧ (s.keySignOff p).pending = s.pending ∧ (s.keySignOff p).pbc = s.pbc ∧
      (s.keySignOff p).pvt = s.pvt ∧ (s.keySignOff p).est = s.est ∧ (s.keySignOff p).htu = s.htu ∧
      (s.keySignOff p).plc = s.plc ∧ (s.keySignOff p).ofu = s.ofu ∧ (s.keySignOff p).cqm = s.cqm ∧
      (s.keySignOff p).sps.map = s.sps.map ∧ (s.keySignOff p).sps.sending = s.sps.sending ∧
      (s.keySignOff p).sps.junctors = s.sps.junctors ∧ (s.keySignOff p).sps.freeOrder = s.sps.freeOrder ∧
      (s.keySignOff p).sps.holdoffOrder = s.sps.holdoffOrder ∧ (s.keySignOff p).lsi.trunks = s.lsi.trunks ∧
      (s.keySignOff p).lsi.positions = s.lsi.positions ∧ (s.keySignOff p).lsi.scanErrors = s.lsi.scanErrors ∧
      (s.keySignOff p).lsi.scanOpen = s.lsi.scanOpen ∧ (s.keySignOff p).mpi.mode = s.mpi.mode ∧
      (s.keySignOff p).mpi.station = s.mpi.station ∧ (s.keySignOff p).mpi.image = s.mpi.image ∧
      (s.keySignOff p).mpi.pointer = s.mpi.pointer ∧ (s.keySignOff p).mpi.attn = s.mpi.attn ∧
      (s.keySignOff p).mpi.response = s.mpi.response := by
  unfold keySignOff
  split <;> simp

@[simp] theorem answerGuest_keeps (g : GuestNo) :
    (s.answerGuest g).clk = s.clk ∧ (s.answerGuest g).pending = s.pending ∧ (s.answerGuest g).pbc = s.pbc ∧
      (s.answerGuest g).pvt = s.pvt ∧ (s.answerGuest g).est = s.est ∧ (s.answerGuest g).htu = s.htu ∧
      (s.answerGuest g).cqm = s.cqm ∧ (s.answerGuest g).dsu = s.dsu ∧ (s.answerGuest g).sps.map = s.sps.map ∧
      (s.answerGuest g).sps.sending = s.sps.sending ∧ (s.answerGuest g).sps.junctors = s.sps.junctors ∧
      (s.answerGuest g).sps.freeOrder = s.sps.freeOrder ∧ (s.answerGuest g).sps.holdoffOrder = s.sps.holdoffOrder ∧
      (s.answerGuest g).lsi.trunks = s.lsi.trunks ∧ (s.answerGuest g).lsi.positions = s.lsi.positions ∧
      (s.answerGuest g).lsi.orders = s.lsi.orders ∧ (s.answerGuest g).lsi.orderLosses = s.lsi.orderLosses ∧
      (s.answerGuest g).lsi.scanErrors = s.lsi.scanErrors ∧ (s.answerGuest g).lsi.scanOpen = s.lsi.scanOpen ∧
      (s.answerGuest g).mpi.mode = s.mpi.mode ∧ (s.answerGuest g).mpi.station = s.mpi.station ∧
      (s.answerGuest g).mpi.image = s.mpi.image ∧ (s.answerGuest g).mpi.pointer = s.mpi.pointer ∧
      (s.answerGuest g).mpi.attn = s.mpi.attn ∧ (s.answerGuest g).mpi.response = s.mpi.response ∧
      (s.answerGuest g).mpi.fifo = s.mpi.fifo ∧ (s.answerGuest g).mpi.lostReports = s.mpi.lostReports := by
  unfold answerGuest
  split <;> simp

@[simp] theorem keyAnswer_keeps (p : Position) :
    (s.keyAnswer p).clk = s.clk ∧ (s.keyAnswer p).pending = s.pending ∧ (s.keyAnswer p).pbc = s.pbc ∧
      (s.keyAnswer p).pvt = s.pvt ∧ (s.keyAnswer p).est = s.est ∧ (s.keyAnswer p).htu = s.htu ∧
      (s.keyAnswer p).sps.map = s.sps.map ∧ (s.keyAnswer p).sps.sending = s.sps.sending ∧
      (s.keyAnswer p).sps.junctors = s.sps.junctors ∧ (s.keyAnswer p).sps.freeOrder = s.sps.freeOrder ∧
      (s.keyAnswer p).sps.holdoffOrder = s.sps.holdoffOrder ∧ (s.keyAnswer p).lsi.trunks = s.lsi.trunks ∧
      (s.keyAnswer p).lsi.positions = s.lsi.positions ∧ (s.keyAnswer p).lsi.scanErrors = s.lsi.scanErrors ∧
      (s.keyAnswer p).lsi.scanOpen = s.lsi.scanOpen ∧ (s.keyAnswer p).mpi.mode = s.mpi.mode ∧
      (s.keyAnswer p).mpi.station = s.mpi.station ∧ (s.keyAnswer p).mpi.image = s.mpi.image ∧
      (s.keyAnswer p).mpi.pointer = s.mpi.pointer ∧ (s.keyAnswer p).mpi.attn = s.mpi.attn ∧
      (s.keyAnswer p).mpi.response = s.mpi.response ∧ (s.keyAnswer p).mpi.fifo = s.mpi.fifo ∧
      (s.keyAnswer p).mpi.lostReports = s.mpi.lostReports := by
  unfold keyAnswer
  split <;> simp

@[simp] theorem releaseCall_keeps (p : Position) (t : Trunk) :
    (s.releaseCall p t).clk = s.clk ∧ (s.releaseCall p t).pending = s.pending ∧ (s.releaseCall p t).pbc = s.pbc ∧
      (s.releaseCall p t).pvt = s.pvt ∧ (s.releaseCall p t).plc = s.plc ∧ (s.releaseCall p t).sps.map = s.sps.map ∧
      (s.releaseCall p t).sps.sending = s.sps.sending ∧ (s.releaseCall p t).sps.freeOrder = s.sps.freeOrder ∧
      (s.releaseCall p t).lsi.positions = s.lsi.positions ∧ (s.releaseCall p t).lsi.scanErrors = s.lsi.scanErrors ∧
      (s.releaseCall p t).lsi.scanOpen = s.lsi.scanOpen ∧ (s.releaseCall p t).mpi.mode = s.mpi.mode ∧
      (s.releaseCall p t).mpi.station = s.mpi.station ∧ (s.releaseCall p t).mpi.image = s.mpi.image ∧
      (s.releaseCall p t).mpi.pointer = s.mpi.pointer ∧ (s.releaseCall p t).mpi.attn = s.mpi.attn ∧
      (s.releaseCall p t).mpi.response = s.mpi.response := by
  unfold releaseCall
  split <;> simp

@[simp] theorem releaseByAgent_keeps (g : GuestNo) :
    (s.releaseByAgent g).clk = s.clk ∧ (s.releaseByAgent g).pending = s.pending ∧ (s.releaseByAgent g).pbc = s.pbc ∧
      (s.releaseByAgent g).pvt = s.pvt ∧ (s.releaseByAgent g).sps.map = s.sps.map ∧
      (s.releaseByAgent g).sps.sending = s.sps.sending ∧ (s.releaseByAgent g).sps.junctors = s.sps.junctors ∧
      (s.releaseByAgent g).sps.freeOrder = s.sps.freeOrder ∧
      (s.releaseByAgent g).sps.holdoffOrder = s.sps.holdoffOrder ∧ (s.releaseByAgent g).lsi.trunks = s.lsi.trunks ∧
      (s.releaseByAgent g).lsi.positions = s.lsi.positions ∧ (s.releaseByAgent g).lsi.scanErrors = s.lsi.scanErrors ∧
      (s.releaseByAgent g).lsi.scanOpen = s.lsi.scanOpen ∧ (s.releaseByAgent g).mpi.mode = s.mpi.mode ∧
      (s.releaseByAgent g).mpi.station = s.mpi.station ∧ (s.releaseByAgent g).mpi.image = s.mpi.image ∧
      (s.releaseByAgent g).mpi.pointer = s.mpi.pointer ∧ (s.releaseByAgent g).mpi.attn = s.mpi.attn ∧
      (s.releaseByAgent g).mpi.response = s.mpi.response := by
  unfold releaseByAgent
  split <;> simp

@[simp] theorem keyRelease_keeps (p : Position) :
    (s.keyRelease p).clk = s.clk ∧ (s.keyRelease p).pending = s.pending ∧ (s.keyRelease p).pbc = s.pbc ∧
      (s.keyRelease p).pvt = s.pvt ∧ (s.keyRelease p).sps.map = s.sps.map ∧ (s.keyRelease p).sps.sending = s.sps.sending ∧
      (s.keyRelease p).sps.freeOrder = s.sps.freeOrder ∧ (s.keyRelease p).lsi.positions = s.lsi.positions ∧
      (s.keyRelease p).lsi.scanErrors = s.lsi.scanErrors ∧ (s.keyRelease p).lsi.scanOpen = s.lsi.scanOpen ∧
      (s.keyRelease p).mpi.mode = s.mpi.mode ∧ (s.keyRelease p).mpi.station = s.mpi.station ∧
      (s.keyRelease p).mpi.image = s.mpi.image ∧ (s.keyRelease p).mpi.pointer = s.mpi.pointer ∧
      (s.keyRelease p).mpi.attn = s.mpi.attn ∧ (s.keyRelease p).mpi.response = s.mpi.response := by
  unfold keyRelease
  split <;> simp

@[simp] theorem keyMoreTime_keeps (p : Position) :
    (s.keyMoreTime p).clk = s.clk ∧ (s.keyMoreTime p).pending = s.pending ∧ (s.keyMoreTime p).pbc = s.pbc ∧
      (s.keyMoreTime p).pvt = s.pvt ∧ (s.keyMoreTime p).est = s.est ∧ (s.keyMoreTime p).htu = s.htu ∧
      (s.keyMoreTime p).plc = s.plc ∧ (s.keyMoreTime p).ofu = s.ofu ∧ (s.keyMoreTime p).cqm = s.cqm ∧
      (s.keyMoreTime p).sps.map = s.sps.map ∧ (s.keyMoreTime p).sps.sending = s.sps.sending ∧
      (s.keyMoreTime p).sps.junctors = s.sps.junctors ∧ (s.keyMoreTime p).sps.freeOrder = s.sps.freeOrder ∧
      (s.keyMoreTime p).sps.holdoffOrder = s.sps.holdoffOrder ∧ (s.keyMoreTime p).lsi.trunks = s.lsi.trunks ∧
      (s.keyMoreTime p).lsi.positions = s.lsi.positions ∧ (s.keyMoreTime p).lsi.scanErrors = s.lsi.scanErrors ∧
      (s.keyMoreTime p).lsi.scanOpen = s.lsi.scanOpen ∧ (s.keyMoreTime p).mpi.mode = s.mpi.mode ∧
      (s.keyMoreTime p).mpi.station = s.mpi.station ∧ (s.keyMoreTime p).mpi.image = s.mpi.image ∧
      (s.keyMoreTime p).mpi.pointer = s.mpi.pointer ∧ (s.keyMoreTime p).mpi.attn = s.mpi.attn ∧
      (s.keyMoreTime p).mpi.response = s.mpi.response ∧ (s.keyMoreTime p).mpi.fifo = s.mpi.fifo ∧
      (s.keyMoreTime p).mpi.lostReports = s.mpi.lostReports := by
  unfold keyMoreTime
  simp only
  (repeat' split) <;> simp

@[simp] theorem bounceGuest_keeps (g : GuestNo) (c : BounceCause) :
    (s.bounceGuest g c).clk = s.clk ∧ (s.bounceGuest g c).pending = s.pending ∧ (s.bounceGuest g c).pbc = s.pbc ∧
      (s.bounceGuest g c).pvt = s.pvt ∧ (s.bounceGuest g c).est = s.est ∧ (s.bounceGuest g c).htu = s.htu ∧
      (s.bounceGuest g c).cqm = s.cqm ∧ (s.bounceGuest g c).dsu = s.dsu ∧ (s.bounceGuest g c).sps.map = s.sps.map ∧
      (s.bounceGuest g c).sps.sending = s.sps.sending ∧ (s.bounceGuest g c).sps.junctors = s.sps.junctors ∧
      (s.bounceGuest g c).sps.freeOrder = s.sps.freeOrder ∧ (s.bounceGuest g c).sps.holdoffOrder = s.sps.holdoffOrder ∧
      (s.bounceGuest g c).lsi.trunks = s.lsi.trunks ∧ (s.bounceGuest g c).lsi.positions = s.lsi.positions ∧
      (s.bounceGuest g c).lsi.orders = s.lsi.orders ∧ (s.bounceGuest g c).lsi.orderLosses = s.lsi.orderLosses ∧
      (s.bounceGuest g c).lsi.scanErrors = s.lsi.scanErrors ∧ (s.bounceGuest g c).lsi.scanOpen = s.lsi.scanOpen ∧
      (s.bounceGuest g c).mpi.mode = s.mpi.mode ∧ (s.bounceGuest g c).mpi.station = s.mpi.station ∧
      (s.bounceGuest g c).mpi.image = s.mpi.image ∧ (s.bounceGuest g c).mpi.pointer = s.mpi.pointer ∧
      (s.bounceGuest g c).mpi.attn = s.mpi.attn ∧ (s.bounceGuest g c).mpi.response = s.mpi.response ∧
      (s.bounceGuest g c).mpi.fifo = s.mpi.fifo ∧ (s.bounceGuest g c).mpi.lostReports = s.mpi.lostReports := by
  unfold bounceGuest
  split <;> simp

@[simp] theorem giveUp_keeps (before : State) (p : Position) (b : Bound) (c : AgentCause) (e : BounceCause) :
    (s.giveUp before p b c e).clk = s.clk ∧ (s.giveUp before p b c e).pending = s.pending ∧
      (s.giveUp before p b c e).pbc = s.pbc ∧ (s.giveUp before p b c e).pvt = s.pvt ∧
      (s.giveUp before p b c e).est = s.est ∧ (s.giveUp before p b c e).sps.map = s.sps.map ∧
      (s.giveUp before p b c e).sps.sending = s.sps.sending ∧
      (s.giveUp before p b c e).sps.freeOrder = s.sps.freeOrder ∧ (s.giveUp before p b c e).lsi.trunks = s.lsi.trunks ∧
      (s.giveUp before p b c e).lsi.positions = s.lsi.positions ∧
      (s.giveUp before p b c e).lsi.scanErrors = s.lsi.scanErrors ∧
      (s.giveUp before p b c e).lsi.scanOpen = s.lsi.scanOpen ∧ (s.giveUp before p b c e).mpi.mode = s.mpi.mode ∧
      (s.giveUp before p b c e).mpi.station = s.mpi.station ∧ (s.giveUp before p b c e).mpi.image = s.mpi.image ∧
      (s.giveUp before p b c e).mpi.pointer = s.mpi.pointer ∧ (s.giveUp before p b c e).mpi.attn = s.mpi.attn ∧
      (s.giveUp before p b c e).mpi.response = s.mpi.response := by
  unfold giveUp
  simp only
  (repeat' split) <;> simp

@[simp] theorem headsetLoss_keeps (before : State) (p : Position) :
    (s.headsetLoss before p).clk = s.clk ∧ (s.headsetLoss before p).pending = s.pending ∧
      (s.headsetLoss before p).pbc = s.pbc ∧ (s.headsetLoss before p).pvt = s.pvt ∧
      (s.headsetLoss before p).est = s.est ∧ (s.headsetLoss before p).sps.map = s.sps.map ∧
      (s.headsetLoss before p).sps.sending = s.sps.sending ∧ (s.headsetLoss before p).sps.freeOrder = s.sps.freeOrder ∧
      (s.headsetLoss before p).lsi.trunks = s.lsi.trunks ∧ (s.headsetLoss before p).lsi.positions = s.lsi.positions ∧
      (s.headsetLoss before p).lsi.scanErrors = s.lsi.scanErrors ∧
      (s.headsetLoss before p).lsi.scanOpen = s.lsi.scanOpen ∧ (s.headsetLoss before p).mpi.mode = s.mpi.mode ∧
      (s.headsetLoss before p).mpi.station = s.mpi.station ∧ (s.headsetLoss before p).mpi.image = s.mpi.image ∧
      (s.headsetLoss before p).mpi.pointer = s.mpi.pointer ∧ (s.headsetLoss before p).mpi.attn = s.mpi.attn ∧
      (s.headsetLoss before p).mpi.response = s.mpi.response := by
  unfold headsetLoss
  simp only
  (repeat' split) <;> simp

@[simp] theorem ringExpiry_keeps (p : Position) :
    (s.ringExpiry p).clk = s.clk ∧ (s.ringExpiry p).pending = s.pending ∧ (s.ringExpiry p).pbc = s.pbc ∧
      (s.ringExpiry p).pvt = s.pvt ∧ (s.ringExpiry p).est = s.est ∧ (s.ringExpiry p).sps.map = s.sps.map ∧
      (s.ringExpiry p).sps.sending = s.sps.sending ∧ (s.ringExpiry p).sps.freeOrder = s.sps.freeOrder ∧
      (s.ringExpiry p).lsi.trunks = s.lsi.trunks ∧ (s.ringExpiry p).lsi.positions = s.lsi.positions ∧
      (s.ringExpiry p).lsi.scanErrors = s.lsi.scanErrors ∧ (s.ringExpiry p).lsi.scanOpen = s.lsi.scanOpen ∧
      (s.ringExpiry p).mpi.mode = s.mpi.mode ∧ (s.ringExpiry p).mpi.station = s.mpi.station ∧
      (s.ringExpiry p).mpi.image = s.mpi.image ∧ (s.ringExpiry p).mpi.pointer = s.mpi.pointer ∧
      (s.ringExpiry p).mpi.attn = s.mpi.attn ∧ (s.ringExpiry p).mpi.response = s.mpi.response := by
  unfold ringExpiry
  split <;> simp

@[simp] theorem readyAtMin_keeps (p : Position) :
    (s.readyAtMin p).clk = s.clk ∧ (s.readyAtMin p).pending = s.pending ∧ (s.readyAtMin p).pbc = s.pbc ∧
      (s.readyAtMin p).pvt = s.pvt ∧ (s.readyAtMin p).plc = s.plc ∧ (s.readyAtMin p).ofu = s.ofu ∧
      (s.readyAtMin p).sps.map = s.sps.map ∧ (s.readyAtMin p).sps.sending = s.sps.sending ∧
      (s.readyAtMin p).sps.junctors = s.sps.junctors ∧ (s.readyAtMin p).sps.freeOrder = s.sps.freeOrder ∧
      (s.readyAtMin p).sps.holdoffOrder = s.sps.holdoffOrder ∧ (s.readyAtMin p).lsi.trunks = s.lsi.trunks ∧
      (s.readyAtMin p).lsi.positions = s.lsi.positions ∧ (s.readyAtMin p).lsi.scanErrors = s.lsi.scanErrors ∧
      (s.readyAtMin p).lsi.scanOpen = s.lsi.scanOpen ∧ (s.readyAtMin p).mpi.mode = s.mpi.mode ∧
      (s.readyAtMin p).mpi.station = s.mpi.station ∧ (s.readyAtMin p).mpi.image = s.mpi.image ∧
      (s.readyAtMin p).mpi.pointer = s.mpi.pointer ∧ (s.readyAtMin p).mpi.attn = s.mpi.attn ∧
      (s.readyAtMin p).mpi.response = s.mpi.response := by
  unfold readyAtMin
  split <;> simp

@[simp] theorem wrapExpiry_keeps (p : Position) :
    (s.wrapExpiry p).clk = s.clk ∧ (s.wrapExpiry p).pending = s.pending ∧ (s.wrapExpiry p).pbc = s.pbc ∧
      (s.wrapExpiry p).pvt = s.pvt ∧ (s.wrapExpiry p).plc = s.plc ∧ (s.wrapExpiry p).ofu = s.ofu ∧
      (s.wrapExpiry p).sps.map = s.sps.map ∧ (s.wrapExpiry p).sps.sending = s.sps.sending ∧
      (s.wrapExpiry p).sps.junctors = s.sps.junctors ∧ (s.wrapExpiry p).sps.freeOrder = s.sps.freeOrder ∧
      (s.wrapExpiry p).sps.holdoffOrder = s.sps.holdoffOrder ∧ (s.wrapExpiry p).lsi.trunks = s.lsi.trunks ∧
      (s.wrapExpiry p).lsi.positions = s.lsi.positions ∧ (s.wrapExpiry p).lsi.scanErrors = s.lsi.scanErrors ∧
      (s.wrapExpiry p).lsi.scanOpen = s.lsi.scanOpen ∧ (s.wrapExpiry p).mpi.mode = s.mpi.mode ∧
      (s.wrapExpiry p).mpi.station = s.mpi.station ∧ (s.wrapExpiry p).mpi.image = s.mpi.image ∧
      (s.wrapExpiry p).mpi.pointer = s.mpi.pointer ∧ (s.wrapExpiry p).mpi.attn = s.mpi.attn ∧
      (s.wrapExpiry p).mpi.response = s.mpi.response := by
  unfold wrapExpiry
  split <;> simp

end Sys2Proof.Machine.State
end

