-- ==== Sys2Proof/Laws/Playback.lean ====
section
/-! SUPPORT. What each operation of Playback.lean keeps: every piece of State that it does not write. -/

namespace Sys2Proof.Machine.State

variable (s : State)

@[simp] theorem loadChannel_keeps (c : Channel) (k : Clip) :
    (s.loadChannel c k).clk = s.clk ∧ (s.loadChannel c k).pending = s.pending ∧ (s.loadChannel c k).pvt = s.pvt ∧
      (s.loadChannel c k).est = s.est ∧ (s.loadChannel c k).htu = s.htu ∧ (s.loadChannel c k).plc = s.plc ∧
      (s.loadChannel c k).ofu = s.ofu ∧ (s.loadChannel c k).cqm = s.cqm ∧ (s.loadChannel c k).dsu = s.dsu ∧
      (s.loadChannel c k).sps.map = s.sps.map ∧ (s.loadChannel c k).sps.sending = s.sps.sending ∧
      (s.loadChannel c k).sps.junctors = s.sps.junctors ∧ (s.loadChannel c k).sps.freeOrder = s.sps.freeOrder ∧
      (s.loadChannel c k).sps.holdoffOrder = s.sps.holdoffOrder ∧ (s.loadChannel c k).lsi.trunks = s.lsi.trunks ∧
      (s.loadChannel c k).lsi.positions = s.lsi.positions ∧ (s.loadChannel c k).lsi.orders = s.lsi.orders ∧
      (s.loadChannel c k).lsi.orderLosses = s.lsi.orderLosses ∧ (s.loadChannel c k).lsi.scanErrors = s.lsi.scanErrors ∧
      (s.loadChannel c k).lsi.scanOpen = s.lsi.scanOpen ∧ (s.loadChannel c k).mpi.mode = s.mpi.mode ∧
      (s.loadChannel c k).mpi.station = s.mpi.station ∧ (s.loadChannel c k).mpi.image = s.mpi.image ∧
      (s.loadChannel c k).mpi.pointer = s.mpi.pointer ∧ (s.loadChannel c k).mpi.attn = s.mpi.attn ∧
      (s.loadChannel c k).mpi.response = s.mpi.response ∧ (s.loadChannel c k).mpi.fifo = s.mpi.fifo ∧
      (s.loadChannel c k).mpi.lostReports = s.mpi.lostReports := by
  simp [loadChannel]

@[simp] theorem grant_keeps :
    (s.grant).clk = s.clk ∧ (s.grant).pending = s.pending ∧ (s.grant).pvt = s.pvt ∧ (s.grant).est = s.est ∧
      (s.grant).htu = s.htu ∧ (s.grant).plc = s.plc ∧ (s.grant).ofu = s.ofu ∧ (s.grant).cqm = s.cqm ∧
      (s.grant).dsu = s.dsu ∧ (s.grant).sps.map = s.sps.map ∧ (s.grant).sps.sending = s.sps.sending ∧
      (s.grant).sps.junctors = s.sps.junctors ∧ (s.grant).sps.freeOrder = s.sps.freeOrder ∧
      (s.grant).sps.holdoffOrder = s.sps.holdoffOrder ∧ (s.grant).lsi.trunks = s.lsi.trunks ∧
      (s.grant).lsi.positions = s.lsi.positions ∧ (s.grant).lsi.orders = s.lsi.orders ∧
      (s.grant).lsi.orderLosses = s.lsi.orderLosses ∧ (s.grant).lsi.scanErrors = s.lsi.scanErrors ∧
      (s.grant).lsi.scanOpen = s.lsi.scanOpen ∧ (s.grant).mpi.mode = s.mpi.mode ∧
      (s.grant).mpi.station = s.mpi.station ∧ (s.grant).mpi.image = s.mpi.image ∧
      (s.grant).mpi.pointer = s.mpi.pointer ∧ (s.grant).mpi.attn = s.mpi.attn ∧
      (s.grant).mpi.response = s.mpi.response ∧ (s.grant).mpi.fifo = s.mpi.fifo ∧
      (s.grant).mpi.lostReports = s.mpi.lostReports := by
  unfold grant
  split
  · simp
  · split
    · simp
    · simp only
      split <;> simp

@[simp] theorem storeFault_keeps (c : Channel) (k : Clip) (e : StoreFaultCause) :
    (s.storeFault c k e).clk = s.clk ∧ (s.storeFault c k e).pending = s.pending ∧ (s.storeFault c k e).pvt = s.pvt ∧
      (s.storeFault c k e).est = s.est ∧ (s.storeFault c k e).htu = s.htu ∧ (s.storeFault c k e).plc = s.plc ∧
      (s.storeFault c k e).ofu = s.ofu ∧ (s.storeFault c k e).cqm = s.cqm ∧ (s.storeFault c k e).dsu = s.dsu ∧
      (s.storeFault c k e).sps.map = s.sps.map ∧ (s.storeFault c k e).sps.sending = s.sps.sending ∧
      (s.storeFault c k e).sps.junctors = s.sps.junctors ∧ (s.storeFault c k e).sps.freeOrder = s.sps.freeOrder ∧
      (s.storeFault c k e).sps.holdoffOrder = s.sps.holdoffOrder ∧ (s.storeFault c k e).lsi.trunks = s.lsi.trunks ∧
      (s.storeFault c k e).lsi.positions = s.lsi.positions ∧ (s.storeFault c k e).lsi.orders = s.lsi.orders ∧
      (s.storeFault c k e).lsi.orderLosses = s.lsi.orderLosses ∧
      (s.storeFault c k e).lsi.scanErrors = s.lsi.scanErrors ∧ (s.storeFault c k e).lsi.scanOpen = s.lsi.scanOpen ∧
      (s.storeFault c k e).mpi.mode = s.mpi.mode ∧ (s.storeFault c k e).mpi.station = s.mpi.station ∧
      (s.storeFault c k e).mpi.image = s.mpi.image ∧ (s.storeFault c k e).mpi.pointer = s.mpi.pointer ∧
      (s.storeFault c k e).mpi.attn = s.mpi.attn ∧ (s.storeFault c k e).mpi.response = s.mpi.response := by
  simp [storeFault]

@[simp] theorem dropEntries_keeps (k : Clip) :
    (s.dropEntries k).clk = s.clk ∧ (s.dropEntries k).pending = s.pending ∧ (s.dropEntries k).pbc = s.pbc ∧
      (s.dropEntries k).pvt = s.pvt ∧ (s.dropEntries k).est = s.est ∧ (s.dropEntries k).plc = s.plc ∧
      (s.dropEntries k).ofu = s.ofu ∧ (s.dropEntries k).cqm = s.cqm ∧ (s.dropEntries k).dsu = s.dsu ∧
      (s.dropEntries k).sps.map = s.sps.map ∧ (s.dropEntries k).sps.sending = s.sps.sending ∧
      (s.dropEntries k).sps.junctors = s.sps.junctors ∧ (s.dropEntries k).sps.freeOrder = s.sps.freeOrder ∧
      (s.dropEntries k).sps.holdoffOrder = s.sps.holdoffOrder ∧ (s.dropEntries k).lsi.trunks = s.lsi.trunks ∧
      (s.dropEntries k).lsi.positions = s.lsi.positions ∧ (s.dropEntries k).lsi.orders = s.lsi.orders ∧
      (s.dropEntries k).lsi.orderLosses = s.lsi.orderLosses ∧ (s.dropEntries k).lsi.scanErrors = s.lsi.scanErrors ∧
      (s.dropEntries k).lsi.scanOpen = s.lsi.scanOpen ∧ (s.dropEntries k).mpi.mode = s.mpi.mode ∧
      (s.dropEntries k).mpi.station = s.mpi.station ∧ (s.dropEntries k).mpi.image = s.mpi.image ∧
      (s.dropEntries k).mpi.pointer = s.mpi.pointer ∧ (s.dropEntries k).mpi.attn = s.mpi.attn ∧
      (s.dropEntries k).mpi.response = s.mpi.response ∧ (s.dropEntries k).mpi.fifo = s.mpi.fifo ∧
      (s.dropEntries k).mpi.lostReports = s.mpi.lostReports := by
  simp [dropEntries]

@[simp] theorem modifyCalls_keeps (f : State → CallBody → CallBody) (l : List Trunk) :
    (l.foldl (fun u t => u.modifyCall t (f u)) s).clk = s.clk ∧
      (l.foldl (fun u t => u.modifyCall t (f u)) s).pending = s.pending ∧
      (l.foldl (fun u t => u.modifyCall t (f u)) s).pbc = s.pbc ∧
      (l.foldl (fun u t => u.modifyCall t (f u)) s).pvt = s.pvt ∧
      (l.foldl (fun u t => u.modifyCall t (f u)) s).est = s.est ∧
      (l.foldl (fun u t => u.modifyCall t (f u)) s).htu = s.htu ∧
      (l.foldl (fun u t => u.modifyCall t (f u)) s).plc = s.plc ∧
      (l.foldl (fun u t => u.modifyCall t (f u)) s).ofu = s.ofu ∧
      (l.foldl (fun u t => u.modifyCall t (f u)) s).dsu = s.dsu ∧
      (l.foldl (fun u t => u.modifyCall t (f u)) s).sps.map = s.sps.map ∧
      (l.foldl (fun u t => u.modifyCall t (f u)) s).sps.sending = s.sps.sending ∧
      (l.foldl (fun u t => u.modifyCall t (f u)) s).sps.junctors = s.sps.junctors ∧
      (l.foldl (fun u t => u.modifyCall t (f u)) s).sps.freeOrder = s.sps.freeOrder ∧
      (l.foldl (fun u t => u.modifyCall t (f u)) s).sps.holdoffOrder = s.sps.holdoffOrder ∧
      (l.foldl (fun u t => u.modifyCall t (f u)) s).lsi.trunks = s.lsi.trunks ∧
      (l.foldl (fun u t => u.modifyCall t (f u)) s).lsi.positions = s.lsi.positions ∧
      (l.foldl (fun u t => u.modifyCall t (f u)) s).lsi.orders = s.lsi.orders ∧
      (l.foldl (fun u t => u.modifyCall t (f u)) s).lsi.orderLosses = s.lsi.orderLosses ∧
      (l.foldl (fun u t => u.modifyCall t (f u)) s).lsi.scanErrors = s.lsi.scanErrors ∧
      (l.foldl (fun u t => u.modifyCall t (f u)) s).lsi.scanOpen = s.lsi.scanOpen ∧
      (l.foldl (fun u t => u.modifyCall t (f u)) s).mpi.mode = s.mpi.mode ∧
      (l.foldl (fun u t => u.modifyCall t (f u)) s).mpi.station = s.mpi.station ∧
      (l.foldl (fun u t => u.modifyCall t (f u)) s).mpi.image = s.mpi.image ∧
      (l.foldl (fun u t => u.modifyCall t (f u)) s).mpi.pointer = s.mpi.pointer ∧
      (l.foldl (fun u t => u.modifyCall t (f u)) s).mpi.attn = s.mpi.attn ∧
      (l.foldl (fun u t => u.modifyCall t (f u)) s).mpi.response = s.mpi.response ∧
      (l.foldl (fun u t => u.modifyCall t (f u)) s).mpi.fifo = s.mpi.fifo ∧
      (l.foldl (fun u t => u.modifyCall t (f u)) s).mpi.lostReports = s.mpi.lostReports := by
  induction l generalizing s with
  | nil => simp
  | cons b l ih => simpa using ih (s.modifyCall b (f s))

@[simp] theorem refuseClip_keeps (k : Clip) :
    (s.refuseClip k).clk = s.clk ∧ (s.refuseClip k).pending = s.pending ∧ (s.refuseClip k).pbc = s.pbc ∧
      (s.refuseClip k).pvt = s.pvt ∧ (s.refuseClip k).est = s.est ∧ (s.refuseClip k).plc = s.plc ∧
      (s.refuseClip k).ofu = s.ofu ∧ (s.refuseClip k).dsu = s.dsu ∧ (s.refuseClip k).sps.map = s.sps.map ∧
      (s.refuseClip k).sps.sending = s.sps.sending ∧ (s.refuseClip k).sps.junctors = s.sps.junctors ∧
      (s.refuseClip k).sps.freeOrder = s.sps.freeOrder ∧ (s.refuseClip k).sps.holdoffOrder = s.sps.holdoffOrder ∧
      (s.refuseClip k).lsi.trunks = s.lsi.trunks ∧ (s.refuseClip k).lsi.positions = s.lsi.positions ∧
      (s.refuseClip k).lsi.orders = s.lsi.orders ∧ (s.refuseClip k).lsi.orderLosses = s.lsi.orderLosses ∧
      (s.refuseClip k).lsi.scanErrors = s.lsi.scanErrors ∧ (s.refuseClip k).lsi.scanOpen = s.lsi.scanOpen ∧
      (s.refuseClip k).mpi.mode = s.mpi.mode ∧ (s.refuseClip k).mpi.station = s.mpi.station ∧
      (s.refuseClip k).mpi.image = s.mpi.image ∧ (s.refuseClip k).mpi.pointer = s.mpi.pointer ∧
      (s.refuseClip k).mpi.attn = s.mpi.attn ∧ (s.refuseClip k).mpi.response = s.mpi.response ∧
      (s.refuseClip k).mpi.fifo = s.mpi.fifo ∧ (s.refuseClip k).mpi.lostReports = s.mpi.lostReports := by
  unfold refuseClip
  simp [modifyCalls_keeps (s.dropEntries k) fun u b => { b with waiting := false, nextDue := u.freshDue b.queue }]

@[simp] theorem closeGate_keeps (c : Channel) (k : Clip) :
    (s.closeGate c k).clk = s.clk ∧ (s.closeGate c k).pending = s.pending ∧ (s.closeGate c k).pbc = s.pbc ∧
      (s.closeGate c k).pvt = s.pvt ∧ (s.closeGate c k).est = s.est ∧ (s.closeGate c k).plc = s.plc ∧
      (s.closeGate c k).ofu = s.ofu ∧ (s.closeGate c k).dsu = s.dsu ∧ (s.closeGate c k).sps.map = s.sps.map ∧
      (s.closeGate c k).sps.sending = s.sps.sending ∧ (s.closeGate c k).sps.junctors = s.sps.junctors ∧
      (s.closeGate c k).sps.freeOrder = s.sps.freeOrder ∧ (s.closeGate c k).sps.holdoffOrder = s.sps.holdoffOrder ∧
      (s.closeGate c k).lsi.trunks = s.lsi.trunks ∧ (s.closeGate c k).lsi.positions = s.lsi.positions ∧
      (s.closeGate c k).lsi.orders = s.lsi.orders ∧ (s.closeGate c k).lsi.orderLosses = s.lsi.orderLosses ∧
      (s.closeGate c k).lsi.scanErrors = s.lsi.scanErrors ∧ (s.closeGate c k).lsi.scanOpen = s.lsi.scanOpen ∧
      (s.closeGate c k).mpi.mode = s.mpi.mode ∧ (s.closeGate c k).mpi.station = s.mpi.station ∧
      (s.closeGate c k).mpi.image = s.mpi.image ∧ (s.closeGate c k).mpi.pointer = s.mpi.pointer ∧
      (s.closeGate c k).mpi.attn = s.mpi.attn ∧ (s.closeGate c k).mpi.response = s.mpi.response ∧
      (s.closeGate c k).mpi.fifo = s.mpi.fifo ∧ (s.closeGate c k).mpi.lostReports = s.mpi.lostReports := by
  unfold closeGate
  simp [modifyCalls_keeps (s.dropEntries k) fun _ b => { b with waiting := false, source := some c }]

@[simp] theorem startAnnouncement_keeps (c : Channel) (k : Clip) :
    (s.startAnnouncement c k).clk = s.clk ∧ (s.startAnnouncement c k).pending = s.pending ∧
      (s.startAnnouncement c k).pvt = s.pvt ∧ (s.startAnnouncement c k).est = s.est ∧
      (s.startAnnouncement c k).plc = s.plc ∧ (s.startAnnouncement c k).ofu = s.ofu ∧
      (s.startAnnouncement c k).dsu = s.dsu ∧ (s.startAnnouncement c k).sps.map = s.sps.map ∧
      (s.startAnnouncement c k).sps.sending = s.sps.sending ∧ (s.startAnnouncement c k).sps.junctors = s.sps.junctors ∧
      (s.startAnnouncement c k).sps.freeOrder = s.sps.freeOrder ∧
      (s.startAnnouncement c k).sps.holdoffOrder = s.sps.holdoffOrder ∧
      (s.startAnnouncement c k).lsi.trunks = s.lsi.trunks ∧ (s.startAnnouncement c k).lsi.positions = s.lsi.positions ∧
      (s.startAnnouncement c k).lsi.orders = s.lsi.orders ∧
      (s.startAnnouncement c k).lsi.orderLosses = s.lsi.orderLosses ∧
      (s.startAnnouncement c k).lsi.scanErrors = s.lsi.scanErrors ∧
      (s.startAnnouncement c k).lsi.scanOpen = s.lsi.scanOpen ∧ (s.startAnnouncement c k).mpi.mode = s.mpi.mode ∧
      (s.startAnnouncement c k).mpi.station = s.mpi.station ∧ (s.startAnnouncement c k).mpi.image = s.mpi.image ∧
      (s.startAnnouncement c k).mpi.pointer = s.mpi.pointer ∧ (s.startAnnouncement c k).mpi.attn = s.mpi.attn ∧
      (s.startAnnouncement c k).mpi.response = s.mpi.response := by
  unfold startAnnouncement
  split <;> simp

@[simp] theorem startCheck_keeps (n : Nat) :
    (startCheck n s).clk = s.clk ∧ (startCheck n s).pending = s.pending ∧ (startCheck n s).pvt = s.pvt ∧
      (startCheck n s).est = s.est ∧ (startCheck n s).plc = s.plc ∧ (startCheck n s).ofu = s.ofu ∧
      (startCheck n s).dsu = s.dsu ∧ (startCheck n s).sps.map = s.sps.map ∧ (startCheck n s).sps.sending = s.sps.sending ∧
      (startCheck n s).sps.junctors = s.sps.junctors ∧ (startCheck n s).sps.freeOrder = s.sps.freeOrder ∧
      (startCheck n s).sps.holdoffOrder = s.sps.holdoffOrder ∧ (startCheck n s).lsi.trunks = s.lsi.trunks ∧
      (startCheck n s).lsi.positions = s.lsi.positions ∧ (startCheck n s).lsi.orders = s.lsi.orders ∧
      (startCheck n s).lsi.orderLosses = s.lsi.orderLosses ∧ (startCheck n s).lsi.scanErrors = s.lsi.scanErrors ∧
      (startCheck n s).lsi.scanOpen = s.lsi.scanOpen ∧ (startCheck n s).mpi.mode = s.mpi.mode ∧
      (startCheck n s).mpi.station = s.mpi.station ∧ (startCheck n s).mpi.image = s.mpi.image ∧
      (startCheck n s).mpi.pointer = s.mpi.pointer ∧ (startCheck n s).mpi.attn = s.mpi.attn ∧
      (startCheck n s).mpi.response = s.mpi.response := by
  induction n generalizing s with
  | zero => simp [startCheck]
  | succ n ih =>
    unfold startCheck
    split
    · simp [ih]
    · simp

@[simp] theorem returnListener_keeps (c : Channel) (t : Trunk) :
    (s.returnListener c t).clk = s.clk ∧ (s.returnListener c t).pending = s.pending ∧
      (s.returnListener c t).pbc = s.pbc ∧ (s.returnListener c t).pvt = s.pvt ∧ (s.returnListener c t).est = s.est ∧
      (s.returnListener c t).htu = s.htu ∧ (s.returnListener c t).plc = s.plc ∧ (s.returnListener c t).ofu = s.ofu ∧
      (s.returnListener c t).dsu = s.dsu ∧ (s.returnListener c t).sps.map = s.sps.map ∧
      (s.returnListener c t).sps.sending = s.sps.sending ∧ (s.returnListener c t).sps.junctors = s.sps.junctors ∧
      (s.returnListener c t).sps.freeOrder = s.sps.freeOrder ∧
      (s.returnListener c t).sps.holdoffOrder = s.sps.holdoffOrder ∧ (s.returnListener c t).lsi.trunks = s.lsi.trunks ∧
      (s.returnListener c t).lsi.positions = s.lsi.positions ∧ (s.returnListener c t).lsi.orders = s.lsi.orders ∧
      (s.returnListener c t).lsi.orderLosses = s.lsi.orderLosses ∧
      (s.returnListener c t).lsi.scanErrors = s.lsi.scanErrors ∧ (s.returnListener c t).lsi.scanOpen = s.lsi.scanOpen ∧
      (s.returnListener c t).mpi.mode = s.mpi.mode ∧ (s.returnListener c t).mpi.station = s.mpi.station ∧
      (s.returnListener c t).mpi.image = s.mpi.image ∧ (s.returnListener c t).mpi.pointer = s.mpi.pointer ∧
      (s.returnListener c t).mpi.attn = s.mpi.attn ∧ (s.returnListener c t).mpi.response = s.mpi.response ∧
      (s.returnListener c t).mpi.fifo = s.mpi.fifo ∧ (s.returnListener c t).mpi.lostReports = s.mpi.lostReports := by
  unfold returnListener
  split
  · split <;> simp
  · simp

@[simp] theorem returnListeners_keeps (c : Channel) (l : List Trunk) :
    (l.foldl (fun u t => u.returnListener c t) s).clk = s.clk ∧
      (l.foldl (fun u t => u.returnListener c t) s).pending = s.pending ∧
      (l.foldl (fun u t => u.returnListener c t) s).pbc = s.pbc ∧
      (l.foldl (fun u t => u.returnListener c t) s).pvt = s.pvt ∧
      (l.foldl (fun u t => u.returnListener c t) s).est = s.est ∧
      (l.foldl (fun u t => u.returnListener c t) s).htu = s.htu ∧
      (l.foldl (fun u t => u.returnListener c t) s).plc = s.plc ∧
      (l.foldl (fun u t => u.returnListener c t) s).ofu = s.ofu ∧
      (l.foldl (fun u t => u.returnListener c t) s).dsu = s.dsu ∧
      (l.foldl (fun u t => u.returnListener c t) s).sps.map = s.sps.map ∧
      (l.foldl (fun u t => u.returnListener c t) s).sps.sending = s.sps.sending ∧
      (l.foldl (fun u t => u.returnListener c t) s).sps.junctors = s.sps.junctors ∧
      (l.foldl (fun u t => u.returnListener c t) s).sps.freeOrder = s.sps.freeOrder ∧
      (l.foldl (fun u t => u.returnListener c t) s).sps.holdoffOrder = s.sps.holdoffOrder ∧
      (l.foldl (fun u t => u.returnListener c t) s).lsi.trunks = s.lsi.trunks ∧
      (l.foldl (fun u t => u.returnListener c t) s).lsi.positions = s.lsi.positions ∧
      (l.foldl (fun u t => u.returnListener c t) s).lsi.orders = s.lsi.orders ∧
      (l.foldl (fun u t => u.returnListener c t) s).lsi.orderLosses = s.lsi.orderLosses ∧
      (l.foldl (fun u t => u.returnListener c t) s).lsi.scanErrors = s.lsi.scanErrors ∧
      (l.foldl (fun u t => u.returnListener c t) s).lsi.scanOpen = s.lsi.scanOpen ∧
      (l.foldl (fun u t => u.returnListener c t) s).mpi.mode = s.mpi.mode ∧
      (l.foldl (fun u t => u.returnListener c t) s).mpi.station = s.mpi.station ∧
      (l.foldl (fun u t => u.returnListener c t) s).mpi.image = s.mpi.image ∧
      (l.foldl (fun u t => u.returnListener c t) s).mpi.pointer = s.mpi.pointer ∧
      (l.foldl (fun u t => u.returnListener c t) s).mpi.attn = s.mpi.attn ∧
      (l.foldl (fun u t => u.returnListener c t) s).mpi.response = s.mpi.response ∧
      (l.foldl (fun u t => u.returnListener c t) s).mpi.fifo = s.mpi.fifo ∧
      (l.foldl (fun u t => u.returnListener c t) s).mpi.lostReports = s.mpi.lostReports := by
  induction l generalizing s with
  | nil => simp
  | cons b l ih => simpa using ih (s.returnListener c b)

@[simp] theorem endAnnouncement_keeps (c : Channel) :
    (s.endAnnouncement c).clk = s.clk ∧ (s.endAnnouncement c).pending = s.pending ∧ (s.endAnnouncement c).pbc = s.pbc ∧
      (s.endAnnouncement c).pvt = s.pvt ∧ (s.endAnnouncement c).est = s.est ∧ (s.endAnnouncement c).htu = s.htu ∧
      (s.endAnnouncement c).plc = s.plc ∧ (s.endAnnouncement c).ofu = s.ofu ∧ (s.endAnnouncement c).dsu = s.dsu ∧
      (s.endAnnouncement c).sps.map = s.sps.map ∧ (s.endAnnouncement c).sps.sending = s.sps.sending ∧
      (s.endAnnouncement c).sps.junctors = s.sps.junctors ∧ (s.endAnnouncement c).sps.freeOrder = s.sps.freeOrder ∧
      (s.endAnnouncement c).sps.holdoffOrder = s.sps.holdoffOrder ∧ (s.endAnnouncement c).lsi.trunks = s.lsi.trunks ∧
      (s.endAnnouncement c).lsi.positions = s.lsi.positions ∧ (s.endAnnouncement c).lsi.orders = s.lsi.orders ∧
      (s.endAnnouncement c).lsi.orderLosses = s.lsi.orderLosses ∧
      (s.endAnnouncement c).lsi.scanErrors = s.lsi.scanErrors ∧ (s.endAnnouncement c).lsi.scanOpen = s.lsi.scanOpen ∧
      (s.endAnnouncement c).mpi.mode = s.mpi.mode ∧ (s.endAnnouncement c).mpi.station = s.mpi.station ∧
      (s.endAnnouncement c).mpi.image = s.mpi.image ∧ (s.endAnnouncement c).mpi.pointer = s.mpi.pointer ∧
      (s.endAnnouncement c).mpi.attn = s.mpi.attn ∧ (s.endAnnouncement c).mpi.response = s.mpi.response ∧
      (s.endAnnouncement c).mpi.fifo = s.mpi.fifo ∧ (s.endAnnouncement c).mpi.lostReports = s.mpi.lostReports := by
  simp [endAnnouncement]

@[simp] theorem takeUp_keeps (c : Channel) (t : Trunk) :
    (s.takeUp c t).clk = s.clk ∧ (s.takeUp c t).pending = s.pending ∧ (s.takeUp c t).pbc = s.pbc ∧
      (s.takeUp c t).pvt = s.pvt ∧ (s.takeUp c t).est = s.est ∧ (s.takeUp c t).plc = s.plc ∧
      (s.takeUp c t).ofu = s.ofu ∧ (s.takeUp c t).dsu = s.dsu ∧ (s.takeUp c t).sps.map = s.sps.map ∧
      (s.takeUp c t).sps.sending = s.sps.sending ∧ (s.takeUp c t).sps.junctors = s.sps.junctors ∧
      (s.takeUp c t).sps.freeOrder = s.sps.freeOrder ∧ (s.takeUp c t).sps.holdoffOrder = s.sps.holdoffOrder ∧
      (s.takeUp c t).lsi.trunks = s.lsi.trunks ∧ (s.takeUp c t).lsi.positions = s.lsi.positions ∧
      (s.takeUp c t).lsi.orders = s.lsi.orders ∧ (s.takeUp c t).lsi.orderLosses = s.lsi.orderLosses ∧
      (s.takeUp c t).lsi.scanErrors = s.lsi.scanErrors ∧ (s.takeUp c t).lsi.scanOpen = s.lsi.scanOpen ∧
      (s.takeUp c t).mpi.mode = s.mpi.mode ∧ (s.takeUp c t).mpi.station = s.mpi.station ∧
      (s.takeUp c t).mpi.image = s.mpi.image ∧ (s.takeUp c t).mpi.pointer = s.mpi.pointer ∧
      (s.takeUp c t).mpi.attn = s.mpi.attn ∧ (s.takeUp c t).mpi.response = s.mpi.response ∧
      (s.takeUp c t).mpi.fifo = s.mpi.fifo ∧ (s.takeUp c t).mpi.lostReports = s.mpi.lostReports := by
  unfold takeUp
  split
  · simp
  · split
    case h_1 | h_2 =>
      split
      · split <;> simp
      · simp
    all_goals simp

@[simp] theorem takeUps_keeps (c : Channel) (l : List Trunk) :
    (l.foldl (fun u t => u.takeUp c t) s).clk = s.clk ∧ (l.foldl (fun u t => u.takeUp c t) s).pending = s.pending ∧
      (l.foldl (fun u t => u.takeUp c t) s).pbc = s.pbc ∧ (l.foldl (fun u t => u.takeUp c t) s).pvt = s.pvt ∧
      (l.foldl (fun u t => u.takeUp c t) s).est = s.est ∧ (l.foldl (fun u t => u.takeUp c t) s).plc = s.plc ∧
      (l.foldl (fun u t => u.takeUp c t) s).ofu = s.ofu ∧ (l.foldl (fun u t => u.takeUp c t) s).dsu = s.dsu ∧
      (l.foldl (fun u t => u.takeUp c t) s).sps.map = s.sps.map ∧
      (l.foldl (fun u t => u.takeUp c t) s).sps.sending = s.sps.sending ∧
      (l.foldl (fun u t => u.takeUp c t) s).sps.junctors = s.sps.junctors ∧
      (l.foldl (fun u t => u.takeUp c t) s).sps.freeOrder = s.sps.freeOrder ∧
      (l.foldl (fun u t => u.takeUp c t) s).sps.holdoffOrder = s.sps.holdoffOrder ∧
      (l.foldl (fun u t => u.takeUp c t) s).lsi.trunks = s.lsi.trunks ∧
      (l.foldl (fun u t => u.takeUp c t) s).lsi.positions = s.lsi.positions ∧
      (l.foldl (fun u t => u.takeUp c t) s).lsi.orders = s.lsi.orders ∧
      (l.foldl (fun u t => u.takeUp c t) s).lsi.orderLosses = s.lsi.orderLosses ∧
      (l.foldl (fun u t => u.takeUp c t) s).lsi.scanErrors = s.lsi.scanErrors ∧
      (l.foldl (fun u t => u.takeUp c t) s).lsi.scanOpen = s.lsi.scanOpen ∧
      (l.foldl (fun u t => u.takeUp c t) s).mpi.mode = s.mpi.mode ∧
      (l.foldl (fun u t => u.takeUp c t) s).mpi.station = s.mpi.station ∧
      (l.foldl (fun u t => u.takeUp c t) s).mpi.image = s.mpi.image ∧
      (l.foldl (fun u t => u.takeUp c t) s).mpi.pointer = s.mpi.pointer ∧
      (l.foldl (fun u t => u.takeUp c t) s).mpi.attn = s.mpi.attn ∧
      (l.foldl (fun u t => u.takeUp c t) s).mpi.response = s.mpi.response ∧
      (l.foldl (fun u t => u.takeUp c t) s).mpi.fifo = s.mpi.fifo ∧
      (l.foldl (fun u t => u.takeUp c t) s).mpi.lostReports = s.mpi.lostReports := by
  induction l generalizing s with
  | nil => simp
  | cons b l ih => simpa using ih (s.takeUp c b)

@[simp] theorem segmentBoundary_keeps (c : Channel) :
    (s.segmentBoundary c).clk = s.clk ∧ (s.segmentBoundary c).pending = s.pending ∧ (s.segmentBoundary c).pbc = s.pbc ∧
      (s.segmentBoundary c).pvt = s.pvt ∧ (s.segmentBoundary c).est = s.est ∧ (s.segmentBoundary c).plc = s.plc ∧
      (s.segmentBoundary c).ofu = s.ofu ∧ (s.segmentBoundary c).dsu = s.dsu ∧
      (s.segmentBoundary c).sps.map = s.sps.map ∧ (s.segmentBoundary c).sps.sending = s.sps.sending ∧
      (s.segmentBoundary c).sps.junctors = s.sps.junctors ∧ (s.segmentBoundary c).sps.freeOrder = s.sps.freeOrder ∧
      (s.segmentBoundary c).sps.holdoffOrder = s.sps.holdoffOrder ∧ (s.segmentBoundary c).lsi.trunks = s.lsi.trunks ∧
      (s.segmentBoundary c).lsi.positions = s.lsi.positions ∧ (s.segmentBoundary c).lsi.orders = s.lsi.orders ∧
      (s.segmentBoundary c).lsi.orderLosses = s.lsi.orderLosses ∧
      (s.segmentBoundary c).lsi.scanErrors = s.lsi.scanErrors ∧ (s.segmentBoundary c).lsi.scanOpen = s.lsi.scanOpen ∧
      (s.segmentBoundary c).mpi.mode = s.mpi.mode ∧ (s.segmentBoundary c).mpi.station = s.mpi.station ∧
      (s.segmentBoundary c).mpi.image = s.mpi.image ∧ (s.segmentBoundary c).mpi.pointer = s.mpi.pointer ∧
      (s.segmentBoundary c).mpi.attn = s.mpi.attn ∧ (s.segmentBoundary c).mpi.response = s.mpi.response ∧
      (s.segmentBoundary c).mpi.fifo = s.mpi.fifo ∧ (s.segmentBoundary c).mpi.lostReports = s.mpi.lostReports := by
  simp [segmentBoundary]

@[simp] theorem channelBoundary_keeps (c : Channel) :
    ((s.channelBoundary c).1).clk = s.clk ∧ ((s.channelBoundary c).1).pending = s.pending ∧
      ((s.channelBoundary c).1).pvt = s.pvt ∧ ((s.channelBoundary c).1).est = s.est ∧
      ((s.channelBoundary c).1).htu = s.htu ∧ ((s.channelBoundary c).1).plc = s.plc ∧
      ((s.channelBoundary c).1).ofu = s.ofu ∧ ((s.channelBoundary c).1).cqm = s.cqm ∧
      ((s.channelBoundary c).1).dsu = s.dsu ∧ ((s.channelBoundary c).1).sps.map = s.sps.map ∧
      ((s.channelBoundary c).1).sps.sending = s.sps.sending ∧ ((s.channelBoundary c).1).sps.junctors = s.sps.junctors ∧
      ((s.channelBoundary c).1).sps.freeOrder = s.sps.freeOrder ∧
      ((s.channelBoundary c).1).sps.holdoffOrder = s.sps.holdoffOrder ∧
      ((s.channelBoundary c).1).lsi.trunks = s.lsi.trunks ∧ ((s.channelBoundary c).1).lsi.positions = s.lsi.positions ∧
      ((s.channelBoundary c).1).lsi.orders = s.lsi.orders ∧
      ((s.channelBoundary c).1).lsi.orderLosses = s.lsi.orderLosses ∧
      ((s.channelBoundary c).1).lsi.scanErrors = s.lsi.scanErrors ∧
      ((s.channelBoundary c).1).lsi.scanOpen = s.lsi.scanOpen ∧ ((s.channelBoundary c).1).mpi.mode = s.mpi.mode ∧
      ((s.channelBoundary c).1).mpi.station = s.mpi.station ∧ ((s.channelBoundary c).1).mpi.image = s.mpi.image ∧
      ((s.channelBoundary c).1).mpi.pointer = s.mpi.pointer ∧ ((s.channelBoundary c).1).mpi.attn = s.mpi.attn ∧
      ((s.channelBoundary c).1).mpi.response = s.mpi.response ∧ ((s.channelBoundary c).1).mpi.fifo = s.mpi.fifo ∧
      ((s.channelBoundary c).1).mpi.lostReports = s.mpi.lostReports := by
  unfold channelBoundary
  simp only
  split
  · split
    · simp
    · split <;> simp
  · simp
  · simp

@[simp] theorem boundaryOf_keeps (c : Channel) :
    (s.boundaryOf c).clk = s.clk ∧ (s.boundaryOf c).pending = s.pending ∧ (s.boundaryOf c).pvt = s.pvt ∧
      (s.boundaryOf c).est = s.est ∧ (s.boundaryOf c).plc = s.plc ∧ (s.boundaryOf c).ofu = s.ofu ∧
      (s.boundaryOf c).dsu = s.dsu ∧ (s.boundaryOf c).sps.map = s.sps.map ∧ (s.boundaryOf c).sps.sending = s.sps.sending ∧
      (s.boundaryOf c).sps.junctors = s.sps.junctors ∧ (s.boundaryOf c).sps.freeOrder = s.sps.freeOrder ∧
      (s.boundaryOf c).sps.holdoffOrder = s.sps.holdoffOrder ∧ (s.boundaryOf c).lsi.trunks = s.lsi.trunks ∧
      (s.boundaryOf c).lsi.positions = s.lsi.positions ∧ (s.boundaryOf c).lsi.orders = s.lsi.orders ∧
      (s.boundaryOf c).lsi.orderLosses = s.lsi.orderLosses ∧ (s.boundaryOf c).lsi.scanErrors = s.lsi.scanErrors ∧
      (s.boundaryOf c).lsi.scanOpen = s.lsi.scanOpen ∧ (s.boundaryOf c).mpi.mode = s.mpi.mode ∧
      (s.boundaryOf c).mpi.station = s.mpi.station ∧ (s.boundaryOf c).mpi.image = s.mpi.image ∧
      (s.boundaryOf c).mpi.pointer = s.mpi.pointer ∧ (s.boundaryOf c).mpi.attn = s.mpi.attn ∧
      (s.boundaryOf c).mpi.response = s.mpi.response ∧ (s.boundaryOf c).mpi.fifo = s.mpi.fifo ∧
      (s.boundaryOf c).mpi.lostReports = s.mpi.lostReports := by
  have h := channelBoundary_keeps s c
  unfold boundaryOf
  split <;> simp_all

@[simp] theorem boundaryWork_keeps (c : Channel) :
    (s.boundaryWork c).clk = s.clk ∧ (s.boundaryWork c).pending = s.pending ∧ (s.boundaryWork c).pvt = s.pvt ∧
      (s.boundaryWork c).est = s.est ∧ (s.boundaryWork c).plc = s.plc ∧ (s.boundaryWork c).ofu = s.ofu ∧
      (s.boundaryWork c).dsu = s.dsu ∧ (s.boundaryWork c).sps.map = s.sps.map ∧
      (s.boundaryWork c).sps.sending = s.sps.sending ∧ (s.boundaryWork c).sps.junctors = s.sps.junctors ∧
      (s.boundaryWork c).sps.freeOrder = s.sps.freeOrder ∧ (s.boundaryWork c).sps.holdoffOrder = s.sps.holdoffOrder ∧
      (s.boundaryWork c).lsi.trunks = s.lsi.trunks ∧ (s.boundaryWork c).lsi.positions = s.lsi.positions ∧
      (s.boundaryWork c).lsi.orders = s.lsi.orders ∧ (s.boundaryWork c).lsi.orderLosses = s.lsi.orderLosses ∧
      (s.boundaryWork c).lsi.scanErrors = s.lsi.scanErrors ∧ (s.boundaryWork c).lsi.scanOpen = s.lsi.scanOpen ∧
      (s.boundaryWork c).mpi.mode = s.mpi.mode ∧ (s.boundaryWork c).mpi.station = s.mpi.station ∧
      (s.boundaryWork c).mpi.image = s.mpi.image ∧ (s.boundaryWork c).mpi.pointer = s.mpi.pointer ∧
      (s.boundaryWork c).mpi.attn = s.mpi.attn ∧ (s.boundaryWork c).mpi.response = s.mpi.response := by
  unfold boundaryWork
  simp only
  split <;> simp

@[simp] theorem receiveBlock_keeps (c : Channel) (x : ClipRun) (a : Audio) :
    (s.receiveBlock c x a).clk = s.clk ∧ (s.receiveBlock c x a).pending = s.pending ∧
      (s.receiveBlock c x a).pvt = s.pvt ∧ (s.receiveBlock c x a).est = s.est ∧ (s.receiveBlock c x a).plc = s.plc ∧
      (s.receiveBlock c x a).ofu = s.ofu ∧ (s.receiveBlock c x a).dsu = s.dsu ∧
      (s.receiveBlock c x a).sps.map = s.sps.map ∧ (s.receiveBlock c x a).sps.sending = s.sps.sending ∧
      (s.receiveBlock c x a).sps.junctors = s.sps.junctors ∧ (s.receiveBlock c x a).sps.freeOrder = s.sps.freeOrder ∧
      (s.receiveBlock c x a).sps.holdoffOrder = s.sps.holdoffOrder ∧ (s.receiveBlock c x a).lsi.trunks = s.lsi.trunks ∧
      (s.receiveBlock c x a).lsi.positions = s.lsi.positions ∧ (s.receiveBlock c x a).lsi.orders = s.lsi.orders ∧
      (s.receiveBlock c x a).lsi.orderLosses = s.lsi.orderLosses ∧
      (s.receiveBlock c x a).lsi.scanErrors = s.lsi.scanErrors ∧ (s.receiveBlock c x a).lsi.scanOpen = s.lsi.scanOpen ∧
      (s.receiveBlock c x a).mpi.mode = s.mpi.mode ∧ (s.receiveBlock c x a).mpi.station = s.mpi.station ∧
      (s.receiveBlock c x a).mpi.image = s.mpi.image ∧ (s.receiveBlock c x a).mpi.pointer = s.mpi.pointer ∧
      (s.receiveBlock c x a).mpi.attn = s.mpi.attn ∧ (s.receiveBlock c x a).mpi.response = s.mpi.response ∧
      (s.receiveBlock c x a).mpi.fifo = s.mpi.fifo ∧ (s.receiveBlock c x a).mpi.lostReports = s.mpi.lostReports := by
  unfold receiveBlock
  simp only
  split
  · split <;> simp
  · simp
  · simp

@[simp] theorem fetchDone_keeps (b : List Byte) (e : Bool) :
    (s.fetchDone b e).clk = s.clk ∧ (s.fetchDone b e).pending = s.pending ∧ (s.fetchDone b e).pvt = s.pvt ∧
      (s.fetchDone b e).est = s.est ∧ (s.fetchDone b e).plc = s.plc ∧ (s.fetchDone b e).ofu = s.ofu ∧
      (s.fetchDone b e).dsu = s.dsu ∧ (s.fetchDone b e).sps.map = s.sps.map ∧ (s.fetchDone b e).sps.sending = s.sps.sending ∧
      (s.fetchDone b e).sps.junctors = s.sps.junctors ∧ (s.fetchDone b e).sps.freeOrder = s.sps.freeOrder ∧
      (s.fetchDone b e).sps.holdoffOrder = s.sps.holdoffOrder ∧ (s.fetchDone b e).lsi.trunks = s.lsi.trunks ∧
      (s.fetchDone b e).lsi.positions = s.lsi.positions ∧ (s.fetchDone b e).lsi.orders = s.lsi.orders ∧
      (s.fetchDone b e).lsi.orderLosses = s.lsi.orderLosses ∧ (s.fetchDone b e).lsi.scanErrors = s.lsi.scanErrors ∧
      (s.fetchDone b e).lsi.scanOpen = s.lsi.scanOpen ∧ (s.fetchDone b e).mpi.mode = s.mpi.mode ∧
      (s.fetchDone b e).mpi.station = s.mpi.station ∧ (s.fetchDone b e).mpi.image = s.mpi.image ∧
      (s.fetchDone b e).mpi.pointer = s.mpi.pointer ∧ (s.fetchDone b e).mpi.attn = s.mpi.attn ∧
      (s.fetchDone b e).mpi.response = s.mpi.response := by
  unfold fetchDone
  split
  · simp
  · simp only
    split
    · simp
    · split
      · simp
      · split <;> simp

end Sys2Proof.Machine.State
end

