-- ==== Sys2Proof/Laws/Lines.lean ====
section
/-! SUPPORT. What each operation of Lines.lean keeps: every piece of State that it does not write. -/

namespace Sys2Proof.Machine.State

variable (s : State)

@[simp] theorem loopSeized_keeps (t : Trunk) :
    (s.loopSeized t).clk = s.clk ∧ (s.loopSeized t).pending = s.pending ∧ (s.loopSeized t).pbc = s.pbc ∧
      (s.loopSeized t).pvt = s.pvt ∧ (s.loopSeized t).est = s.est ∧ (s.loopSeized t).htu = s.htu ∧
      (s.loopSeized t).plc = s.plc ∧ (s.loopSeized t).ofu = s.ofu ∧ (s.loopSeized t).cqm = s.cqm ∧
      (s.loopSeized t).dsu = s.dsu ∧ (s.loopSeized t).sps.map = s.sps.map ∧ (s.loopSeized t).sps.sending = s.sps.sending ∧
      (s.loopSeized t).sps.junctors = s.sps.junctors ∧ (s.loopSeized t).sps.freeOrder = s.sps.freeOrder ∧
      (s.loopSeized t).sps.holdoffOrder = s.sps.holdoffOrder ∧ (s.loopSeized t).lsi.positions = s.lsi.positions ∧
      (s.loopSeized t).lsi.orders = s.lsi.orders ∧ (s.loopSeized t).lsi.orderLosses = s.lsi.orderLosses ∧
      (s.loopSeized t).lsi.scanErrors = s.lsi.scanErrors ∧ (s.loopSeized t).lsi.scanOpen = s.lsi.scanOpen ∧
      (s.loopSeized t).mpi.mode = s.mpi.mode ∧ (s.loopSeized t).mpi.station = s.mpi.station ∧
      (s.loopSeized t).mpi.image = s.mpi.image ∧ (s.loopSeized t).mpi.pointer = s.mpi.pointer ∧
      (s.loopSeized t).mpi.attn = s.mpi.attn ∧ (s.loopSeized t).mpi.response = s.mpi.response ∧
      (s.loopSeized t).mpi.fifo = s.mpi.fifo ∧ (s.loopSeized t).mpi.lostReports = s.mpi.lostReports := by
  simp [loopSeized]

@[simp] theorem admitSeize_keeps (t : Trunk) (e : ServiceEntry) :
    (s.admitSeize t e).clk = s.clk ∧ (s.admitSeize t e).pending = s.pending ∧ (s.admitSeize t e).pvt = s.pvt ∧
      (s.admitSeize t e).est = s.est ∧ (s.admitSeize t e).plc = s.plc ∧ (s.admitSeize t e).ofu = s.ofu ∧
      (s.admitSeize t e).sps.map = s.sps.map ∧ (s.admitSeize t e).sps.sending = s.sps.sending ∧
      (s.admitSeize t e).sps.junctors = s.sps.junctors ∧ (s.admitSeize t e).sps.freeOrder = s.sps.freeOrder ∧
      (s.admitSeize t e).sps.holdoffOrder = s.sps.holdoffOrder ∧ (s.admitSeize t e).lsi.trunks = s.lsi.trunks ∧
      (s.admitSeize t e).lsi.positions = s.lsi.positions ∧ (s.admitSeize t e).lsi.scanErrors = s.lsi.scanErrors ∧
      (s.admitSeize t e).lsi.scanOpen = s.lsi.scanOpen ∧ (s.admitSeize t e).mpi.mode = s.mpi.mode ∧
      (s.admitSeize t e).mpi.station = s.mpi.station ∧ (s.admitSeize t e).mpi.image = s.mpi.image ∧
      (s.admitSeize t e).mpi.pointer = s.mpi.pointer ∧ (s.admitSeize t e).mpi.attn = s.mpi.attn ∧
      (s.admitSeize t e).mpi.response = s.mpi.response := by
  unfold admitSeize
  simp only
  split <;> simp

@[simp] theorem takeSeize_keeps (t : Trunk) (c : Fin 64) :
    (s.takeSeize t c).clk = s.clk ∧ (s.takeSeize t c).pending = s.pending ∧ (s.takeSeize t c).pvt = s.pvt ∧
      (s.takeSeize t c).est = s.est ∧ (s.takeSeize t c).plc = s.plc ∧ (s.takeSeize t c).ofu = s.ofu ∧
      (s.takeSeize t c).sps.map = s.sps.map ∧ (s.takeSeize t c).sps.sending = s.sps.sending ∧
      (s.takeSeize t c).sps.junctors = s.sps.junctors ∧ (s.takeSeize t c).sps.freeOrder = s.sps.freeOrder ∧
      (s.takeSeize t c).sps.holdoffOrder = s.sps.holdoffOrder ∧ (s.takeSeize t c).lsi.positions = s.lsi.positions ∧
      (s.takeSeize t c).lsi.scanOpen = s.lsi.scanOpen ∧ (s.takeSeize t c).mpi.mode = s.mpi.mode ∧
      (s.takeSeize t c).mpi.station = s.mpi.station ∧ (s.takeSeize t c).mpi.image = s.mpi.image ∧
      (s.takeSeize t c).mpi.pointer = s.mpi.pointer ∧ (s.takeSeize t c).mpi.attn = s.mpi.attn ∧
      (s.takeSeize t c).mpi.response = s.mpi.response := by
  unfold takeSeize
  simp only
  (repeat' split) <;> simp

@[simp] theorem takeLoop_keeps (r : LoopState) (t : Trunk) :
    (s.takeLoop r t).clk = s.clk ∧ (s.takeLoop r t).pending = s.pending ∧ (s.takeLoop r t).pbc = s.pbc ∧
      (s.takeLoop r t).pvt = s.pvt ∧ (s.takeLoop r t).est = s.est ∧ (s.takeLoop r t).htu = s.htu ∧
      (s.takeLoop r t).plc = s.plc ∧ (s.takeLoop r t).ofu = s.ofu ∧ (s.takeLoop r t).cqm = s.cqm ∧
      (s.takeLoop r t).dsu = s.dsu ∧ (s.takeLoop r t).sps.map = s.sps.map ∧ (s.takeLoop r t).sps.sending = s.sps.sending ∧
      (s.takeLoop r t).sps.junctors = s.sps.junctors ∧ (s.takeLoop r t).sps.freeOrder = s.sps.freeOrder ∧
      (s.takeLoop r t).sps.holdoffOrder = s.sps.holdoffOrder ∧ (s.takeLoop r t).lsi.positions = s.lsi.positions ∧
      (s.takeLoop r t).lsi.orders = s.lsi.orders ∧ (s.takeLoop r t).lsi.orderLosses = s.lsi.orderLosses ∧
      (s.takeLoop r t).lsi.scanErrors = s.lsi.scanErrors ∧ (s.takeLoop r t).lsi.scanOpen = s.lsi.scanOpen ∧
      (s.takeLoop r t).mpi.mode = s.mpi.mode ∧ (s.takeLoop r t).mpi.station = s.mpi.station ∧
      (s.takeLoop r t).mpi.image = s.mpi.image ∧ (s.takeLoop r t).mpi.pointer = s.mpi.pointer ∧
      (s.takeLoop r t).mpi.attn = s.mpi.attn ∧ (s.takeLoop r t).mpi.response = s.mpi.response ∧
      (s.takeLoop r t).mpi.fifo = s.mpi.fifo ∧ (s.takeLoop r t).mpi.lostReports = s.mpi.lostReports := by
  unfold takeLoop
  simp only
  (repeat' split) <;> simp

@[simp] theorem headsetReturn_keeps (p : Position) :
    (s.headsetReturn p).clk = s.clk ∧ (s.headsetReturn p).pending = s.pending ∧ (s.headsetReturn p).pbc = s.pbc ∧
      (s.headsetReturn p).pvt = s.pvt ∧ (s.headsetReturn p).est = s.est ∧ (s.headsetReturn p).htu = s.htu ∧
      (s.headsetReturn p).plc = s.plc ∧ (s.headsetReturn p).ofu = s.ofu ∧ (s.headsetReturn p).cqm = s.cqm ∧
      (s.headsetReturn p).sps.map = s.sps.map ∧ (s.headsetReturn p).sps.sending = s.sps.sending ∧
      (s.headsetReturn p).sps.junctors = s.sps.junctors ∧ (s.headsetReturn p).sps.freeOrder = s.sps.freeOrder ∧
      (s.headsetReturn p).sps.holdoffOrder = s.sps.holdoffOrder ∧ (s.headsetReturn p).lsi.trunks = s.lsi.trunks ∧
      (s.headsetReturn p).lsi.positions = s.lsi.positions ∧ (s.headsetReturn p).lsi.orders = s.lsi.orders ∧
      (s.headsetReturn p).lsi.orderLosses = s.lsi.orderLosses ∧ (s.headsetReturn p).lsi.scanErrors = s.lsi.scanErrors ∧
      (s.headsetReturn p).lsi.scanOpen = s.lsi.scanOpen ∧ (s.headsetReturn p).mpi.mode = s.mpi.mode ∧
      (s.headsetReturn p).mpi.station = s.mpi.station ∧ (s.headsetReturn p).mpi.image = s.mpi.image ∧
      (s.headsetReturn p).mpi.pointer = s.mpi.pointer ∧ (s.headsetReturn p).mpi.attn = s.mpi.attn ∧
      (s.headsetReturn p).mpi.response = s.mpi.response ∧ (s.headsetReturn p).mpi.fifo = s.mpi.fifo ∧
      (s.headsetReturn p).mpi.lostReports = s.mpi.lostReports := by
  simp [headsetReturn]

@[simp] theorem takeHeadset_keeps (r : HeadsetState) (p : Position) :
    (s.takeHeadset r p).clk = s.clk ∧ (s.takeHeadset r p).pending = s.pending ∧ (s.takeHeadset r p).pbc = s.pbc ∧
      (s.takeHeadset r p).pvt = s.pvt ∧ (s.takeHeadset r p).est = s.est ∧ (s.takeHeadset r p).htu = s.htu ∧
      (s.takeHeadset r p).plc = s.plc ∧ (s.takeHeadset r p).ofu = s.ofu ∧ (s.takeHeadset r p).cqm = s.cqm ∧
      (s.takeHeadset r p).sps.map = s.sps.map ∧ (s.takeHeadset r p).sps.sending = s.sps.sending ∧
      (s.takeHeadset r p).sps.junctors = s.sps.junctors ∧ (s.takeHeadset r p).sps.freeOrder = s.sps.freeOrder ∧
      (s.takeHeadset r p).sps.holdoffOrder = s.sps.holdoffOrder ∧ (s.takeHeadset r p).lsi.trunks = s.lsi.trunks ∧
      (s.takeHeadset r p).lsi.orders = s.lsi.orders ∧ (s.takeHeadset r p).lsi.orderLosses = s.lsi.orderLosses ∧
      (s.takeHeadset r p).lsi.scanErrors = s.lsi.scanErrors ∧ (s.takeHeadset r p).lsi.scanOpen = s.lsi.scanOpen ∧
      (s.takeHeadset r p).mpi.mode = s.mpi.mode ∧ (s.takeHeadset r p).mpi.station = s.mpi.station ∧
      (s.takeHeadset r p).mpi.image = s.mpi.image ∧ (s.takeHeadset r p).mpi.pointer = s.mpi.pointer ∧
      (s.takeHeadset r p).mpi.attn = s.mpi.attn ∧ (s.takeHeadset r p).mpi.response = s.mpi.response ∧
      (s.takeHeadset r p).mpi.fifo = s.mpi.fifo ∧ (s.takeHeadset r p).mpi.lostReports = s.mpi.lostReports := by
  unfold takeHeadset
  simp only
  (repeat' split) <;> simp

@[simp] theorem takeCharConfig_keeps (c : ScanChar) :
    (s.takeCharConfig c).clk = s.clk ∧ (s.takeCharConfig c).pending = s.pending ∧ (s.takeCharConfig c).pbc = s.pbc ∧
      (s.takeCharConfig c).pvt = s.pvt ∧ (s.takeCharConfig c).est = s.est ∧ (s.takeCharConfig c).htu = s.htu ∧
      (s.takeCharConfig c).plc = s.plc ∧ (s.takeCharConfig c).ofu = s.ofu ∧ (s.takeCharConfig c).cqm = s.cqm ∧
      (s.takeCharConfig c).dsu = s.dsu ∧ (s.takeCharConfig c).sps.map = s.sps.map ∧
      (s.takeCharConfig c).sps.sending = s.sps.sending ∧ (s.takeCharConfig c).sps.junctors = s.sps.junctors ∧
      (s.takeCharConfig c).sps.freeOrder = s.sps.freeOrder ∧
      (s.takeCharConfig c).sps.holdoffOrder = s.sps.holdoffOrder ∧ (s.takeCharConfig c).lsi.trunks = s.lsi.trunks ∧
      (s.takeCharConfig c).lsi.positions = s.lsi.positions ∧ (s.takeCharConfig c).lsi.scanErrors = s.lsi.scanErrors ∧
      (s.takeCharConfig c).lsi.scanOpen = s.lsi.scanOpen ∧ (s.takeCharConfig c).mpi.mode = s.mpi.mode ∧
      (s.takeCharConfig c).mpi.station = s.mpi.station ∧ (s.takeCharConfig c).mpi.image = s.mpi.image ∧
      (s.takeCharConfig c).mpi.pointer = s.mpi.pointer ∧ (s.takeCharConfig c).mpi.attn = s.mpi.attn ∧
      (s.takeCharConfig c).mpi.response = s.mpi.response ∧ (s.takeCharConfig c).mpi.fifo = s.mpi.fifo ∧
      (s.takeCharConfig c).mpi.lostReports = s.mpi.lostReports := by
  unfold takeCharConfig
  split <;> simp

@[simp] theorem takeCharRun_keeps (c : ScanChar) :
    (s.takeCharRun c).clk = s.clk ∧ (s.takeCharRun c).pending = s.pending ∧ (s.takeCharRun c).pvt = s.pvt ∧
      (s.takeCharRun c).sps.map = s.sps.map ∧ (s.takeCharRun c).sps.sending = s.sps.sending ∧
      (s.takeCharRun c).sps.freeOrder = s.sps.freeOrder ∧ (s.takeCharRun c).lsi.scanOpen = s.lsi.scanOpen ∧
      (s.takeCharRun c).mpi.mode = s.mpi.mode ∧ (s.takeCharRun c).mpi.station = s.mpi.station ∧
      (s.takeCharRun c).mpi.image = s.mpi.image ∧ (s.takeCharRun c).mpi.pointer = s.mpi.pointer ∧
      (s.takeCharRun c).mpi.attn = s.mpi.attn ∧ (s.takeCharRun c).mpi.response = s.mpi.response := by
  unfold takeCharRun
  split <;> simp

@[simp] theorem takeScan_keeps (r : ScanResult) :
    (s.takeScan r).clk = s.clk ∧ (s.takeScan r).pending = s.pending ∧ (s.takeScan r).pvt = s.pvt ∧
      (s.takeScan r).sps.freeOrder = s.sps.freeOrder ∧ (s.takeScan r).lsi.scanOpen = s.lsi.scanOpen ∧
      (s.takeScan r).mpi.mode = s.mpi.mode ∧ (s.takeScan r).mpi.station = s.mpi.station ∧
      (s.takeScan r).mpi.image = s.mpi.image ∧ (s.takeScan r).mpi.pointer = s.mpi.pointer ∧
      (s.takeScan r).mpi.response = s.mpi.response := by
  unfold takeScan event
  (repeat' split) <;> simp

@[simp] theorem scanReceive_keeps (b : Byte) :
    (s.scanReceive b).clk = s.clk ∧ (s.scanReceive b).pending = s.pending ∧ (s.scanReceive b).pvt = s.pvt ∧
      (s.scanReceive b).sps.freeOrder = s.sps.freeOrder ∧ (s.scanReceive b).mpi.mode = s.mpi.mode ∧
      (s.scanReceive b).mpi.station = s.mpi.station ∧ (s.scanReceive b).mpi.image = s.mpi.image ∧
      (s.scanReceive b).mpi.pointer = s.mpi.pointer ∧ (s.scanReceive b).mpi.response = s.mpi.response := by
  simp [scanReceive]

@[simp] theorem scanReceives_keeps (l : List Byte) :
    (l.foldl (scanReceive) s).clk = s.clk ∧ (l.foldl (scanReceive) s).pending = s.pending ∧
      (l.foldl (scanReceive) s).pvt = s.pvt ∧ (l.foldl (scanReceive) s).sps.freeOrder = s.sps.freeOrder ∧
      (l.foldl (scanReceive) s).mpi.mode = s.mpi.mode ∧ (l.foldl (scanReceive) s).mpi.station = s.mpi.station ∧
      (l.foldl (scanReceive) s).mpi.image = s.mpi.image ∧ (l.foldl (scanReceive) s).mpi.pointer = s.mpi.pointer ∧
      (l.foldl (scanReceive) s).mpi.response = s.mpi.response := by
  induction l generalizing s with
  | nil => simp
  | cons b l ih => simpa using ih (s.scanReceive b)

@[simp] theorem scanReceiveAll_keeps (l : List Byte) :
    (s.scanReceiveAll l).clk = s.clk ∧ (s.scanReceiveAll l).pending = s.pending ∧ (s.scanReceiveAll l).pvt = s.pvt ∧
      (s.scanReceiveAll l).sps.freeOrder = s.sps.freeOrder ∧ (s.scanReceiveAll l).mpi.mode = s.mpi.mode ∧
      (s.scanReceiveAll l).mpi.station = s.mpi.station ∧ (s.scanReceiveAll l).mpi.image = s.mpi.image ∧
      (s.scanReceiveAll l).mpi.pointer = s.mpi.pointer ∧ (s.scanReceiveAll l).mpi.response = s.mpi.response := by
  simp [scanReceiveAll]

@[simp] theorem disconnectExpiry_keeps (t : Trunk) :
    (s.disconnectExpiry t).clk = s.clk ∧ (s.disconnectExpiry t).pending = s.pending ∧
      (s.disconnectExpiry t).pbc = s.pbc ∧ (s.disconnectExpiry t).pvt = s.pvt ∧
      (s.disconnectExpiry t).sps.map = s.sps.map ∧ (s.disconnectExpiry t).sps.sending = s.sps.sending ∧
      (s.disconnectExpiry t).sps.freeOrder = s.sps.freeOrder ∧ (s.disconnectExpiry t).lsi.positions = s.lsi.positions ∧
      (s.disconnectExpiry t).lsi.scanErrors = s.lsi.scanErrors ∧ (s.disconnectExpiry t).lsi.scanOpen = s.lsi.scanOpen ∧
      (s.disconnectExpiry t).mpi.mode = s.mpi.mode ∧ (s.disconnectExpiry t).mpi.station = s.mpi.station ∧
      (s.disconnectExpiry t).mpi.image = s.mpi.image ∧ (s.disconnectExpiry t).mpi.pointer = s.mpi.pointer ∧
      (s.disconnectExpiry t).mpi.attn = s.mpi.attn ∧ (s.disconnectExpiry t).mpi.response = s.mpi.response := by
  simp [disconnectExpiry]

@[simp] theorem headsetExpiry_keeps (p : Position) :
    (s.headsetExpiry p).clk = s.clk ∧ (s.headsetExpiry p).pending = s.pending ∧ (s.headsetExpiry p).pbc = s.pbc ∧
      (s.headsetExpiry p).pvt = s.pvt ∧ (s.headsetExpiry p).est = s.est ∧ (s.headsetExpiry p).sps.map = s.sps.map ∧
      (s.headsetExpiry p).sps.sending = s.sps.sending ∧ (s.headsetExpiry p).sps.freeOrder = s.sps.freeOrder ∧
      (s.headsetExpiry p).lsi.trunks = s.lsi.trunks ∧ (s.headsetExpiry p).lsi.scanErrors = s.lsi.scanErrors ∧
      (s.headsetExpiry p).lsi.scanOpen = s.lsi.scanOpen ∧ (s.headsetExpiry p).mpi.mode = s.mpi.mode ∧
      (s.headsetExpiry p).mpi.station = s.mpi.station ∧ (s.headsetExpiry p).mpi.image = s.mpi.image ∧
      (s.headsetExpiry p).mpi.pointer = s.mpi.pointer ∧ (s.headsetExpiry p).mpi.attn = s.mpi.attn ∧
      (s.headsetExpiry p).mpi.response = s.mpi.response := by
  simp [headsetExpiry]

@[simp] theorem endSweep_keeps :
    (s.endSweep).clk = s.clk ∧ (s.endSweep).pending = s.pending ∧ (s.endSweep).pbc = s.pbc ∧ (s.endSweep).pvt = s.pvt ∧
      (s.endSweep).est = s.est ∧ (s.endSweep).htu = s.htu ∧ (s.endSweep).plc = s.plc ∧ (s.endSweep).ofu = s.ofu ∧
      (s.endSweep).cqm = s.cqm ∧ (s.endSweep).dsu = s.dsu ∧ (s.endSweep).sps.map = s.sps.map ∧
      (s.endSweep).sps.sending = s.sps.sending ∧ (s.endSweep).sps.junctors = s.sps.junctors ∧
      (s.endSweep).sps.freeOrder = s.sps.freeOrder ∧ (s.endSweep).sps.holdoffOrder = s.sps.holdoffOrder ∧
      (s.endSweep).lsi.orders = s.lsi.orders ∧ (s.endSweep).lsi.orderLosses = s.lsi.orderLosses ∧
      (s.endSweep).lsi.scanOpen = s.lsi.scanOpen ∧ (s.endSweep).mpi.mode = s.mpi.mode ∧
      (s.endSweep).mpi.station = s.mpi.station ∧ (s.endSweep).mpi.image = s.mpi.image ∧
      (s.endSweep).mpi.pointer = s.mpi.pointer ∧ (s.endSweep).mpi.attn = s.mpi.attn ∧
      (s.endSweep).mpi.response = s.mpi.response ∧ (s.endSweep).mpi.fifo = s.mpi.fifo ∧
      (s.endSweep).mpi.lostReports = s.mpi.lostReports := by
  simp [endSweep]

end Sys2Proof.Machine.State
end

