-- ==== Sys2Proof/Laws/Overflow.lean ====
section
/-! SUPPORT. What each operation of Overflow.lean keeps: every piece of State that it does not write. -/

namespace Sys2Proof.Machine.State

variable (s : State)

@[simp] theorem lendCall_keeps (t : Trunk) (x : Station) (j : Junctor) :
    (s.lendCall t x j).clk = s.clk ∧ (s.lendCall t x j).pending = s.pending ∧ (s.lendCall t x j).pbc = s.pbc ∧
      (s.lendCall t x j).pvt = s.pvt ∧ (s.lendCall t x j).est = s.est ∧ (s.lendCall t x j).plc = s.plc ∧
      (s.lendCall t x j).dsu = s.dsu ∧ (s.lendCall t x j).sps.map = s.sps.map ∧
      (s.lendCall t x j).sps.sending = s.sps.sending ∧ (s.lendCall t x j).sps.junctors = s.sps.junctors ∧
      (s.lendCall t x j).sps.freeOrder = s.sps.freeOrder ∧ (s.lendCall t x j).sps.holdoffOrder = s.sps.holdoffOrder ∧
      (s.lendCall t x j).lsi.trunks = s.lsi.trunks ∧ (s.lendCall t x j).lsi.positions = s.lsi.positions ∧
      (s.lendCall t x j).lsi.orders = s.lsi.orders ∧ (s.lendCall t x j).lsi.orderLosses = s.lsi.orderLosses ∧
      (s.lendCall t x j).lsi.scanErrors = s.lsi.scanErrors ∧ (s.lendCall t x j).lsi.scanOpen = s.lsi.scanOpen ∧
      (s.lendCall t x j).mpi.mode = s.mpi.mode ∧ (s.lendCall t x j).mpi.station = s.mpi.station ∧
      (s.lendCall t x j).mpi.image = s.mpi.image ∧ (s.lendCall t x j).mpi.pointer = s.mpi.pointer ∧
      (s.lendCall t x j).mpi.attn = s.mpi.attn ∧ (s.lendCall t x j).mpi.response = s.mpi.response ∧
      (s.lendCall t x j).mpi.fifo = s.mpi.fifo ∧ (s.lendCall t x j).mpi.lostReports = s.mpi.lostReports := by
  unfold lendCall
  split <;> simp

@[simp] theorem takeTake_keeps (x : Station) (tag : Tag) (j : Junctor) :
    (s.takeTake x tag j).clk = s.clk ∧ (s.takeTake x tag j).pending = s.pending ∧ (s.takeTake x tag j).pbc = s.pbc ∧
      (s.takeTake x tag j).pvt = s.pvt ∧ (s.takeTake x tag j).est = s.est ∧ (s.takeTake x tag j).dsu = s.dsu ∧
      (s.takeTake x tag j).sps.map = s.sps.map ∧ (s.takeTake x tag j).sps.sending = s.sps.sending ∧
      (s.takeTake x tag j).sps.junctors = s.sps.junctors ∧ (s.takeTake x tag j).sps.freeOrder = s.sps.freeOrder ∧
      (s.takeTake x tag j).sps.holdoffOrder = s.sps.holdoffOrder ∧ (s.takeTake x tag j).lsi.trunks = s.lsi.trunks ∧
      (s.takeTake x tag j).lsi.positions = s.lsi.positions ∧ (s.takeTake x tag j).lsi.orders = s.lsi.orders ∧
      (s.takeTake x tag j).lsi.orderLosses = s.lsi.orderLosses ∧
      (s.takeTake x tag j).lsi.scanErrors = s.lsi.scanErrors ∧ (s.takeTake x tag j).lsi.scanOpen = s.lsi.scanOpen ∧
      (s.takeTake x tag j).mpi.mode = s.mpi.mode ∧ (s.takeTake x tag j).mpi.station = s.mpi.station ∧
      (s.takeTake x tag j).mpi.image = s.mpi.image ∧ (s.takeTake x tag j).mpi.pointer = s.mpi.pointer ∧
      (s.takeTake x tag j).mpi.attn = s.mpi.attn ∧ (s.takeTake x tag j).mpi.response = s.mpi.response ∧
      (s.takeTake x tag j).mpi.fifo = s.mpi.fifo ∧ (s.takeTake x tag j).mpi.lostReports = s.mpi.lostReports := by
  unfold takeTake
  split <;> simp

@[simp] theorem modifyPeer_keeps (x : Station) (f : PeerData → PeerData) :
    (s.modifyPeer x f).clk = s.clk ∧ (s.modifyPeer x f).pending = s.pending ∧ (s.modifyPeer x f).pbc = s.pbc ∧
      (s.modifyPeer x f).est = s.est ∧ (s.modifyPeer x f).htu = s.htu ∧ (s.modifyPeer x f).plc = s.plc ∧
      (s.modifyPeer x f).ofu = s.ofu ∧ (s.modifyPeer x f).cqm = s.cqm ∧ (s.modifyPeer x f).dsu = s.dsu ∧
      (s.modifyPeer x f).sps.map = s.sps.map ∧ (s.modifyPeer x f).sps.sending = s.sps.sending ∧
      (s.modifyPeer x f).sps.junctors = s.sps.junctors ∧ (s.modifyPeer x f).sps.freeOrder = s.sps.freeOrder ∧
      (s.modifyPeer x f).sps.holdoffOrder = s.sps.holdoffOrder ∧ (s.modifyPeer x f).lsi.trunks = s.lsi.trunks ∧
      (s.modifyPeer x f).lsi.positions = s.lsi.positions ∧ (s.modifyPeer x f).lsi.orders = s.lsi.orders ∧
      (s.modifyPeer x f).lsi.orderLosses = s.lsi.orderLosses ∧ (s.modifyPeer x f).lsi.scanErrors = s.lsi.scanErrors ∧
      (s.modifyPeer x f).lsi.scanOpen = s.lsi.scanOpen ∧ (s.modifyPeer x f).mpi.mode = s.mpi.mode ∧
      (s.modifyPeer x f).mpi.station = s.mpi.station ∧ (s.modifyPeer x f).mpi.image = s.mpi.image ∧
      (s.modifyPeer x f).mpi.pointer = s.mpi.pointer ∧ (s.modifyPeer x f).mpi.attn = s.mpi.attn ∧
      (s.modifyPeer x f).mpi.response = s.mpi.response ∧ (s.modifyPeer x f).mpi.fifo = s.mpi.fifo ∧
      (s.modifyPeer x f).mpi.lostReports = s.mpi.lostReports := by
  unfold modifyPeer
  split <;> simp

@[simp] theorem markDecline_keeps (x : Station) (q : QueueNo) :
    (s.markDecline x q).clk = s.clk ∧ (s.markDecline x q).pending = s.pending ∧ (s.markDecline x q).pbc = s.pbc ∧
      (s.markDecline x q).est = s.est ∧ (s.markDecline x q).htu = s.htu ∧ (s.markDecline x q).plc = s.plc ∧
      (s.markDecline x q).ofu = s.ofu ∧ (s.markDecline x q).cqm = s.cqm ∧ (s.markDecline x q).dsu = s.dsu ∧
      (s.markDecline x q).sps.map = s.sps.map ∧ (s.markDecline x q).sps.sending = s.sps.sending ∧
      (s.markDecline x q).sps.junctors = s.sps.junctors ∧ (s.markDecline x q).sps.freeOrder = s.sps.freeOrder ∧
      (s.markDecline x q).sps.holdoffOrder = s.sps.holdoffOrder ∧ (s.markDecline x q).lsi.trunks = s.lsi.trunks ∧
      (s.markDecline x q).lsi.positions = s.lsi.positions ∧ (s.markDecline x q).lsi.orders = s.lsi.orders ∧
      (s.markDecline x q).lsi.orderLosses = s.lsi.orderLosses ∧ (s.markDecline x q).lsi.scanErrors = s.lsi.scanErrors ∧
      (s.markDecline x q).lsi.scanOpen = s.lsi.scanOpen ∧ (s.markDecline x q).mpi.mode = s.mpi.mode ∧
      (s.markDecline x q).mpi.station = s.mpi.station ∧ (s.markDecline x q).mpi.image = s.mpi.image ∧
      (s.markDecline x q).mpi.pointer = s.mpi.pointer ∧ (s.markDecline x q).mpi.attn = s.mpi.attn ∧
      (s.markDecline x q).mpi.response = s.mpi.response ∧ (s.markDecline x q).mpi.fifo = s.mpi.fifo ∧
      (s.markDecline x q).mpi.lostReports = s.mpi.lostReports := by
  simp [markDecline]

@[simp] theorem lowerView_keeps (x : Station) (q : QueueNo) :
    (s.lowerView x q).clk = s.clk ∧ (s.lowerView x q).pending = s.pending ∧ (s.lowerView x q).pbc = s.pbc ∧
      (s.lowerView x q).est = s.est ∧ (s.lowerView x q).htu = s.htu ∧ (s.lowerView x q).plc = s.plc ∧
      (s.lowerView x q).ofu = s.ofu ∧ (s.lowerView x q).cqm = s.cqm ∧ (s.lowerView x q).dsu = s.dsu ∧
      (s.lowerView x q).sps.map = s.sps.map ∧ (s.lowerView x q).sps.sending = s.sps.sending ∧
      (s.lowerView x q).sps.junctors = s.sps.junctors ∧ (s.lowerView x q).sps.freeOrder = s.sps.freeOrder ∧
      (s.lowerView x q).sps.holdoffOrder = s.sps.holdoffOrder ∧ (s.lowerView x q).lsi.trunks = s.lsi.trunks ∧
      (s.lowerView x q).lsi.positions = s.lsi.positions ∧ (s.lowerView x q).lsi.orders = s.lsi.orders ∧
      (s.lowerView x q).lsi.orderLosses = s.lsi.orderLosses ∧ (s.lowerView x q).lsi.scanErrors = s.lsi.scanErrors ∧
      (s.lowerView x q).lsi.scanOpen = s.lsi.scanOpen ∧ (s.lowerView x q).mpi.mode = s.mpi.mode ∧
      (s.lowerView x q).mpi.station = s.mpi.station ∧ (s.lowerView x q).mpi.image = s.mpi.image ∧
      (s.lowerView x q).mpi.pointer = s.mpi.pointer ∧ (s.lowerView x q).mpi.attn = s.mpi.attn ∧
      (s.lowerView x q).mpi.response = s.mpi.response ∧ (s.lowerView x q).mpi.fifo = s.mpi.fifo ∧
      (s.lowerView x q).mpi.lostReports = s.mpi.lostReports := by
  simp [lowerView]

@[simp] theorem takeDecline_keeps (x : Station) (tag : Tag) :
    (s.takeDecline x tag).clk = s.clk ∧ (s.takeDecline x tag).pending = s.pending ∧ (s.takeDecline x tag).pbc = s.pbc ∧
      (s.takeDecline x tag).est = s.est ∧ (s.takeDecline x tag).plc = s.plc ∧
      (s.takeDecline x tag).sps.map = s.sps.map ∧ (s.takeDecline x tag).sps.sending = s.sps.sending ∧
      (s.takeDecline x tag).sps.freeOrder = s.sps.freeOrder ∧ (s.takeDecline x tag).lsi.trunks = s.lsi.trunks ∧
      (s.takeDecline x tag).lsi.positions = s.lsi.positions ∧ (s.takeDecline x tag).lsi.scanErrors = s.lsi.scanErrors ∧
      (s.takeDecline x tag).lsi.scanOpen = s.lsi.scanOpen ∧ (s.takeDecline x tag).mpi.mode = s.mpi.mode ∧
      (s.takeDecline x tag).mpi.station = s.mpi.station ∧ (s.takeDecline x tag).mpi.image = s.mpi.image ∧
      (s.takeDecline x tag).mpi.pointer = s.mpi.pointer ∧ (s.takeDecline x tag).mpi.attn = s.mpi.attn ∧
      (s.takeDecline x tag).mpi.response = s.mpi.response ∧ (s.takeDecline x tag).mpi.fifo = s.mpi.fifo ∧
      (s.takeDecline x tag).mpi.lostReports = s.mpi.lostReports := by
  unfold takeDecline
  split
  · split <;> simp
  · simp

@[simp] theorem takeAnswered_keeps (x : Station) (tag : Tag) :
    (s.takeAnswered x tag).clk = s.clk ∧ (s.takeAnswered x tag).pending = s.pending ∧
      (s.takeAnswered x tag).pbc = s.pbc ∧ (s.takeAnswered x tag).pvt = s.pvt ∧ (s.takeAnswered x tag).est = s.est ∧
      (s.takeAnswered x tag).htu = s.htu ∧ (s.takeAnswered x tag).ofu = s.ofu ∧ (s.takeAnswered x tag).dsu = s.dsu ∧
      (s.takeAnswered x tag).sps.map = s.sps.map ∧ (s.takeAnswered x tag).sps.sending = s.sps.sending ∧
      (s.takeAnswered x tag).sps.junctors = s.sps.junctors ∧ (s.takeAnswered x tag).sps.freeOrder = s.sps.freeOrder ∧
      (s.takeAnswered x tag).sps.holdoffOrder = s.sps.holdoffOrder ∧ (s.takeAnswered x tag).lsi.trunks = s.lsi.trunks ∧
      (s.takeAnswered x tag).lsi.positions = s.lsi.positions ∧ (s.takeAnswered x tag).lsi.orders = s.lsi.orders ∧
      (s.takeAnswered x tag).lsi.orderLosses = s.lsi.orderLosses ∧
      (s.takeAnswered x tag).lsi.scanErrors = s.lsi.scanErrors ∧ (s.takeAnswered x tag).lsi.scanOpen = s.lsi.scanOpen ∧
      (s.takeAnswered x tag).mpi.mode = s.mpi.mode ∧ (s.takeAnswered x tag).mpi.station = s.mpi.station ∧
      (s.takeAnswered x tag).mpi.image = s.mpi.image ∧ (s.takeAnswered x tag).mpi.pointer = s.mpi.pointer ∧
      (s.takeAnswered x tag).mpi.attn = s.mpi.attn ∧ (s.takeAnswered x tag).mpi.response = s.mpi.response ∧
      (s.takeAnswered x tag).mpi.fifo = s.mpi.fifo ∧ (s.takeAnswered x tag).mpi.lostReports = s.mpi.lostReports := by
  unfold takeAnswered
  split
  · split <;> simp
  · simp

@[simp] theorem takeBounce_keeps (x : Station) (tag : Tag) :
    (s.takeBounce x tag).clk = s.clk ∧ (s.takeBounce x tag).pending = s.pending ∧ (s.takeBounce x tag).pbc = s.pbc ∧
      (s.takeBounce x tag).pvt = s.pvt ∧ (s.takeBounce x tag).est = s.est ∧ (s.takeBounce x tag).plc = s.plc ∧
      (s.takeBounce x tag).sps.map = s.sps.map ∧ (s.takeBounce x tag).sps.sending = s.sps.sending ∧
      (s.takeBounce x tag).sps.freeOrder = s.sps.freeOrder ∧ (s.takeBounce x tag).lsi.trunks = s.lsi.trunks ∧
      (s.takeBounce x tag).lsi.positions = s.lsi.positions ∧ (s.takeBounce x tag).lsi.scanErrors = s.lsi.scanErrors ∧
      (s.takeBounce x tag).lsi.scanOpen = s.lsi.scanOpen ∧ (s.takeBounce x tag).mpi.mode = s.mpi.mode ∧
      (s.takeBounce x tag).mpi.station = s.mpi.station ∧ (s.takeBounce x tag).mpi.image = s.mpi.image ∧
      (s.takeBounce x tag).mpi.pointer = s.mpi.pointer ∧ (s.takeBounce x tag).mpi.attn = s.mpi.attn ∧
      (s.takeBounce x tag).mpi.response = s.mpi.response ∧ (s.takeBounce x tag).mpi.fifo = s.mpi.fifo ∧
      (s.takeBounce x tag).mpi.lostReports = s.mpi.lostReports := by
  unfold takeBounce
  split
  · split <;> simp
  · simp

@[simp] theorem takeAgentDone_keeps (x : Station) (tag : Tag) :
    (s.takeAgentDone x tag).clk = s.clk ∧ (s.takeAgentDone x tag).pending = s.pending ∧
      (s.takeAgentDone x tag).pbc = s.pbc ∧ (s.takeAgentDone x tag).pvt = s.pvt ∧ (s.takeAgentDone x tag).est = s.est ∧
      (s.takeAgentDone x tag).plc = s.plc ∧ (s.takeAgentDone x tag).dsu = s.dsu ∧
      (s.takeAgentDone x tag).sps.map = s.sps.map ∧ (s.takeAgentDone x tag).sps.sending = s.sps.sending ∧
      (s.takeAgentDone x tag).sps.freeOrder = s.sps.freeOrder ∧
      (s.takeAgentDone x tag).lsi.positions = s.lsi.positions ∧
      (s.takeAgentDone x tag).lsi.scanErrors = s.lsi.scanErrors ∧
      (s.takeAgentDone x tag).lsi.scanOpen = s.lsi.scanOpen ∧ (s.takeAgentDone x tag).mpi.mode = s.mpi.mode ∧
      (s.takeAgentDone x tag).mpi.station = s.mpi.station ∧ (s.takeAgentDone x tag).mpi.image = s.mpi.image ∧
      (s.takeAgentDone x tag).mpi.pointer = s.mpi.pointer ∧ (s.takeAgentDone x tag).mpi.attn = s.mpi.attn ∧
      (s.takeAgentDone x tag).mpi.response = s.mpi.response := by
  unfold takeAgentDone
  split
  · split <;> simp
  · simp

@[simp] theorem hostOffer_keeps (x : Station) (o : OfferData) :
    (s.hostOffer x o).clk = s.clk ∧ (s.hostOffer x o).pending = s.pending ∧ (s.hostOffer x o).pbc = s.pbc ∧
      (s.hostOffer x o).pvt = s.pvt ∧ (s.hostOffer x o).est = s.est ∧ (s.hostOffer x o).htu = s.htu ∧
      (s.hostOffer x o).cqm = s.cqm ∧ (s.hostOffer x o).sps.map = s.sps.map ∧ (s.hostOffer x o).sps.sending = s.sps.sending ∧
      (s.hostOffer x o).sps.junctors = s.sps.junctors ∧ (s.hostOffer x o).sps.freeOrder = s.sps.freeOrder ∧
      (s.hostOffer x o).sps.holdoffOrder = s.sps.holdoffOrder ∧ (s.hostOffer x o).lsi.trunks = s.lsi.trunks ∧
      (s.hostOffer x o).lsi.positions = s.lsi.positions ∧ (s.hostOffer x o).lsi.orders = s.lsi.orders ∧
      (s.hostOffer x o).lsi.orderLosses = s.lsi.orderLosses ∧ (s.hostOffer x o).lsi.scanErrors = s.lsi.scanErrors ∧
      (s.hostOffer x o).lsi.scanOpen = s.lsi.scanOpen ∧ (s.hostOffer x o).mpi.mode = s.mpi.mode ∧
      (s.hostOffer x o).mpi.station = s.mpi.station ∧ (s.hostOffer x o).mpi.image = s.mpi.image ∧
      (s.hostOffer x o).mpi.pointer = s.mpi.pointer ∧ (s.hostOffer x o).mpi.attn = s.mpi.attn ∧
      (s.hostOffer x o).mpi.response = s.mpi.response ∧ (s.hostOffer x o).mpi.fifo = s.mpi.fifo ∧
      (s.hostOffer x o).mpi.lostReports = s.mpi.lostReports := by
  unfold hostOffer
  split
  · rename_i h
    obtain ⟨-, rfl | rfl⟩ := chooseAgent_cases s h <;> simp
  · simp

@[simp] theorem takeOffer_keeps (x : Station) (o : OfferData) :
    (s.takeOffer x o).clk = s.clk ∧ (s.takeOffer x o).pending = s.pending ∧ (s.takeOffer x o).pbc = s.pbc ∧
      (s.takeOffer x o).pvt = s.pvt ∧ (s.takeOffer x o).sps.map = s.sps.map ∧ (s.takeOffer x o).sps.sending = s.sps.sending ∧
      (s.takeOffer x o).sps.junctors = s.sps.junctors ∧ (s.takeOffer x o).sps.freeOrder = s.sps.freeOrder ∧
      (s.takeOffer x o).sps.holdoffOrder = s.sps.holdoffOrder ∧ (s.takeOffer x o).lsi.trunks = s.lsi.trunks ∧
      (s.takeOffer x o).lsi.positions = s.lsi.positions ∧ (s.takeOffer x o).lsi.scanErrors = s.lsi.scanErrors ∧
      (s.takeOffer x o).lsi.scanOpen = s.lsi.scanOpen ∧ (s.takeOffer x o).mpi.mode = s.mpi.mode ∧
      (s.takeOffer x o).mpi.station = s.mpi.station ∧ (s.takeOffer x o).mpi.image = s.mpi.image ∧
      (s.takeOffer x o).mpi.pointer = s.mpi.pointer ∧ (s.takeOffer x o).mpi.attn = s.mpi.attn ∧
      (s.takeOffer x o).mpi.response = s.mpi.response := by
  unfold takeOffer
  simp only
  (repeat' split) <;> simp

@[simp] theorem connectGuest_keeps (g : GuestNo) :
    (s.connectGuest g).clk = s.clk ∧ (s.connectGuest g).pending = s.pending ∧ (s.connectGuest g).pbc = s.pbc ∧
      (s.connectGuest g).pvt = s.pvt ∧ (s.connectGuest g).est = s.est ∧ (s.connectGuest g).htu = s.htu ∧
      (s.connectGuest g).plc = s.plc ∧ (s.connectGuest g).cqm = s.cqm ∧ (s.connectGuest g).sps.map = s.sps.map ∧
      (s.connectGuest g).sps.sending = s.sps.sending ∧ (s.connectGuest g).sps.junctors = s.sps.junctors ∧
      (s.connectGuest g).sps.freeOrder = s.sps.freeOrder ∧ (s.connectGuest g).sps.holdoffOrder = s.sps.holdoffOrder ∧
      (s.connectGuest g).lsi.trunks = s.lsi.trunks ∧ (s.connectGuest g).lsi.positions = s.lsi.positions ∧
      (s.connectGuest g).lsi.scanErrors = s.lsi.scanErrors ∧ (s.connectGuest g).lsi.scanOpen = s.lsi.scanOpen ∧
      (s.connectGuest g).mpi.mode = s.mpi.mode ∧ (s.connectGuest g).mpi.station = s.mpi.station ∧
      (s.connectGuest g).mpi.image = s.mpi.image ∧ (s.connectGuest g).mpi.pointer = s.mpi.pointer ∧
      (s.connectGuest g).mpi.attn = s.mpi.attn ∧ (s.connectGuest g).mpi.response = s.mpi.response ∧
      (s.connectGuest g).mpi.fifo = s.mpi.fifo ∧ (s.connectGuest g).mpi.lostReports = s.mpi.lostReports := by
  unfold connectGuest
  split <;> simp

@[simp] theorem takeConnect_keeps (x : Station) (tag : Tag) (j : Junctor) :
    (s.takeConnect x tag j).clk = s.clk ∧ (s.takeConnect x tag j).pending = s.pending ∧
      (s.takeConnect x tag j).pbc = s.pbc ∧ (s.takeConnect x tag j).pvt = s.pvt ∧
      (s.takeConnect x tag j).sps.map = s.sps.map ∧ (s.takeConnect x tag j).sps.sending = s.sps.sending ∧
      (s.takeConnect x tag j).sps.junctors = s.sps.junctors ∧ (s.takeConnect x tag j).sps.freeOrder = s.sps.freeOrder ∧
      (s.takeConnect x tag j).sps.holdoffOrder = s.sps.holdoffOrder ∧
      (s.takeConnect x tag j).lsi.trunks = s.lsi.trunks ∧ (s.takeConnect x tag j).lsi.positions = s.lsi.positions ∧
      (s.takeConnect x tag j).lsi.scanErrors = s.lsi.scanErrors ∧
      (s.takeConnect x tag j).lsi.scanOpen = s.lsi.scanOpen ∧ (s.takeConnect x tag j).mpi.mode = s.mpi.mode ∧
      (s.takeConnect x tag j).mpi.station = s.mpi.station ∧ (s.takeConnect x tag j).mpi.image = s.mpi.image ∧
      (s.takeConnect x tag j).mpi.pointer = s.mpi.pointer ∧ (s.takeConnect x tag j).mpi.attn = s.mpi.attn ∧
      (s.takeConnect x tag j).mpi.response = s.mpi.response := by
  unfold takeConnect
  simp only
  (repeat' split) <;> simp

@[simp] theorem takeWithdraw_keeps (x : Station) (tag : Tag) :
    (s.takeWithdraw x tag).clk = s.clk ∧ (s.takeWithdraw x tag).pending = s.pending ∧
      (s.takeWithdraw x tag).pbc = s.pbc ∧ (s.takeWithdraw x tag).pvt = s.pvt ∧ (s.takeWithdraw x tag).plc = s.plc ∧
      (s.takeWithdraw x tag).sps.map = s.sps.map ∧ (s.takeWithdraw x tag).sps.sending = s.sps.sending ∧
      (s.takeWithdraw x tag).sps.junctors = s.sps.junctors ∧ (s.takeWithdraw x tag).sps.freeOrder = s.sps.freeOrder ∧
      (s.takeWithdraw x tag).sps.holdoffOrder = s.sps.holdoffOrder ∧ (s.takeWithdraw x tag).lsi.trunks = s.lsi.trunks ∧
      (s.takeWithdraw x tag).lsi.positions = s.lsi.positions ∧
      (s.takeWithdraw x tag).lsi.scanErrors = s.lsi.scanErrors ∧ (s.takeWithdraw x tag).lsi.scanOpen = s.lsi.scanOpen ∧
      (s.takeWithdraw x tag).mpi.mode = s.mpi.mode ∧ (s.takeWithdraw x tag).mpi.station = s.mpi.station ∧
      (s.takeWithdraw x tag).mpi.image = s.mpi.image ∧ (s.takeWithdraw x tag).mpi.pointer = s.mpi.pointer ∧
      (s.takeWithdraw x tag).mpi.attn = s.mpi.attn ∧ (s.takeWithdraw x tag).mpi.response = s.mpi.response := by
  unfold takeWithdraw
  split <;> simp

@[simp] theorem offerExpiry_keeps (o : SlotNo) :
    (s.offerExpiry o).clk = s.clk ∧ (s.offerExpiry o).pending = s.pending ∧ (s.offerExpiry o).pbc = s.pbc ∧
      (s.offerExpiry o).pvt = s.pvt ∧ (s.offerExpiry o).est = s.est ∧ (s.offerExpiry o).plc = s.plc ∧
      (s.offerExpiry o).sps.map = s.sps.map ∧ (s.offerExpiry o).sps.sending = s.sps.sending ∧
      (s.offerExpiry o).sps.freeOrder = s.sps.freeOrder ∧ (s.offerExpiry o).lsi.trunks = s.lsi.trunks ∧
      (s.offerExpiry o).lsi.positions = s.lsi.positions ∧ (s.offerExpiry o).lsi.scanErrors = s.lsi.scanErrors ∧
      (s.offerExpiry o).lsi.scanOpen = s.lsi.scanOpen ∧ (s.offerExpiry o).mpi.mode = s.mpi.mode ∧
      (s.offerExpiry o).mpi.station = s.mpi.station ∧ (s.offerExpiry o).mpi.image = s.mpi.image ∧
      (s.offerExpiry o).mpi.pointer = s.mpi.pointer ∧ (s.offerExpiry o).mpi.attn = s.mpi.attn ∧
      (s.offerExpiry o).mpi.response = s.mpi.response ∧ (s.offerExpiry o).mpi.fifo = s.mpi.fifo ∧
      (s.offerExpiry o).mpi.lostReports = s.mpi.lostReports := by
  unfold offerExpiry
  split <;> simp

@[simp] theorem lentExpiry_keeps (t : Trunk) :
    (s.lentExpiry t).clk = s.clk ∧ (s.lentExpiry t).pending = s.pending ∧ (s.lentExpiry t).pbc = s.pbc ∧
      (s.lentExpiry t).pvt = s.pvt ∧ (s.lentExpiry t).est = s.est ∧ (s.lentExpiry t).sps.map = s.sps.map ∧
      (s.lentExpiry t).sps.sending = s.sps.sending ∧ (s.lentExpiry t).sps.freeOrder = s.sps.freeOrder ∧
      (s.lentExpiry t).lsi.trunks = s.lsi.trunks ∧ (s.lentExpiry t).lsi.positions = s.lsi.positions ∧
      (s.lentExpiry t).lsi.scanErrors = s.lsi.scanErrors ∧ (s.lentExpiry t).lsi.scanOpen = s.lsi.scanOpen ∧
      (s.lentExpiry t).mpi.mode = s.mpi.mode ∧ (s.lentExpiry t).mpi.station = s.mpi.station ∧
      (s.lentExpiry t).mpi.image = s.mpi.image ∧ (s.lentExpiry t).mpi.pointer = s.mpi.pointer ∧
      (s.lentExpiry t).mpi.attn = s.mpi.attn ∧ (s.lentExpiry t).mpi.response = s.mpi.response ∧
      (s.lentExpiry t).mpi.fifo = s.mpi.fifo ∧ (s.lentExpiry t).mpi.lostReports = s.mpi.lostReports := by
  unfold lentExpiry
  split <;> simp

@[simp] theorem connectExpiry_keeps (g : GuestNo) :
    (s.connectExpiry g).clk = s.clk ∧ (s.connectExpiry g).pending = s.pending ∧ (s.connectExpiry g).pbc = s.pbc ∧
      (s.connectExpiry g).pvt = s.pvt ∧ (s.connectExpiry g).sps.map = s.sps.map ∧
      (s.connectExpiry g).sps.sending = s.sps.sending ∧ (s.connectExpiry g).sps.junctors = s.sps.junctors ∧
      (s.connectExpiry g).sps.freeOrder = s.sps.freeOrder ∧ (s.connectExpiry g).sps.holdoffOrder = s.sps.holdoffOrder ∧
      (s.connectExpiry g).lsi.trunks = s.lsi.trunks ∧ (s.connectExpiry g).lsi.positions = s.lsi.positions ∧
      (s.connectExpiry g).lsi.scanErrors = s.lsi.scanErrors ∧ (s.connectExpiry g).lsi.scanOpen = s.lsi.scanOpen ∧
      (s.connectExpiry g).mpi.mode = s.mpi.mode ∧ (s.connectExpiry g).mpi.station = s.mpi.station ∧
      (s.connectExpiry g).mpi.image = s.mpi.image ∧ (s.connectExpiry g).mpi.pointer = s.mpi.pointer ∧
      (s.connectExpiry g).mpi.attn = s.mpi.attn ∧ (s.connectExpiry g).mpi.response = s.mpi.response := by
  unfold connectExpiry
  split <;> simp

@[simp] theorem makeOffer_keeps (q : QueueNo) (t : Trunk) (b : CallBody) (o : SlotNo) (j : Junctor) (x : Station) :
    (s.makeOffer q t b o j x).clk = s.clk ∧ (s.makeOffer q t b o j x).pending = s.pending ∧
      (s.makeOffer q t b o j x).pbc = s.pbc ∧ (s.makeOffer q t b o j x).est = s.est ∧
      (s.makeOffer q t b o j x).htu = s.htu ∧ (s.makeOffer q t b o j x).dsu = s.dsu ∧
      (s.makeOffer q t b o j x).sps.map = s.sps.map ∧ (s.makeOffer q t b o j x).sps.sending = s.sps.sending ∧
      (s.makeOffer q t b o j x).sps.holdoffOrder = s.sps.holdoffOrder ∧
      (s.makeOffer q t b o j x).lsi.trunks = s.lsi.trunks ∧
      (s.makeOffer q t b o j x).lsi.positions = s.lsi.positions ∧
      (s.makeOffer q t b o j x).lsi.orders = s.lsi.orders ∧
      (s.makeOffer q t b o j x).lsi.orderLosses = s.lsi.orderLosses ∧
      (s.makeOffer q t b o j x).lsi.scanErrors = s.lsi.scanErrors ∧
      (s.makeOffer q t b o j x).lsi.scanOpen = s.lsi.scanOpen ∧ (s.makeOffer q t b o j x).mpi.mode = s.mpi.mode ∧
      (s.makeOffer q t b o j x).mpi.station = s.mpi.station ∧ (s.makeOffer q t b o j x).mpi.image = s.mpi.image ∧
      (s.makeOffer q t b o j x).mpi.pointer = s.mpi.pointer ∧ (s.makeOffer q t b o j x).mpi.attn = s.mpi.attn ∧
      (s.makeOffer q t b o j x).mpi.response = s.mpi.response ∧ (s.makeOffer q t b o j x).mpi.fifo = s.mpi.fifo ∧
      (s.makeOffer q t b o j x).mpi.lostReports = s.mpi.lostReports := by
  simp [makeOffer]

@[simp] theorem scanQueue_keeps (q : QueueNo) :
    (s.scanQueue q).clk = s.clk ∧ (s.scanQueue q).pending = s.pending ∧ (s.scanQueue q).pbc = s.pbc ∧
      (s.scanQueue q).est = s.est ∧ (s.scanQueue q).htu = s.htu ∧ (s.scanQueue q).dsu = s.dsu ∧
      (s.scanQueue q).sps.map = s.sps.map ∧ (s.scanQueue q).sps.sending = s.sps.sending ∧
      (s.scanQueue q).sps.holdoffOrder = s.sps.holdoffOrder ∧ (s.scanQueue q).lsi.trunks = s.lsi.trunks ∧
      (s.scanQueue q).lsi.positions = s.lsi.positions ∧ (s.scanQueue q).lsi.orders = s.lsi.orders ∧
      (s.scanQueue q).lsi.orderLosses = s.lsi.orderLosses ∧ (s.scanQueue q).lsi.scanErrors = s.lsi.scanErrors ∧
      (s.scanQueue q).lsi.scanOpen = s.lsi.scanOpen ∧ (s.scanQueue q).mpi.mode = s.mpi.mode ∧
      (s.scanQueue q).mpi.station = s.mpi.station ∧ (s.scanQueue q).mpi.image = s.mpi.image ∧
      (s.scanQueue q).mpi.pointer = s.mpi.pointer ∧ (s.scanQueue q).mpi.attn = s.mpi.attn ∧
      (s.scanQueue q).mpi.response = s.mpi.response ∧ (s.scanQueue q).mpi.fifo = s.mpi.fifo ∧
      (s.scanQueue q).mpi.lostReports = s.mpi.lostReports := by
  unfold scanQueue
  split
  · simp
  · split
    · simp
    · split
      · split <;> simp
      · simp

@[simp] theorem scanQueues_keeps (l : List QueueNo) :
    (l.foldl (scanQueue) s).clk = s.clk ∧ (l.foldl (scanQueue) s).pending = s.pending ∧
      (l.foldl (scanQueue) s).pbc = s.pbc ∧ (l.foldl (scanQueue) s).est = s.est ∧ (l.foldl (scanQueue) s).htu = s.htu ∧
      (l.foldl (scanQueue) s).dsu = s.dsu ∧ (l.foldl (scanQueue) s).sps.map = s.sps.map ∧
      (l.foldl (scanQueue) s).sps.sending = s.sps.sending ∧
      (l.foldl (scanQueue) s).sps.holdoffOrder = s.sps.holdoffOrder ∧
      (l.foldl (scanQueue) s).lsi.trunks = s.lsi.trunks ∧ (l.foldl (scanQueue) s).lsi.positions = s.lsi.positions ∧
      (l.foldl (scanQueue) s).lsi.orders = s.lsi.orders ∧ (l.foldl (scanQueue) s).lsi.orderLosses = s.lsi.orderLosses ∧
      (l.foldl (scanQueue) s).lsi.scanErrors = s.lsi.scanErrors ∧
      (l.foldl (scanQueue) s).lsi.scanOpen = s.lsi.scanOpen ∧ (l.foldl (scanQueue) s).mpi.mode = s.mpi.mode ∧
      (l.foldl (scanQueue) s).mpi.station = s.mpi.station ∧ (l.foldl (scanQueue) s).mpi.image = s.mpi.image ∧
      (l.foldl (scanQueue) s).mpi.pointer = s.mpi.pointer ∧ (l.foldl (scanQueue) s).mpi.attn = s.mpi.attn ∧
      (l.foldl (scanQueue) s).mpi.response = s.mpi.response ∧ (l.foldl (scanQueue) s).mpi.fifo = s.mpi.fifo ∧
      (l.foldl (scanQueue) s).mpi.lostReports = s.mpi.lostReports := by
  induction l generalizing s with
  | nil => simp
  | cons b l ih => simpa using ih (s.scanQueue b)

@[simp] theorem offerScan_keeps :
    (s.offerScan).clk = s.clk ∧ (s.offerScan).pending = s.pending ∧ (s.offerScan).pbc = s.pbc ∧
      (s.offerScan).est = s.est ∧ (s.offerScan).htu = s.htu ∧ (s.offerScan).dsu = s.dsu ∧
      (s.offerScan).sps.map = s.sps.map ∧ (s.offerScan).sps.sending = s.sps.sending ∧
      (s.offerScan).sps.holdoffOrder = s.sps.holdoffOrder ∧ (s.offerScan).lsi.trunks = s.lsi.trunks ∧
      (s.offerScan).lsi.positions = s.lsi.positions ∧ (s.offerScan).lsi.orders = s.lsi.orders ∧
      (s.offerScan).lsi.orderLosses = s.lsi.orderLosses ∧ (s.offerScan).lsi.scanErrors = s.lsi.scanErrors ∧
      (s.offerScan).lsi.scanOpen = s.lsi.scanOpen ∧ (s.offerScan).mpi.mode = s.mpi.mode ∧
      (s.offerScan).mpi.station = s.mpi.station ∧ (s.offerScan).mpi.image = s.mpi.image ∧
      (s.offerScan).mpi.pointer = s.mpi.pointer ∧ (s.offerScan).mpi.attn = s.mpi.attn ∧
      (s.offerScan).mpi.response = s.mpi.response ∧ (s.offerScan).mpi.fifo = s.mpi.fifo ∧
      (s.offerScan).mpi.lostReports = s.mpi.lostReports := by
  simp [offerScan]

end Sys2Proof.Machine.State
end

