-- ==== Sys2Proof/Laws/Clock.lean ====
section
/-! SUPPORT. What each operation of Clock.lean keeps: every piece of State that it does not write. -/

namespace Sys2Proof.Machine.State

variable (s : State)

@[simp] theorem reconcile_keeps (before : State) (x : Station) (m : Vector (Option Station) 8) :
    (s.reconcile before x m).clk = s.clk ∧ (s.reconcile before x m).pending = s.pending ∧
      (s.reconcile before x m).pbc = s.pbc ∧ (s.reconcile before x m).pvt = s.pvt ∧
      (s.reconcile before x m).plc = s.plc ∧ (s.reconcile before x m).sps.map = s.sps.map ∧
      (s.reconcile before x m).sps.sending = s.sps.sending ∧ (s.reconcile before x m).sps.junctors = s.sps.junctors ∧
      (s.reconcile before x m).sps.freeOrder = s.sps.freeOrder ∧
      (s.reconcile before x m).sps.holdoffOrder = s.sps.holdoffOrder ∧
      (s.reconcile before x m).lsi.trunks = s.lsi.trunks ∧ (s.reconcile before x m).lsi.positions = s.lsi.positions ∧
      (s.reconcile before x m).lsi.scanErrors = s.lsi.scanErrors ∧
      (s.reconcile before x m).lsi.scanOpen = s.lsi.scanOpen ∧ (s.reconcile before x m).mpi.mode = s.mpi.mode ∧
      (s.reconcile before x m).mpi.station = s.mpi.station ∧ (s.reconcile before x m).mpi.image = s.mpi.image ∧
      (s.reconcile before x m).mpi.pointer = s.mpi.pointer ∧ (s.reconcile before x m).mpi.attn = s.mpi.attn ∧
      (s.reconcile before x m).mpi.response = s.mpi.response := by
  simp [reconcile]

@[simp] theorem takeNotice_keeps (x : Station) (n : Notice) :
    (s.takeNotice x n).clk = s.clk ∧ (s.takeNotice x n).pending = s.pending ∧ (s.takeNotice x n).pbc = s.pbc ∧
      (s.takeNotice x n).plc = s.plc ∧ (s.takeNotice x n).sps.map = s.sps.map ∧
      (s.takeNotice x n).sps.sending = s.sps.sending ∧ (s.takeNotice x n).sps.freeOrder = s.sps.freeOrder ∧
      (s.takeNotice x n).lsi.trunks = s.lsi.trunks ∧ (s.takeNotice x n).lsi.positions = s.lsi.positions ∧
      (s.takeNotice x n).lsi.scanErrors = s.lsi.scanErrors ∧ (s.takeNotice x n).lsi.scanOpen = s.lsi.scanOpen ∧
      (s.takeNotice x n).mpi.mode = s.mpi.mode ∧ (s.takeNotice x n).mpi.station = s.mpi.station ∧
      (s.takeNotice x n).mpi.image = s.mpi.image ∧ (s.takeNotice x n).mpi.pointer = s.mpi.pointer ∧
      (s.takeNotice x n).mpi.attn = s.mpi.attn ∧ (s.takeNotice x n).mpi.response = s.mpi.response := by
  unfold takeNotice
  simp only
  (repeat' split) <;> simp

@[simp] theorem presenceExpiry_keeps (x : Station) :
    (s.presenceExpiry x).clk = s.clk ∧ (s.presenceExpiry x).pending = s.pending ∧ (s.presenceExpiry x).pbc = s.pbc ∧
      (s.presenceExpiry x).plc = s.plc ∧ (s.presenceExpiry x).sps.map = s.sps.map ∧
      (s.presenceExpiry x).sps.sending = s.sps.sending ∧ (s.presenceExpiry x).sps.freeOrder = s.sps.freeOrder ∧
      (s.presenceExpiry x).lsi.trunks = s.lsi.trunks ∧ (s.presenceExpiry x).lsi.positions = s.lsi.positions ∧
      (s.presenceExpiry x).lsi.scanErrors = s.lsi.scanErrors ∧ (s.presenceExpiry x).lsi.scanOpen = s.lsi.scanOpen ∧
      (s.presenceExpiry x).mpi.mode = s.mpi.mode ∧ (s.presenceExpiry x).mpi.station = s.mpi.station ∧
      (s.presenceExpiry x).mpi.image = s.mpi.image ∧ (s.presenceExpiry x).mpi.pointer = s.mpi.pointer ∧
      (s.presenceExpiry x).mpi.attn = s.mpi.attn ∧ (s.presenceExpiry x).mpi.response = s.mpi.response := by
  unfold presenceExpiry
  split <;> simp

@[simp] theorem periodExpiry_keeps :
    (s.periodExpiry).clk = s.clk ∧ (s.periodExpiry).pending = s.pending ∧ (s.periodExpiry).pbc = s.pbc ∧
      (s.periodExpiry).est = s.est ∧ (s.periodExpiry).htu = s.htu ∧ (s.periodExpiry).ofu = s.ofu ∧
      (s.periodExpiry).cqm = s.cqm ∧ (s.periodExpiry).dsu = s.dsu ∧ (s.periodExpiry).sps.map = s.sps.map ∧
      (s.periodExpiry).sps.sending = s.sps.sending ∧ (s.periodExpiry).sps.junctors = s.sps.junctors ∧
      (s.periodExpiry).sps.freeOrder = s.sps.freeOrder ∧ (s.periodExpiry).sps.holdoffOrder = s.sps.holdoffOrder ∧
      (s.periodExpiry).lsi.trunks = s.lsi.trunks ∧ (s.periodExpiry).lsi.positions = s.lsi.positions ∧
      (s.periodExpiry).lsi.orders = s.lsi.orders ∧ (s.periodExpiry).lsi.orderLosses = s.lsi.orderLosses ∧
      (s.periodExpiry).lsi.scanErrors = s.lsi.scanErrors ∧ (s.periodExpiry).lsi.scanOpen = s.lsi.scanOpen ∧
      (s.periodExpiry).mpi.mode = s.mpi.mode ∧ (s.periodExpiry).mpi.station = s.mpi.station ∧
      (s.periodExpiry).mpi.image = s.mpi.image ∧ (s.periodExpiry).mpi.pointer = s.mpi.pointer ∧
      (s.periodExpiry).mpi.attn = s.mpi.attn ∧ (s.periodExpiry).mpi.response = s.mpi.response ∧
      (s.periodExpiry).mpi.fifo = s.mpi.fifo ∧ (s.periodExpiry).mpi.lostReports = s.mpi.lostReports := by
  simp [periodExpiry]

@[simp] theorem dropTried_keeps :
    (s.dropTried).clk = s.clk ∧ (s.dropTried).pending = s.pending ∧ (s.dropTried).pbc = s.pbc ∧
      (s.dropTried).pvt = s.pvt ∧ (s.dropTried).est = s.est ∧ (s.dropTried).htu = s.htu ∧ (s.dropTried).ofu = s.ofu ∧
      (s.dropTried).cqm = s.cqm ∧ (s.dropTried).dsu = s.dsu ∧ (s.dropTried).sps.map = s.sps.map ∧
      (s.dropTried).sps.sending = s.sps.sending ∧ (s.dropTried).sps.junctors = s.sps.junctors ∧
      (s.dropTried).sps.freeOrder = s.sps.freeOrder ∧ (s.dropTried).sps.holdoffOrder = s.sps.holdoffOrder ∧
      (s.dropTried).lsi.trunks = s.lsi.trunks ∧ (s.dropTried).lsi.positions = s.lsi.positions ∧
      (s.dropTried).lsi.orders = s.lsi.orders ∧ (s.dropTried).lsi.orderLosses = s.lsi.orderLosses ∧
      (s.dropTried).lsi.scanErrors = s.lsi.scanErrors ∧ (s.dropTried).lsi.scanOpen = s.lsi.scanOpen ∧
      (s.dropTried).mpi.mode = s.mpi.mode ∧ (s.dropTried).mpi.station = s.mpi.station ∧
      (s.dropTried).mpi.image = s.mpi.image ∧ (s.dropTried).mpi.pointer = s.mpi.pointer ∧
      (s.dropTried).mpi.attn = s.mpi.attn ∧ (s.dropTried).mpi.response = s.mpi.response ∧
      (s.dropTried).mpi.fifo = s.mpi.fifo ∧ (s.dropTried).mpi.lostReports = s.mpi.lostReports := by
  simp [dropTried]

@[simp] theorem failDropped_keeps (f : Frame) :
    (s.failDropped f).clk = s.clk ∧ (s.failDropped f).pending = s.pending ∧ (s.failDropped f).pbc = s.pbc ∧
      (s.failDropped f).pvt = s.pvt ∧ (s.failDropped f).est = s.est ∧ (s.failDropped f).plc = s.plc ∧
      (s.failDropped f).sps.map = s.sps.map ∧ (s.failDropped f).sps.sending = s.sps.sending ∧
      (s.failDropped f).sps.freeOrder = s.sps.freeOrder ∧ (s.failDropped f).lsi.trunks = s.lsi.trunks ∧
      (s.failDropped f).lsi.positions = s.lsi.positions ∧ (s.failDropped f).lsi.scanErrors = s.lsi.scanErrors ∧
      (s.failDropped f).lsi.scanOpen = s.lsi.scanOpen ∧ (s.failDropped f).mpi.mode = s.mpi.mode ∧
      (s.failDropped f).mpi.station = s.mpi.station ∧ (s.failDropped f).mpi.image = s.mpi.image ∧
      (s.failDropped f).mpi.pointer = s.mpi.pointer ∧ (s.failDropped f).mpi.attn = s.mpi.attn ∧
      (s.failDropped f).mpi.response = s.mpi.response ∧ (s.failDropped f).mpi.fifo = s.mpi.fifo ∧
      (s.failDropped f).mpi.lostReports = s.mpi.lostReports := by
  unfold failDropped
  split
  · split <;> simp
  · simp

@[simp] theorem tellDropped_keeps (e : TxEntry) :
    (s.tellDropped e).clk = s.clk ∧ (s.tellDropped e).pending = s.pending ∧ (s.tellDropped e).pbc = s.pbc ∧
      (s.tellDropped e).pvt = s.pvt ∧ (s.tellDropped e).est = s.est ∧ (s.tellDropped e).sps.map = s.sps.map ∧
      (s.tellDropped e).sps.sending = s.sps.sending ∧ (s.tellDropped e).sps.freeOrder = s.sps.freeOrder ∧
      (s.tellDropped e).lsi.trunks = s.lsi.trunks ∧ (s.tellDropped e).lsi.positions = s.lsi.positions ∧
      (s.tellDropped e).lsi.scanErrors = s.lsi.scanErrors ∧ (s.tellDropped e).lsi.scanOpen = s.lsi.scanOpen ∧
      (s.tellDropped e).mpi.mode = s.mpi.mode ∧ (s.tellDropped e).mpi.station = s.mpi.station ∧
      (s.tellDropped e).mpi.image = s.mpi.image ∧ (s.tellDropped e).mpi.pointer = s.mpi.pointer ∧
      (s.tellDropped e).mpi.attn = s.mpi.attn ∧ (s.tellDropped e).mpi.response = s.mpi.response ∧
      (s.tellDropped e).mpi.fifo = s.mpi.fifo ∧ (s.tellDropped e).mpi.lostReports = s.mpi.lostReports := by
  unfold tellDropped
  split <;> simp

@[simp] theorem attemptLost_keeps :
    (s.attemptLost).clk = s.clk ∧ (s.attemptLost).pending = s.pending ∧ (s.attemptLost).pbc = s.pbc ∧
      (s.attemptLost).pvt = s.pvt ∧ (s.attemptLost).est = s.est ∧ (s.attemptLost).sps.map = s.sps.map ∧
      (s.attemptLost).sps.sending = s.sps.sending ∧ (s.attemptLost).sps.freeOrder = s.sps.freeOrder ∧
      (s.attemptLost).lsi.trunks = s.lsi.trunks ∧ (s.attemptLost).lsi.positions = s.lsi.positions ∧
      (s.attemptLost).lsi.scanErrors = s.lsi.scanErrors ∧ (s.attemptLost).lsi.scanOpen = s.lsi.scanOpen ∧
      (s.attemptLost).mpi.mode = s.mpi.mode ∧ (s.attemptLost).mpi.station = s.mpi.station ∧
      (s.attemptLost).mpi.image = s.mpi.image ∧ (s.attemptLost).mpi.pointer = s.mpi.pointer ∧
      (s.attemptLost).mpi.attn = s.mpi.attn ∧ (s.attemptLost).mpi.response = s.mpi.response ∧
      (s.attemptLost).mpi.fifo = s.mpi.fifo ∧ (s.attemptLost).mpi.lostReports = s.mpi.lostReports := by
  unfold attemptLost
  simp only
  (repeat' split) <;> simp

@[simp] theorem attemptDone_keeps (c : List Byte) :
    (s.attemptDone c).clk = s.clk ∧ (s.attemptDone c).pending = s.pending ∧ (s.attemptDone c).pbc = s.pbc ∧
      (s.attemptDone c).pvt = s.pvt ∧ (s.attemptDone c).est = s.est ∧ (s.attemptDone c).htu = s.htu ∧
      (s.attemptDone c).ofu = s.ofu ∧ (s.attemptDone c).cqm = s.cqm ∧ (s.attemptDone c).dsu = s.dsu ∧
      (s.attemptDone c).sps.map = s.sps.map ∧ (s.attemptDone c).sps.sending = s.sps.sending ∧
      (s.attemptDone c).sps.junctors = s.sps.junctors ∧ (s.attemptDone c).sps.freeOrder = s.sps.freeOrder ∧
      (s.attemptDone c).sps.holdoffOrder = s.sps.holdoffOrder ∧ (s.attemptDone c).lsi.trunks = s.lsi.trunks ∧
      (s.attemptDone c).lsi.positions = s.lsi.positions ∧ (s.attemptDone c).lsi.orders = s.lsi.orders ∧
      (s.attemptDone c).lsi.orderLosses = s.lsi.orderLosses ∧ (s.attemptDone c).lsi.scanErrors = s.lsi.scanErrors ∧
      (s.attemptDone c).lsi.scanOpen = s.lsi.scanOpen ∧ (s.attemptDone c).mpi.mode = s.mpi.mode ∧
      (s.attemptDone c).mpi.station = s.mpi.station ∧ (s.attemptDone c).mpi.image = s.mpi.image ∧
      (s.attemptDone c).mpi.pointer = s.mpi.pointer ∧ (s.attemptDone c).mpi.attn = s.mpi.attn ∧
      (s.attemptDone c).mpi.response = s.mpi.response ∧ (s.attemptDone c).mpi.fifo = s.mpi.fifo ∧
      (s.attemptDone c).mpi.lostReports = s.mpi.lostReports := by
  unfold attemptDone
  simp only
  (repeat' split) <;> simp

@[simp] theorem deliver_keeps (x : Station) (p : Payload) :
    (s.deliver x p).clk = s.clk ∧ (s.deliver x p).pending = s.pending ∧ (s.deliver x p).pbc = s.pbc ∧
      (s.deliver x p).sps.map = s.sps.map ∧ (s.deliver x p).sps.sending = s.sps.sending ∧
      (s.deliver x p).sps.freeOrder = s.sps.freeOrder ∧ (s.deliver x p).lsi.positions = s.lsi.positions ∧
      (s.deliver x p).lsi.scanErrors = s.lsi.scanErrors ∧ (s.deliver x p).lsi.scanOpen = s.lsi.scanOpen ∧
      (s.deliver x p).mpi.mode = s.mpi.mode ∧ (s.deliver x p).mpi.station = s.mpi.station ∧
      (s.deliver x p).mpi.image = s.mpi.image ∧ (s.deliver x p).mpi.pointer = s.mpi.pointer ∧
      (s.deliver x p).mpi.attn = s.mpi.attn ∧ (s.deliver x p).mpi.response = s.mpi.response := by
  unfold deliver
  split <;> simp

@[simp] theorem takeRx_keeps (r : RxResult) :
    (s.takeRx r).clk = s.clk ∧ (s.takeRx r).pending = s.pending ∧ (s.takeRx r).pbc = s.pbc ∧
      (s.takeRx r).sps.map = s.sps.map ∧ (s.takeRx r).sps.sending = s.sps.sending ∧
      (s.takeRx r).sps.freeOrder = s.sps.freeOrder ∧ (s.takeRx r).lsi.positions = s.lsi.positions ∧
      (s.takeRx r).lsi.scanErrors = s.lsi.scanErrors ∧ (s.takeRx r).lsi.scanOpen = s.lsi.scanOpen ∧
      (s.takeRx r).mpi.mode = s.mpi.mode ∧ (s.takeRx r).mpi.station = s.mpi.station ∧
      (s.takeRx r).mpi.image = s.mpi.image ∧ (s.takeRx r).mpi.pointer = s.mpi.pointer ∧
      (s.takeRx r).mpi.attn = s.mpi.attn ∧ (s.takeRx r).mpi.response = s.mpi.response := by
  unfold takeRx
  split <;> simp

@[simp] theorem frameEnds_keeps (b : Bool) :
    (s.frameEnds b).clk = s.clk ∧ (s.frameEnds b).pending = s.pending ∧ (s.frameEnds b).pbc = s.pbc ∧
      (s.frameEnds b).pvt = s.pvt ∧ (s.frameEnds b).est = s.est ∧ (s.frameEnds b).htu = s.htu ∧
      (s.frameEnds b).ofu = s.ofu ∧ (s.frameEnds b).cqm = s.cqm ∧ (s.frameEnds b).dsu = s.dsu ∧
      (s.frameEnds b).sps.map = s.sps.map ∧ (s.frameEnds b).sps.sending = s.sps.sending ∧
      (s.frameEnds b).sps.junctors = s.sps.junctors ∧ (s.frameEnds b).sps.freeOrder = s.sps.freeOrder ∧
      (s.frameEnds b).sps.holdoffOrder = s.sps.holdoffOrder ∧ (s.frameEnds b).lsi.trunks = s.lsi.trunks ∧
      (s.frameEnds b).lsi.positions = s.lsi.positions ∧ (s.frameEnds b).lsi.orders = s.lsi.orders ∧
      (s.frameEnds b).lsi.orderLosses = s.lsi.orderLosses ∧ (s.frameEnds b).lsi.scanErrors = s.lsi.scanErrors ∧
      (s.frameEnds b).lsi.scanOpen = s.lsi.scanOpen ∧ (s.frameEnds b).mpi.mode = s.mpi.mode ∧
      (s.frameEnds b).mpi.station = s.mpi.station ∧ (s.frameEnds b).mpi.image = s.mpi.image ∧
      (s.frameEnds b).mpi.pointer = s.mpi.pointer ∧ (s.frameEnds b).mpi.attn = s.mpi.attn ∧
      (s.frameEnds b).mpi.response = s.mpi.response ∧ (s.frameEnds b).mpi.fifo = s.mpi.fifo ∧
      (s.frameEnds b).mpi.lostReports = s.mpi.lostReports := by
  simp [frameEnds]

@[simp] theorem frameReceived_keeps (c : List Byte) (d e : Bool) :
    (s.frameReceived c d e).clk = s.clk ∧ (s.frameReceived c d e).pending = s.pending ∧
      (s.frameReceived c d e).pbc = s.pbc ∧ (s.frameReceived c d e).sps.sending = s.sps.sending ∧ (s.frameReceived c d e).sps.freeOrder = s.sps.freeOrder ∧
      (s.frameReceived c d e).lsi.positions = s.lsi.positions ∧
      (s.frameReceived c d e).lsi.scanErrors = s.lsi.scanErrors ∧
      (s.frameReceived c d e).lsi.scanOpen = s.lsi.scanOpen ∧ (s.frameReceived c d e).mpi.mode = s.mpi.mode ∧
      (s.frameReceived c d e).mpi.station = s.mpi.station ∧ (s.frameReceived c d e).mpi.image = s.mpi.image ∧
      (s.frameReceived c d e).mpi.pointer = s.mpi.pointer ∧ (s.frameReceived c d e).mpi.response = s.mpi.response := by
  unfold frameReceived event
  simp only
  (repeat' split) <;> simp

@[simp] theorem becomeDue_keeps (t : Trunk) :
    (s.becomeDue t).clk = s.clk ∧ (s.becomeDue t).pending = s.pending ∧ (s.becomeDue t).pbc = s.pbc ∧
      (s.becomeDue t).pvt = s.pvt ∧ (s.becomeDue t).est = s.est ∧ (s.becomeDue t).htu = s.htu ∧
      (s.becomeDue t).plc = s.plc ∧ (s.becomeDue t).ofu = s.ofu ∧ (s.becomeDue t).dsu = s.dsu ∧
      (s.becomeDue t).sps.map = s.sps.map ∧ (s.becomeDue t).sps.sending = s.sps.sending ∧
      (s.becomeDue t).sps.junctors = s.sps.junctors ∧ (s.becomeDue t).sps.freeOrder = s.sps.freeOrder ∧
      (s.becomeDue t).sps.holdoffOrder = s.sps.holdoffOrder ∧ (s.becomeDue t).lsi.trunks = s.lsi.trunks ∧
      (s.becomeDue t).lsi.positions = s.lsi.positions ∧ (s.becomeDue t).lsi.orders = s.lsi.orders ∧
      (s.becomeDue t).lsi.orderLosses = s.lsi.orderLosses ∧ (s.becomeDue t).lsi.scanErrors = s.lsi.scanErrors ∧
      (s.becomeDue t).lsi.scanOpen = s.lsi.scanOpen ∧ (s.becomeDue t).mpi.mode = s.mpi.mode ∧
      (s.becomeDue t).mpi.station = s.mpi.station ∧ (s.becomeDue t).mpi.image = s.mpi.image ∧
      (s.becomeDue t).mpi.pointer = s.mpi.pointer ∧ (s.becomeDue t).mpi.attn = s.mpi.attn ∧
      (s.becomeDue t).mpi.response = s.mpi.response ∧ (s.becomeDue t).mpi.fifo = s.mpi.fifo ∧
      (s.becomeDue t).mpi.lostReports = s.mpi.lostReports := by
  simp [becomeDue]

@[simp] theorem endHoldoffs_keeps :
    (s.endHoldoffs).clk = s.clk ∧ (s.endHoldoffs).pending = s.pending ∧ (s.endHoldoffs).pbc = s.pbc ∧
      (s.endHoldoffs).pvt = s.pvt ∧ (s.endHoldoffs).est = s.est ∧ (s.endHoldoffs).htu = s.htu ∧
      (s.endHoldoffs).plc = s.plc ∧ (s.endHoldoffs).ofu = s.ofu ∧ (s.endHoldoffs).cqm = s.cqm ∧
      (s.endHoldoffs).dsu = s.dsu ∧ (s.endHoldoffs).sps.map = s.sps.map ∧ (s.endHoldoffs).sps.sending = s.sps.sending ∧
      (s.endHoldoffs).lsi.trunks = s.lsi.trunks ∧ (s.endHoldoffs).lsi.positions = s.lsi.positions ∧
      (s.endHoldoffs).lsi.orders = s.lsi.orders ∧ (s.endHoldoffs).lsi.orderLosses = s.lsi.orderLosses ∧
      (s.endHoldoffs).lsi.scanErrors = s.lsi.scanErrors ∧ (s.endHoldoffs).lsi.scanOpen = s.lsi.scanOpen ∧
      (s.endHoldoffs).mpi.mode = s.mpi.mode ∧ (s.endHoldoffs).mpi.station = s.mpi.station ∧
      (s.endHoldoffs).mpi.image = s.mpi.image ∧ (s.endHoldoffs).mpi.pointer = s.mpi.pointer ∧
      (s.endHoldoffs).mpi.attn = s.mpi.attn ∧ (s.endHoldoffs).mpi.response = s.mpi.response ∧
      (s.endHoldoffs).mpi.fifo = s.mpi.fifo ∧ (s.endHoldoffs).mpi.lostReports = s.mpi.lostReports := by
  unfold endHoldoffs
  simp only
  generalize s.sps.holdoffOrder.filter s.holdoffReached = l
  have h (v : State) : ∃ r, l.foldl (fun u j => u.setJunctor j .free) v = { v with sps := { v.sps with junctors := r } } := by
    induction l generalizing v with
    | nil => exact ⟨v.sps.junctors, rfl⟩
    | cons j l ih =>
      obtain ⟨r, h⟩ := ih (v.setJunctor j .free)
      exact ⟨r, h⟩
  obtain ⟨r, h⟩ := h s
  simp [h]

@[simp] theorem tickEvent_keeps (e : TickEvent) :
    (s.tickEvent e).clk = s.clk ∧ (s.tickEvent e).pending = s.pending ∧ (s.tickEvent e).pbc = s.pbc ∧ (s.tickEvent e).sps.sending = s.sps.sending ∧
      (s.tickEvent e).lsi.scanOpen = s.lsi.scanOpen ∧ (s.tickEvent e).mpi.mode = s.mpi.mode ∧
      (s.tickEvent e).mpi.station = s.mpi.station ∧ (s.tickEvent e).mpi.image = s.mpi.image ∧
      (s.tickEvent e).mpi.pointer = s.mpi.pointer ∧ (s.tickEvent e).mpi.response = s.mpi.response := by
  have key (f : State → State) (h : s.tickWork e = some f) :
    (s.event f).clk = s.clk ∧ (s.event f).pending = s.pending ∧ (s.event f).pbc = s.pbc ∧ (s.event f).sps.sending = s.sps.sending ∧
      (s.event f).lsi.scanOpen = s.lsi.scanOpen ∧ (s.event f).mpi.mode = s.mpi.mode ∧
      (s.event f).mpi.station = s.mpi.station ∧ (s.event f).mpi.image = s.mpi.image ∧
      (s.event f).mpi.pointer = s.mpi.pointer ∧ (s.event f).mpi.response = s.mpi.response := by
    unfold tickWork at h
    (repeat' split at h) <;> simp only [Option.map_eq_some_iff, Option.some.injEq, reduceCtorEq] at h <;>
      first
        | (subst h; simp [event])
        | (obtain ⟨x, -, rfl⟩ := h; simp [event])
  unfold tickEvent
  split
  · exact key _ (by assumption)
  · simp

@[simp] theorem tickEvents_fold_keeps (l : List TickEvent) :
    (l.foldl (tickEvent) s).clk = s.clk ∧ (l.foldl (tickEvent) s).pending = s.pending ∧
      (l.foldl (tickEvent) s).pbc = s.pbc ∧ (l.foldl (tickEvent) s).sps.sending = s.sps.sending ∧ (l.foldl (tickEvent) s).lsi.scanOpen = s.lsi.scanOpen ∧
      (l.foldl (tickEvent) s).mpi.mode = s.mpi.mode ∧ (l.foldl (tickEvent) s).mpi.station = s.mpi.station ∧
      (l.foldl (tickEvent) s).mpi.image = s.mpi.image ∧ (l.foldl (tickEvent) s).mpi.pointer = s.mpi.pointer ∧
      (l.foldl (tickEvent) s).mpi.response = s.mpi.response := by
  induction l generalizing s with
  | nil => simp
  | cons b l ih => simpa using ih (s.tickEvent b)

@[simp] theorem tickEvents_keeps (l : List TickEvent) :
    (s.tickEvents l).clk = s.clk ∧ (s.tickEvents l).pending = s.pending ∧ (s.tickEvents l).pbc = s.pbc ∧ (s.tickEvents l).sps.sending = s.sps.sending ∧
      (s.tickEvents l).lsi.scanOpen = s.lsi.scanOpen ∧ (s.tickEvents l).mpi.mode = s.mpi.mode ∧
      (s.tickEvents l).mpi.station = s.mpi.station ∧ (s.tickEvents l).mpi.image = s.mpi.image ∧
      (s.tickEvents l).mpi.pointer = s.mpi.pointer ∧ (s.tickEvents l).mpi.response = s.mpi.response := by
  simp [tickEvents]

@[simp] theorem drainDivisions_keeps :
    (s.drainDivisions).clk = s.clk ∧ (s.drainDivisions).pending = s.pending ∧ (s.drainDivisions).pbc = s.pbc ∧ (s.drainDivisions).sps.sending = s.sps.sending ∧
      (s.drainDivisions).lsi.scanOpen = s.lsi.scanOpen ∧ (s.drainDivisions).mpi.mode = s.mpi.mode ∧
      (s.drainDivisions).mpi.station = s.mpi.station ∧ (s.drainDivisions).mpi.image = s.mpi.image ∧
      (s.drainDivisions).mpi.pointer = s.mpi.pointer ∧ (s.drainDivisions).mpi.response = s.mpi.response := by
  simp [drainDivisions]

/-- All that counting pulses does: the two counts, the ticks and boundaries that fall due, and the paths of the frame that
begins. -/
theorem countPulses_eq (n : Nat) :
    s.countPulses n =
      { s with
        clk := { s.clk with
          frameCount := (s.clk.frameCount + n) % 800
          ticksDue := s.clk.ticksDue + (s.clk.frameCount + n) / 800 }
        pbc := { s.pbc with
          blockFrameCount := (s.pbc.blockFrameCount + n) % 256
          boundariesDue := s.pbc.boundariesDue + (s.pbc.blockFrameCount + n) / 256 }
        sps := { s.sps with sending := if n = 0 then s.sps.sending else s.framePaths } } := by
  unfold countPulses
  simp only
  split <;> rfl

@[simp] theorem countPulses_keeps (n : Nat) :
    (s.countPulses n).pending = s.pending ∧ (s.countPulses n).pvt = s.pvt ∧ (s.countPulses n).est = s.est ∧
      (s.countPulses n).htu = s.htu ∧ (s.countPulses n).plc = s.plc ∧ (s.countPulses n).ofu = s.ofu ∧
      (s.countPulses n).cqm = s.cqm ∧ (s.countPulses n).dsu = s.dsu ∧ (s.countPulses n).sps.map = s.sps.map ∧
      (s.countPulses n).sps.junctors = s.sps.junctors ∧ (s.countPulses n).sps.freeOrder = s.sps.freeOrder ∧
      (s.countPulses n).sps.holdoffOrder = s.sps.holdoffOrder ∧ (s.countPulses n).lsi.trunks = s.lsi.trunks ∧
      (s.countPulses n).lsi.positions = s.lsi.positions ∧ (s.countPulses n).lsi.orders = s.lsi.orders ∧
      (s.countPulses n).lsi.orderLosses = s.lsi.orderLosses ∧ (s.countPulses n).lsi.scanErrors = s.lsi.scanErrors ∧
      (s.countPulses n).lsi.scanOpen = s.lsi.scanOpen ∧ (s.countPulses n).mpi.mode = s.mpi.mode ∧
      (s.countPulses n).mpi.station = s.mpi.station ∧ (s.countPulses n).mpi.image = s.mpi.image ∧
      (s.countPulses n).mpi.pointer = s.mpi.pointer ∧ (s.countPulses n).mpi.attn = s.mpi.attn ∧
      (s.countPulses n).mpi.response = s.mpi.response ∧ (s.countPulses n).mpi.fifo = s.mpi.fifo ∧
      (s.countPulses n).mpi.lostReports = s.mpi.lostReports ∧ (s.countPulses n).clk.tickCount = s.clk.tickCount ∧
      (s.countPulses n).pbc.channels = s.pbc.channels ∧ (s.countPulses n).pbc.port = s.pbc.port := by
  simp [countPulses_eq]

@[simp] theorem advance_keeps :
    (s.advance).pending = s.pending ∧ (s.advance).pvt = s.pvt ∧ (s.advance).est = s.est ∧ (s.advance).htu = s.htu ∧
      (s.advance).plc = s.plc ∧ (s.advance).ofu = s.ofu ∧ (s.advance).cqm = s.cqm ∧ (s.advance).dsu = s.dsu ∧
      (s.advance).sps.map = s.sps.map ∧ (s.advance).sps.junctors = s.sps.junctors ∧
      (s.advance).sps.freeOrder = s.sps.freeOrder ∧ (s.advance).sps.holdoffOrder = s.sps.holdoffOrder ∧
      (s.advance).lsi.trunks = s.lsi.trunks ∧ (s.advance).lsi.positions = s.lsi.positions ∧
      (s.advance).lsi.orders = s.lsi.orders ∧ (s.advance).lsi.orderLosses = s.lsi.orderLosses ∧
      (s.advance).lsi.scanErrors = s.lsi.scanErrors ∧ (s.advance).lsi.scanOpen = s.lsi.scanOpen ∧
      (s.advance).mpi.mode = s.mpi.mode ∧ (s.advance).mpi.station = s.mpi.station ∧
      (s.advance).mpi.image = s.mpi.image ∧ (s.advance).mpi.pointer = s.mpi.pointer ∧
      (s.advance).mpi.attn = s.mpi.attn ∧ (s.advance).mpi.response = s.mpi.response ∧
      (s.advance).mpi.fifo = s.mpi.fifo ∧ (s.advance).mpi.lostReports = s.mpi.lostReports ∧
      (s.advance).pbc.channels = s.pbc.channels ∧ (s.advance).pbc.port = s.pbc.port := by
  simp [advance]

@[simp] theorem tick_keeps (p : TickPlan) :
    (s.tick p).pending = s.pending ∧ (s.tick p).lsi.scanOpen = s.lsi.scanOpen ∧ (s.tick p).mpi.mode = s.mpi.mode ∧
      (s.tick p).mpi.station = s.mpi.station ∧ (s.tick p).mpi.image = s.mpi.image ∧
      (s.tick p).mpi.pointer = s.mpi.pointer ∧ (s.tick p).mpi.response = s.mpi.response := by
  simp [tick, event]


/-- A channel that plays takes the boundary as one event; any other leaves the state. -/
theorem takeBoundary_cases (c : Channel) :
    ((∃ x b, s.pbc.channels[c].state = .playing x b) ∧ s.takeBoundary c = s.event (·.boundaryWork c)) ∨
      ((∀ x b, s.pbc.channels[c].state ≠ .playing x b) ∧ s.takeBoundary c = s) := by
  unfold takeBoundary
  split <;> simp_all

@[simp] theorem takeBoundary_keeps (c : Channel) :
    (s.takeBoundary c).pending = s.pending ∧ (s.takeBoundary c).pvt = s.pvt ∧ (s.takeBoundary c).ofu = s.ofu ∧
      (s.takeBoundary c).dsu = s.dsu ∧ (s.takeBoundary c).sps.sending = s.sps.sending ∧
      (s.takeBoundary c).sps.junctors = s.sps.junctors ∧ (s.takeBoundary c).sps.freeOrder = s.sps.freeOrder ∧
      (s.takeBoundary c).sps.holdoffOrder = s.sps.holdoffOrder ∧ (s.takeBoundary c).lsi.trunks = s.lsi.trunks ∧
      (s.takeBoundary c).lsi.positions = s.lsi.positions ∧ (s.takeBoundary c).lsi.orders = s.lsi.orders ∧
      (s.takeBoundary c).lsi.orderLosses = s.lsi.orderLosses ∧ (s.takeBoundary c).lsi.scanErrors = s.lsi.scanErrors ∧
      (s.takeBoundary c).lsi.scanOpen = s.lsi.scanOpen ∧ (s.takeBoundary c).mpi.mode = s.mpi.mode ∧
      (s.takeBoundary c).mpi.station = s.mpi.station ∧ (s.takeBoundary c).mpi.image = s.mpi.image ∧
      (s.takeBoundary c).mpi.pointer = s.mpi.pointer ∧ (s.takeBoundary c).mpi.response = s.mpi.response ∧
      (s.takeBoundary c).clk = s.clk := by
  rcases takeBoundary_cases s c with ⟨-, h⟩ | ⟨-, h⟩ <;> simp [h, event]

@[simp] theorem takeBoundaries_keep (l : List Channel) :
    (l.foldl takeBoundary s).pending = s.pending ∧ (l.foldl takeBoundary s).pvt = s.pvt ∧
      (l.foldl takeBoundary s).ofu = s.ofu ∧ (l.foldl takeBoundary s).dsu = s.dsu ∧
      (l.foldl takeBoundary s).sps.sending = s.sps.sending ∧ (l.foldl takeBoundary s).sps.junctors = s.sps.junctors ∧
      (l.foldl takeBoundary s).sps.freeOrder = s.sps.freeOrder ∧
      (l.foldl takeBoundary s).sps.holdoffOrder = s.sps.holdoffOrder ∧
      (l.foldl takeBoundary s).lsi.trunks = s.lsi.trunks ∧ (l.foldl takeBoundary s).lsi.positions = s.lsi.positions ∧
      (l.foldl takeBoundary s).lsi.orders = s.lsi.orders ∧
      (l.foldl takeBoundary s).lsi.orderLosses = s.lsi.orderLosses ∧
      (l.foldl takeBoundary s).lsi.scanErrors = s.lsi.scanErrors ∧
      (l.foldl takeBoundary s).lsi.scanOpen = s.lsi.scanOpen ∧ (l.foldl takeBoundary s).mpi.mode = s.mpi.mode ∧
      (l.foldl takeBoundary s).mpi.station = s.mpi.station ∧ (l.foldl takeBoundary s).mpi.image = s.mpi.image ∧
      (l.foldl takeBoundary s).mpi.pointer = s.mpi.pointer ∧ (l.foldl takeBoundary s).mpi.response = s.mpi.response ∧
      (l.foldl takeBoundary s).clk = s.clk := by
  induction l generalizing s with
  | nil => simp
  | cons b l ih => simpa using ih (s.takeBoundary b)

@[simp] theorem blockBoundary_keeps (order : List Channel) :
    (s.blockBoundary order).pending = s.pending ∧ (s.blockBoundary order).pvt = s.pvt ∧
      (s.blockBoundary order).ofu = s.ofu ∧ (s.blockBoundary order).dsu = s.dsu ∧
      (s.blockBoundary order).sps.junctors = s.sps.junctors ∧ (s.blockBoundary order).sps.freeOrder = s.sps.freeOrder ∧
      (s.blockBoundary order).sps.holdoffOrder = s.sps.holdoffOrder ∧
      (s.blockBoundary order).lsi.trunks = s.lsi.trunks ∧ (s.blockBoundary order).lsi.positions = s.lsi.positions ∧
      (s.blockBoundary order).lsi.orders = s.lsi.orders ∧ (s.blockBoundary order).lsi.orderLosses = s.lsi.orderLosses ∧
      (s.blockBoundary order).lsi.scanErrors = s.lsi.scanErrors ∧
      (s.blockBoundary order).lsi.scanOpen = s.lsi.scanOpen ∧ (s.blockBoundary order).mpi.mode = s.mpi.mode ∧
      (s.blockBoundary order).mpi.station = s.mpi.station ∧ (s.blockBoundary order).mpi.image = s.mpi.image ∧
      (s.blockBoundary order).mpi.pointer = s.mpi.pointer ∧ (s.blockBoundary order).mpi.response = s.mpi.response ∧
      (s.blockBoundary order).clk.tickCount = s.clk.tickCount := by
  simp [blockBoundary]

@[simp] theorem busSeen_keeps (sign : BusSign) :
    (s.busSeen sign).clk = s.clk ∧ (s.busSeen sign).pending = s.pending ∧ (s.busSeen sign).pbc = s.pbc ∧
      (s.busSeen sign).pvt = s.pvt ∧ (s.busSeen sign).est = s.est ∧ (s.busSeen sign).htu = s.htu ∧
      (s.busSeen sign).ofu = s.ofu ∧ (s.busSeen sign).cqm = s.cqm ∧ (s.busSeen sign).dsu = s.dsu ∧
      (s.busSeen sign).sps = s.sps ∧ (s.busSeen sign).lsi = s.lsi ∧ (s.busSeen sign).mpi = s.mpi := by
  cases sign <;> simp [busSeen]

end Sys2Proof.Machine.State
end

