-- ==== Sys2Proof/Laws/Step.lean ====
section
/-! SUPPORT. Every command has a next state: no arm of `exec` faults or refuses. -/

namespace Sys2Proof.Machine

/-- The state that a command leaves. -/
def nextOf (c : Instr) (s : State) : State :=
  match exec c s with
  | .next t => t
  | .fault _ | .refused _ => s

/-- Every command answers next. -/
theorem exec_next (c : Instr) (s : State) : exec c s = .next (nextOf c s) := by
  unfold nextOf
  cases c <;> first
    | rfl
    | (simp only [exec, execOfferDeadline, execLentDeadline, execConnectDeadline, execPresenceTimeout,
        execAttemptComplete]
       split <;> simp_all)

/-- A step answers next. -/
theorem step_next (s : State) : ∃ t, step s = .next t := by
  unfold step
  split
  · exact ⟨s, rfl⟩
  · exact ⟨_, exec_next _ _⟩

end Sys2Proof.Machine
end

