-- ==== Sys2Proof/Tests/Slice0.lean ====
section
/-! SUPPORT. The model's own tests. First an ill-formed command for each check of WellFormed; then values that the spec's
tables and worked sequences give; then, for each obligation that has hypotheses, a state and operands that meet them. -/

namespace Sys2Proof.Tests

-- One theorem after another: the kernel evaluations of many at a time call for more memory than the check allows.
set_option Elab.async false

open Machine

/-! ## Ill-formed commands -/

theorem test_tick_names_no_overflow_deadline :
    wellFormed (.tick ⟨[.offer], []⟩) = false ∧ wellFormed (.tick ⟨[.ring 3], [.lent]⟩) = false ∧
      wellFormed (.tick ⟨[.spacingEnd], [.division]⟩) = true := by decide
theorem test_boundary_order_repeats_none : wellFormed (.blockBoundary [0, 2, 0]) = false := by decide
theorem test_decodable_character_is_no_undecodable :
    wellFormed (.scanByteUndecodable [0x21, 0x05]) = false ∧ wellFormed (.scanByteUndecodable [0x10]) = false ∧
      wellFormed (.scanByteUndecodable []) = false ∧ wellFormed (.scanByteUndecodable [0x48, 0x00]) = true := by decide
theorem test_fetch_brings_256_samples : wellFormed (.fetchComplete [1, 2] false) = false := by decide
theorem test_release_row_carries_its_cause :
    wellFormed (.releaseAgentDone ⟨4, 6, [1, 1, 2, 0], false, false⟩) = false ∧
      wellFormed (.releaseCallerGone ⟨4, 6, [1, 1, 3, 0], false, false⟩) = false ∧
      wellFormed (.releaseTooLate ⟨4, 6, [1, 1, 1, 0], false, false⟩) = false := by decide
theorem test_data_fit_the_count_byte :
    wellFormed (.set (List.replicate 255 0)) = false ∧ wellFormed (.status (List.replicate 254 0)) = true := by
  decide +kernel
theorem test_whole_transaction_is_not_abandoned : wellFormed (.transactionAbandoned [2, 4, 0]) = false := by decide
theorem test_known_kind_is_its_own_row : wellFormed (.lengthErrorFrame ⟨4, [0x36, 1], false, false⟩) = false := by decide
theorem test_known_code_is_its_own_row :
    wellFormed (.unknownCommandCode [1, 7]) = false ∧ wellFormed (.unknownCommandCode []) = false := by decide

/-! ## Formats (Section 13) -/

/-- R192: from FFH the single byte 00H leaves the check register at A8H. -/
theorem test_check_character : checkCharacter [0x00] = 0xA8 := by decide

/-- TABLES 13-1 and 13-2: an OFFER from S4 to S6 of T3 generation 2, Q5, priority 1, programme 2, J0, waited 258. -/
theorem test_offer_bytes :
    (frameBody 4 ⟨6, .offer ⟨⟨3, 2⟩, 5, 1, 2, 0, 258⟩⟩) = [0x06, 0x24, 3, 2, 0x4D, 0, 1, 2] := by decide

/-- TABLE 13-3: an order with its type code and operand. -/
theorem test_order_bytes :
    [Order.ring 23, .stopRing 0, .reject 31, .clear 2, .keyRefused 7, .scanAll].map Order.bytes =
      [[0x81, 23], [0x82, 0], [0x83, 31], [0x84, 2], [0x85, 7], [0x86]] := by decide

/-- TABLE 13-3, R194: characters written out from the table. -/
theorem test_characters_read :
    readScan [0x10, 31, 63] = some (.seize 31 63) ∧ readScan [0x22, 4] = some (.loop .closed 4) ∧
      readScan [0x31, 0x17] = some (.headset .absent 23) ∧ readScan [0x41, 0x63] = some (.key .signOn 3 3) ∧
      readScan [0x31, 0x18] = none ∧ readScan [0x10, 32, 0] = none := by decide

/-- TABLE 13-7: the entries of a FREE call record, an estimate, and the clock counter as a read returns them. -/
theorem test_entries_after_reset :
    (entryFields State.reset 0 31).map entryBytes = some ([0, 3, 0, 0] ++ List.replicate 27 0) ∧
      (entryFields State.reset 2 7).map entryBytes = some ([0, 0x7F] ++ List.replicate 14 0) ∧
      (entryFields State.reset 7 0).map entryBytes = some [0, 3, 0, 0, 0, 0, 0] := by decide +kernel

/-! ## A part in RUN -/

/-- Profile F0 holds Q0 and Q1, F1 holds Q1; C5 and C6 are services of Q0; Q0 wraps up for 200 ticks, 50 at the least. -/
def image : Image :=
  { defaultImage with
    profiles := #v[[0, 1], [1], [], [], [], [], [], []]
    services := (defaultImage.services.set 5 ⟨true, 0, 2, 1⟩).set 6 ⟨true, 0, 0, 3⟩
    queues := defaultImage.queues.set 0 { defaultQueue with wrapTime := 200, wrapMin := 50, wrapExt := 100, ovfWait := 60 }
    clips := (((defaultImage.clips.set 0 ⟨true, 0, 10, 3⟩).set 1 ⟨true, 0, 20, 3⟩).set 2 ⟨true, 1, 65535, 3⟩).set 3
      ⟨true, 1, 0, 3⟩ }

/-- Station S4 in RUN at clock 100 with nothing going on and its sweep ended. -/
def quiet : State :=
  { State.reset with
    lsi := { Lsi.reset with
      trunks := Vector.replicate 32 ⟨.opened, .opened, none, true⟩
      positions := Vector.replicate 24 ⟨.present, .present, none, true⟩ }
    clk := ⟨100, 0, 0⟩
    mpi := { Mpi.reset with mode := .run, station := 4, image := image } }

/-- An agent at P7 under F0 with a duty and a pending action, its headset on. -/
def agent (d : Duty) (pend : PendingAction := .none) : State := quiet.setAgent 7 ⟨some ⟨0, d⟩, .present, pend⟩

/-- A call on T3 of Q0, arrived at clock 40, in a state. -/
def body (phase : CallPhase) : CallBody :=
  { phase := phase, queue := 0, priority := 2, programme := 1, arrival := 40, recovered := false
    source := some (musicChannel 1), nextDue := .at 100, waiting := false }

/-- The state with a call on T3, generation 9, put in it. -/
def call (s : State) (phase : CallPhase) : State := s.setCall 3 ⟨9, some (body phase)⟩

/-- A guest from S6 in G2, bound to P7. -/
def guest (s : State) (phase : GuestPhase) : State := s.setGuest 2 (some ⟨phase, 6, ⟨12, 5⟩, 1, 0, 1, 2, 77, 7⟩)

/-- Wrap fields of a wrap-up for Q0 that began at a stamp. -/
def wrap (start : Stamp) (extensions : Nat) : WrapFields := ⟨0, start, start + 200, start + 50, extensions, 180⟩

/-- A view of a peer with room, two idle agents of every queue and no mark. -/
def peer (heard : Stamp) : PeerEntry :=
  .present ⟨500, heard, 3, Vector.replicate 8 2, Vector.replicate 8 1, Vector.replicate 8 false, Vector.replicate 8 none⟩

/-- The state after a command. -/
abbrev after := nextOf

/-- A received frame as its sender writes it. -/
def received (source dest : Station) (p : Payload) : RxFrame :=
  ⟨headByte dest p, BitVec.ofNat 4 source.val, (frameChars source ⟨dest, p⟩).drop 2, false, false⟩

/-! ## One step each, from the spec's tables and worked sequences -/

/-- R20, R19, R24: a SEIZE of T3 under C5 with no idle agent. -/
theorem test_seize_admitted :
    let s := after (.seize 3 5) quiet
    s.cqm.calls[(3 : Trunk)] = ⟨1, some
      { body .queued with arrival := 100, nextDue := .at 550 }⟩ ∧ s.cqm.lists[(0 : QueueNo)] = [3] := by decide +kernel

/-- R22: a code with no valid entry. -/
theorem test_seize_refused : after (.seize 3 7) quiet =
    (quiet.setTrunkSup 3 ⟨.closed, .closed, none, true⟩).setOrders [.reject 3] := by decide +kernel

/-- TABLE 1-11 at 1240: LOOP OPEN starts the filter of a trunk whose call waits. -/
theorem test_loop_opens :
    (after (.loop .opened 5) ((quiet.setTrunkSup 5 ⟨.closed, .closed, none, true⟩).setCall 5 ⟨1, some (body .queued)⟩)).lsi.trunks[
      (5 : Trunk)] = ⟨.opened, .closed, some 100, true⟩ := by decide +kernel

/-- TABLE 1-11 at 1205: LOOP CLOSED cancels it. -/
theorem test_loop_closes :
    (after (.loop .closed 5) ((quiet.setTrunkSup 5 ⟨.opened, .closed, some 98, true⟩).setCall 5 ⟨1, some (body .queued)⟩)).lsi.trunks[
      (5 : Trunk)] = ⟨.closed, .closed, none, true⟩ := by decide +kernel

/-- TABLE 1-11 at 1244 and 1245: nothing at 4 ticks, the caller release at 5. -/
theorem test_disconnect_filter :
    let s := fun start => (quiet.setTrunkSup 3 ⟨.opened, .closed, some start, true⟩).setCall 3 ⟨9, some (body .queued)⟩
    after (.disconnectFilterExpiry 3) (s 96) = s 96 ∧ (after (.disconnectFilterExpiry 3) (s 95)).call 3 = none ∧
      (after (.disconnectFilterExpiry 3) (s 95)).lsi.orders = [.clear 3] ∧
      (after (.disconnectFilterExpiry 3) (s 95)).mpi.fifo = [.callEnd 3 9 0 .abandoned 60 0 .none false] := by decide +kernel

/-- TABLE 1-12 at 40: HEADSET ABSENT starts the filter. -/
theorem test_headset_absent : (after (.headset .absent 3) quiet).lsi.positions[(3 : Position)] =
    ⟨.absent, .present, some 100, true⟩ := by decide +kernel

/-- TABLE 1-12 at 50: ten ticks later the loss is taken, and the agent's flag is clear. -/
theorem test_headset_filter :
    let s := after (.headsetFilterExpiry 7) ((agent .notReady).setPositionSup 7 ⟨.absent, .present, some 90, true⟩)
    s.lsi.positions[(7 : Position)] = ⟨.absent, .absent, none, true⟩ ∧
      s.dsu.agents[(7 : Position)] = ⟨some ⟨0, .notReady⟩, .absent, .none⟩ := by decide +kernel

/-- TABLE 1-12 at 2: two positions late. -/
theorem test_sweep_ends :
    (after .startSweepEnd (((quiet.setPositionSup 3 ⟨.absent, .absent, none, false⟩).setPositionSup 17
      ⟨.absent, .absent, none, false⟩).setClk ⟨2, 0, 0⟩)).lsi.scanErrors = 2 := by decide +kernel

/-- R194: a key code above 7 is taken as a whole character and dropped, with one scan error. -/
theorem test_undecodable_key : after (.scanByteUndecodable [0x48, 7]) quiet = quiet.setScanErrors 1 := by decide +kernel

/-- R5: a key in CONFIG. -/
theorem test_key_in_config : after (.releaseKey 7) State.reset = State.reset.setOrders [.keyRefused 7] := by decide +kernel

/-- TABLE 4-6: MORE_TIME at 1185 in the wrap-up of 1180, and the third at 1195. -/
theorem test_more_time :
    let s := fun now x => (agent (.wrapup x)).setClk ⟨now, 0, 0⟩
    (after (.moreTimeKey 7) (s 1185 (wrap 1180 0))).duty 7 = some (.wrapup ⟨0, 1180, 1480, 1230, 1, 180⟩) ∧
      (after (.moreTimeKey 7) (s 1195 { wrap 1180 2 with wrapEnd := 1580 })).lsi.orders = [.keyRefused 7] := by
  decide +kernel

/-- TABLE 4-6 at 1210: READY below the minimum end is pending. -/
theorem test_ready_pending : (after (.readyKey 7) ((agent (.wrapup (wrap 1180 0))).setClk ⟨1210, 0, 0⟩)).dsu.agents[(7 : Position)] =
    ⟨some ⟨0, .wrapup (wrap 1180 0)⟩, .present, .ready⟩ := by decide +kernel

/-- TABLE 4-6 at 1230: the minimum end with READY pending; 50 wrap ticks, sample 230. -/
theorem test_ready_at_min :
    let s := after (.readyAtMin 7) ((agent (.wrapup (wrap 1180 0)) .ready).setClk ⟨1230, 0, 0⟩)
    s.mpi.fifo = [.wrapEnd 7 0 50 .readyAtMin, .agentState 7 .wrapup .ready (some 0) .wrapEnd] ∧
      s.est.recs[(0 : QueueNo)].aht16 = 460 ∧ s.dsu.idleList = [7] := by decide +kernel

/-- TABLE 4-3: the wrap end with NOT_READY pending. -/
theorem test_wrap_expiry :
    (after (.wrapExpiry 7) ((agent (.wrapup (wrap 1180 0)) .notReady).setClk ⟨1380, 0, 0⟩)).dsu.agents[(7 : Position)] =
      ⟨some ⟨0, .notReady⟩, .present, .none⟩ := by decide +kernel

/-- R48: SIGN_ON of P7 under F1, and under the empty F2. -/
theorem test_sign_on :
    let s := quiet.setAgent 7 ⟨none, .present, .none⟩
    (after (.signOnKey 0x27) s).dsu.agents[(7 : Position)] = ⟨some ⟨1, .notReady⟩, .present, .none⟩ ∧
      (after (.signOnKey 0x47) s).lsi.orders = [.keyRefused 7] := by decide +kernel

/-- R60: READY with a call of the profile's queue waiting is rung for it, to ring until 250. -/
theorem test_ready_rings :
    let s := after (.readyKey 7) ((call (agent .notReady) .queued).setList 0 [3])
    s.duty 7 = some (.alerting (.call 3) 250) ∧ s.lsi.orders = [.ring 7] ∧ s.cqm.lists[(0 : QueueNo)] = [] := by
  decide +kernel

/-- R50, R51: NOT_READY from READY, SIGN_OFF while TALKING. -/
theorem test_stand_down :
    (after (.notReadyKey 7) ((agent (.ready 90)).setIdleList [7])).duty 7 = some .notReady ∧
      (after (.signOffKey 7) (call (agent (.talking (.call 3))) (.talking 7 90))).dsu.agents[(7 : Position)].pendingAction =
        .signOff := by decide +kernel

/-- R52: ANSWER of a local call and of a guest (TABLE 11-7 at 2160: ANSWERED to the origin). -/
theorem test_answer :
    (after (.answerKey 7) (call (agent (.alerting (.call 3) 200)) (.alerting 7))).cqm.calls[(3 : Trunk)] =
        ⟨9, some { body (.talking 7 100) with source := none }⟩ ∧
      (after (.answerKey 7) (guest (agent (.alerting (.guest 2) 200)) .alerting)).plc.queue =
        [⟨.frame ⟨6, .answered ⟨12, 5⟩⟩, 0⟩] := by decide +kernel

/-- R37, R67: RELEASE ends the call and opens the wrap-up. -/
theorem test_release :
    let s := after (.releaseKey 7) (call (agent (.talking (.call 3))) (.talking 7 70))
    s.mpi.fifo = [.callEnd 3 9 0 .answeredLocal 30 30 (.agent 7) false] ∧ s.lsi.orders = [.clear 3] ∧
      s.duty 7 = some (.wrapup ⟨0, 100, 300, 150, 0, 30⟩) := by decide +kernel

/-- R61: no answer: STOP_RING, NOT_READY, the call back in its list. -/
theorem test_no_answer :
    let s := after (.ringDeadline 7) (call (agent (.alerting (.call 3) 100)) (.alerting 7))
    s.lsi.orders = [.stopRing 7] ∧ s.duty 7 = some .notReady ∧ s.cqm.lists[(0 : QueueNo)] = [3] ∧
      s.mpi.fifo = [.agentState 7 .alerting .notReady (some 0) .noAnswer] := by decide +kernel

/-- R14: the head leaves. -/
theorem test_order_sent : after .orderSent (quiet.setOrders [.ring 1, .clear 2]) = quiet.setOrders [.clear 2] := by
  decide +kernel

/-- R116: next-due at 100. -/
theorem test_next_due : ((after (.nextDueReached 3) (call quiet .queued)).call 3).map (·.nextDue) = some .due := by
  decide +kernel

/-- TABLE 8-6 at 183: J1 becomes FREE behind J3 to J7. -/
theorem test_holdoff_end :
    let s := after .junctorHoldoffEnd ((((quiet.setJunctor 1 (.holdoff 100)).setJunctor 0 (.holdoff 117)).setHoldoffOrder
      [1, 0]).setFreeOrder [3, 4, 5, 6, 7])
    s.sps.freeOrder = [3, 4, 5, 6, 7, 1] ∧ s.sps.holdoffOrder = [0] := by decide +kernel

/-- TABLE 11-7 at 150: S6 and S9 tie, and S6 is the first after S4. -/
theorem test_offer_goes_to_s6 :
    let s := (((((call quiet .queued).setList 0 [3]).setPeer 6 (peer 90)).setPeer 9 (peer 90)).scanQueue 0)
    s.plc.queue = [⟨.frame ⟨6, .offer ⟨⟨3, 9⟩, 0, 2, 1, 0, 60⟩⟩, 0⟩] ∧
      s.ofu.slots[(0 : SlotNo)] = some ⟨3, 0, 105⟩ ∧ s.sps.junctors[(0 : Junctor)] = .bound 3 := by decide +kernel

/-- TABLE 11-7 at 2150: OFFER makes G0 wait, reserves the idle agent and gives TAKE. -/
theorem test_offer_taken :
    let s := after (.offer (received 6 4 (.offer ⟨⟨9, 1⟩, 0, 1, 0, 2, 46⟩))) ((agent (.ready 90)).setIdleList [7])
    s.ofu.guests[(0 : GuestNo)] = some ⟨.waitConnect 105, 6, ⟨9, 1⟩, 2, 0, 1, 0, 46, 7⟩ ∧
      s.duty 7 = some (.reserved 0) ∧ s.plc.queue.head? = some ⟨.frame ⟨6, .take ⟨9, 1⟩ 2⟩, 0⟩ := by decide +kernel

/-- TABLE 11-7: TAKE lends the call until 400 and gives CONNECT. -/
theorem test_take :
    let s := after (.take (received 6 4 (.take ⟨3, 9⟩ 0)))
      ((((call quiet (.offered 1 6 0)).setSlot 1 (some ⟨3, 0, 104⟩)).setJunctor 0 (.bound 3)).setList 0 [3])
    (s.call 3).map (·.phase) = some (.lentAlerting 6 0 400) ∧ s.cqm.lists[(0 : QueueNo)] = [] ∧
      s.plc.queue = [⟨.frame ⟨6, .connect ⟨3, 9⟩ 0⟩, 0⟩] := by decide +kernel

/-- TABLE 8-6 at 153: DECLINE sends the call back and its junctor into holdoff until 130. -/
theorem test_decline :
    let s := after (.decline (received 6 4 (.decline ⟨3, 9⟩ .noAgent)))
      ((((call quiet (.offered 1 6 0)).setSlot 1 (some ⟨3, 0, 104⟩)).setJunctor 0 (.bound 3)).setList 0 [3])
    (s.call 3).map (·.phase) = some .queued ∧ s.sps.junctors[(0 : Junctor)] = .holdoff 130 ∧
      s.ofu.slots[(1 : SlotNo)] = none := by decide +kernel

/-- TABLE 11-7 at 2150: CONNECT rings the agent until 250. -/
theorem test_connect :
    let s := after (.connect (received 6 4 (.connect ⟨12, 5⟩ 1))) (guest (agent (.reserved 2)) (.waitConnect 105))
    s.duty 7 = some (.alerting (.guest 2) 250) ∧ s.lsi.orders = [.ring 7] := by decide +kernel

/-- TABLE 11-7 at 160: ANSWERED. -/
theorem test_answered :
    ((after (.answered (received 6 4 (.answered ⟨3, 9⟩)))
      ((call quiet (.lentAlerting 6 0 300)).setJunctor 0 (.bound 3))).call 3).map (·.phase) =
      some (.lentTalking 6 0 100) := by decide +kernel

/-- TABLE 11-8 at 705: BOUNCE returns the call to its place, on music again. -/
theorem test_bounce :
    let s := after (.bounce (received 6 4 (.bounce ⟨3, 9⟩ .noConnect)))
      ((call quiet (.lentAlerting 6 0 300)).setJunctor 0 (.bound 3))
    s.call 3 = some (body .queued) ∧ s.cqm.lists[(0 : QueueNo)] = [3] := by decide +kernel

/-- TABLE 11-7 at 400: RELEASE AGENT_DONE ends the lent call. -/
theorem test_agent_done :
    (after (.releaseAgentDone (received 6 4 (.release ⟨3, 9⟩ .agentDone)))
      ((call quiet (.lentTalking 6 0 70)).setJunctor 0 (.bound 3))).mpi.fifo =
      [.callEnd 3 9 0 .answeredPeer 30 30 (.peer 6) false] := by decide +kernel

/-- R181: WITHDRAW and RELEASE CALLER_GONE free the guest; its ringing agent becomes READY. -/
theorem test_guest_released :
    let s := guest (agent (.alerting (.guest 2) 200)) .alerting
    (after (.withdraw (received 6 4 (.withdraw ⟨12, 5⟩))) s).duty 7 = some (.ready 100) ∧
      (after (.releaseCallerGone (received 6 4 (.release ⟨12, 5⟩ .callerGone))) s).ofu.guests[(2 : GuestNo)] = none := by
  decide +kernel

/-- TABLE 11-8 at 2705: the connect deadline. -/
theorem test_connect_deadline :
    let s := after .connectDeadline (guest (agent (.reserved 2)) (.waitConnect 100))
    s.plc.queue.head? = some ⟨.frame ⟨6, .bounce ⟨12, 5⟩ .noConnect⟩, 0⟩ ∧
      s.mpi.fifo = [.agentState 7 .reserved .ready (some 0) .callGone] := by decide +kernel

/-- R174: the lent deadline sends WITHDRAW. -/
theorem test_lent_deadline :
    (after .lentDeadline ((call quiet (.lentAlerting 6 0 100)).setJunctor 0 (.bound 3))).plc.queue =
      [⟨.frame ⟨6, .withdraw ⟨3, 9⟩⟩, 0⟩] := by decide +kernel

/-- TABLE 10-3 at 540: S9 unheard for 70 ticks. -/
theorem test_presence_timeout :
    let s := after .presenceTimeout (quiet.setPeer 9 (peer 30))
    s.pvt.peers[(9 : Station)] = .absent 500 30 ∧
      s.mpi.fifo = [.peerState 9 .present .absent .timeout 500 0 0 0] := by decide +kernel

/-- TABLE 10-3 at 540: a notice with a lower clock is a restart. -/
theorem test_restart_found :
    (after (.avail (received 9 0 (.avail ⟨4, 8, Vector.replicate 8 0, Vector.replicate 8 0, Vector.replicate 8 none⟩)))
      (quiet.setPeer 9 (peer 90))).mpi.fifo = [.peerState 9 .present .present .restart 4 0 0 0] := by decide +kernel

/-- R142: a frame cut short is a length error. -/
theorem test_length_error :
    (after (.lengthErrorFrame ⟨4, [], false, false⟩) quiet).plc.lengthErr = 1 ∧
      (after (.answered ⟨4, 6, [3, 9], false, false⟩) quiet).plc.lengthErr = 1 := by decide +kernel

/-- TABLE 5-2: differences of 12, -12, 4, 3 and -4 change AHT16 by 2, -2, 1, 0 and -1. -/
theorem test_sample_rounding :
    let v := fun old => (quiet.setEst 2 ⟨old, 0, 0, false, 0⟩).sample 2 100
    (v 1588).est.recs[(2 : QueueNo)].aht16 = 1590 ∧ (v 1612).est.recs[(2 : QueueNo)].aht16 = 1610 ∧
      (v 1596).est.recs[(2 : QueueNo)].aht16 = 1597 ∧ (v 1597).est.recs[(2 : QueueNo)].aht16 = 1597 ∧
      (v 1604).est.recs[(2 : QueueNo)].aht16 = 1603 := by decide +kernel

/-- TABLES 5-5 and 5-6: rows of expected waits and bands. -/
theorem test_expected_waits :
    let w := fun step (n p : Nat) => let s := quiet.setEst 2 ⟨0, step, n, false, 0⟩; (s.expectedWait 2 p, s.band 2 p)
    w 170 0 1 = (65535, 7) ∧ w 170 24 32 = (2, 0) ∧ w 11184640 24 1 = (2731, 4) ∧ w 268431360 1 33 = (65535, 7) ∧
      w 1755428 9 3 = (1286, 2) ∧ w 1755428 9 10 = (4286, 7) := by decide +kernel

/-- TABLE 5-7 at d and f: a division publishes its snapshot. -/
theorem test_division :
    (after .divisionComplete (quiet.setInFlight (some ⟨1, 16000, 1⟩))).est.recs[(1 : QueueNo)].step = 4096000 ∧
      (after .divisionComplete (quiet.setInFlight (some ⟨6, 9000, 0⟩))).est.recs[(6 : QueueNo)] = ⟨0, 2304000, 0, false, 0⟩ := by
  decide +kernel

/-- TABLE 6-6 at boundaries 4 and 5: the counter reaches SEG_BLOCKS, and a stall counts an underrun. -/
theorem test_block_boundary :
    let s := quiet.setChannel 3 ⟨.playing ⟨1, 0, 4, 2, [], 15, true⟩ (some (.block ⟨.silence, false⟩)), 1, 0, 0⟩
    (after (.blockBoundary []) s).pbc.channels[(3 : Channel)] =
      ⟨.playing ⟨1, 0, 4, 2, [], 0, true⟩ (some .stall), 1, 1, 0⟩ := by decide +kernel

/-- R105, R99: a block arrives, and 65535 is followed by 0. -/
theorem test_fetch_complete :
    let s := ((quiet.setChannel 4 ⟨.loading ⟨2, 1, 65535, 3, [], 0, true⟩, 1, 0, 0⟩).setPort (some ⟨4, 1, 1, 65535⟩))
    (after (.fetchComplete [9] false) s).pbc.channels[(4 : Channel)].state =
      .playing ⟨2, 1, 0, 2, [⟨.samples [9], false⟩], 0, true⟩ none := by decide +kernel

/-- TABLE 9-5 at 300: a frame begins after 2 idle character times, a placeholder held before it; lost, it stays. -/
theorem test_attempts :
    let s := quiet.setPlc { Plc.reset with
      queue := [⟨.notice, 0⟩, ⟨.frame ⟨6, .take ⟨3, 2⟩ 0⟩, 0⟩], lastAvail := some 99, busIdle := 1 }
    (after (.attemptBegin (.idle 1)) s) = s ∧ ((after (.attemptBegin (.idle 2)) s).plc.queue.map (·.tries)) = [0, 1] ∧
      (after .attemptLost (after (.attemptBegin (.idle 2)) s)).plc.queue.map (·.tries) = [0, 1] := by decide +kernel

/-- TABLE 9-5 at 301: a completed notice with its renew mark set waits again at the tail. -/
theorem test_attempt_complete :
    let s := quiet.setPlc { Plc.reset with
      queue := [⟨.notice, 1⟩, ⟨.frame ⟨11, .decline ⟨3, 2⟩ .noRoom⟩, 0⟩], renew := true, attempt := some [0x80] }
    (after .attemptComplete s).plc.queue = [⟨.frame ⟨11, .decline ⟨3, 2⟩ .noRoom⟩, 0⟩, ⟨.notice, 0⟩] ∧
      (after .attemptComplete s).plc.lastAvail = some 100 := by decide +kernel

/-- TABLE 9-5 at 303: the hold ends at 2 ticks. -/
theorem test_spacing_ends :
    let s := fun last => quiet.setPlc { Plc.reset with queue := [⟨.notice, 0⟩], lastAvail := some last, busIdle := 9 }
    after .availSpacingEnd (s 99) = s 99 ∧ (after .availSpacingEnd (s 98)).plc.attempt.isSome = true := by decide +kernel

/-- R157: the period. -/
theorem test_period :
    let s := after .availPeriodExpiry (quiet.setPeriod (some 100))
    s.pvt.periodDeadline = some 120 ∧ s.plc.queue = [⟨.notice, 0⟩] := by decide +kernel

/-- R172: the offer deadline. -/
theorem test_offer_deadline :
    (((after .offerDeadline ((((call quiet (.offered 1 6 0)).setSlot 1 (some ⟨3, 0, 100⟩)).setJunctor 0 (.bound 3)).setList 0
      [3])).call 3).map (·.phase)) = some .queued := by decide +kernel

/-- TABLE 12-8: SETs after RESET. -/
theorem test_set :
    (after (.set [1, 0, 1, 0, 0, 0, 0, 40]) State.reset).mpi.image.clips[(0 : Clip)] = ⟨true, 0, 0, 40⟩ ∧
      (after (.set [0, 192, 0x84]) State.reset).mpi.image.services[0] = ⟨true, 0, 1, 0⟩ := by decide +kernel

/-- TABLE 12-8: AVAIL_PERIOD 150 is BAD_VALUE; START names item 18, or 16 from the defaults. -/
theorem test_start_refused :
    (after (.set [0, 7, 0, 150]) State.reset).mpi.response = some [2] ∧
      (after (.start []) (after (.set [1, 0, 1, 0, 0, 0, 0, 40]) State.reset)).mpi.response = some [2, 0, 18] := by
  decide +kernel

/-- R188: START from a good image. -/
theorem test_start :
    let s := after (.start []) (State.reset.setImage image)
    s.mpi.response = some [0] ∧ s.mpi.mode = .run ∧ s.lsi.orders.length = 57 ∧ s.pbc.port = some ⟨2, 1, 0, 10⟩ ∧
      s.est.inFlight = some ⟨0, 28800, 0⟩ := by decide +kernel

/-- R185: RESTART keeps the image; the pin takes the straps. -/
theorem test_restart_and_pin :
    (after (.restart []) quiet).mpi.image = image ∧ (after (.resetPin 9) quiet).mpi.station = 9 ∧
      (after (.resetPin 9) quiet).mpi.image = defaultImage := by decide +kernel

/-- R189: a read goes on to the next entry, and from the last to the first. -/
theorem test_select_and_read :
    (after (.readNext []) (after (.select [4, 7]) quiet)).mpi.pointer = ⟨4, 0⟩ ∧
      (after (.select [4, 8]) quiet).mpi.response = some [2] := by decide +kernel

/-- R190: EMPTY, and STATUS of S4 in RUN. -/
theorem test_report_and_status :
    (after (.reportNext []) quiet).mpi.response = some [5] ∧ (after (.status []) quiet).mpi.response = some [0, 1, 4, 0, 0] := by
  decide +kernel

/-- R184: a transaction cut short has no response; an unknown code is LENGTH. -/
theorem test_transactions :
    (after (.transactionAbandoned [2, 4]) quiet).mpi.response = none ∧
      (after (.unknownCommandCode [1, 9]) quiet).mpi.response = some [4] := by decide +kernel

/-- R2, R1: a tick in CONFIG does nothing; in RUN the tick count wraps and the frame count returns to 0. -/
theorem test_tick :
    exec (.tick ⟨[], []⟩) State.reset = .next State.reset ∧ (quiet.setClk ⟨0xFFFFFFFF, 12, 0⟩).advance.clk = ⟨0, 0, 0⟩ :=
  ⟨rfl, by decide +kernel⟩

/-- R1, R108: pulse 6400 is the 800th of a tick and the 256th of a block, and is counted once, whichever command comes first. -/
theorem test_coincident_pulse :
    let s := quiet.setClk ⟨7, 544, 0⟩
    let counts := fun u : State => (u.clk, u.pbc.blockFrameCount, u.pbc.boundariesDue)
    counts (s.countPulses s.pulsesToTick) = (⟨7, 0, 1⟩, 0, 1) ∧
      counts (after (.blockBoundary []) s).advance = (⟨8, 0, 0⟩, 0, 0) ∧
      counts (after (.blockBoundary []) s.advance) = (⟨8, 0, 0⟩, 0, 0) := by decide +kernel

/-- R104: the grant sends the block address of the first requester. -/
theorem test_grant_sends_the_address :
    ((quiet.loadChannel 5 2).loadChannel 1 1).grant.pbc.port = some ⟨1, 1, 0, 20⟩ := by decide +kernel

/-- R129: an event changes the source, and the frame goes on with the earlier one until the next pulse. -/
theorem test_earlier_source_is_kept :
    let s := after (.seize 3 5) quiet
    s.sps.map.trunks[(3 : Trunk)] = some (.channel 3) ∧ s.sps.sending.trunks[(3 : Trunk)] = none ∧
      (s.countPulses 1).sps.sending.trunks[(3 : Trunk)] = some (.channel 3) := by decide +kernel

/-- R119, R127: two channels raise a segment boundary at one block boundary for one invalid clip; each start check is its own
and counts its own fault. -/
theorem test_each_boundary_checks :
    let playing := fun m => ChannelState.playing ⟨1, 0, 4, 2, [], 15, true⟩ (some (.block ⟨.silence, m⟩))
    let hears := fun k : Channel => { body .queued with source := some k, nextDue := .due }
    let queue := { image.queues[0] with bandBase := some 31 }
    let s := ((((quiet.setImage { image with queues := image.queues.set 0 queue }).setChannel 2
      ⟨playing false, 1, 0, 0⟩).setChannel 3 ⟨playing false, 1, 0, 0⟩).setCall 3 ⟨1, some (hears 2)⟩).setCall 4 ⟨1, some (hears 3)⟩
    (after (.blockBoundary []) s).mpi.fifo =
      [.storeFault 0 31 .invalidClip 1, .storeFault 0 31 .invalidClip 2] := by decide +kernel

/-- R140: another station's start bit restarts the idle measure, and a frame given meanwhile waits. -/
theorem test_start_bit_holds_the_attempt :
    let s := quiet.setPlc { Plc.reset with queue := [⟨.frame ⟨6, .take ⟨3, 2⟩ 0⟩, 0⟩], busIdle := 1 }
    (after (.attemptBegin (.startBit true)) s).plc.attempt = none ∧
      (after (.attemptBegin (.startBit true)) s).plc.busIdle = 0 := by decide +kernel

/-- R144: a frame whose beginning was heard in CONFIG is passed over in RUN, and the next one is taken. -/
theorem test_frame_under_way_at_start :
    let s := after (.start []) (after (.attemptBegin (.startBit true)) (State.reset.setImage image))
    let u := after (.offer (received 6 0 (.offer ⟨⟨9, 1⟩, 0, 1, 0, 2, 46⟩))) s
    s.plc.onBus = .passedOver ∧ u.plc.queue = s.plc.queue ∧ u.plc.onBus = .none ∧
      (after (.offer (received 6 0 (.offer ⟨⟨9, 1⟩, 0, 1, 0, 2, 46⟩))) u).plc.frames = 1 := by decide +kernel

/-! ## Witnesses: states and operands that meet the hypotheses of the obligations -/

open Claims

theorem quiet_junctors : JunctorOrders quiet := by
  refine ⟨by decide, by decide, fun j => ?_⟩
  have h : quiet.sps.junctors[j] = .free := by revert j; decide
  rw [h]
  revert j; decide

theorem quiet_waits : WaitingFlags quiet := by
  intro t
  have h : quiet.call t = none := by revert t; decide
  rw [h]; rfl

/-- The quiet part with a seizure waiting. -/
def seizing : State := { quiet with pending := [.seize 3 5] }

theorem seizing_steps : step seizing = .next (after (.seize 3 5) quiet) := exec_next (.seize 3 5) quiet

theorem witness_EveryStepSettles :
    seizing.settled = true ∧ seizing.configQuiet = true ∧ step seizing = .next (after (.seize 3 5) quiet) :=
  ⟨by decide +kernel, by decide +kernel, seizing_steps⟩

/-- After RESET with START waiting. -/
def starting : State := { State.reset with pending := [.start []] }

theorem witness_ConfigStaysQuiet : starting.configQuiet = true ∧ step starting = .next (after (.start []) State.reset) :=
  ⟨by decide +kernel, exec_next (.start []) State.reset⟩

theorem quiet_bindings : AgentsBound quiet ∧ IdleList quiet ∧ QueueLists quiet ∧ OverflowBound quiet := by
  have h : ∀ t, quiet.call t = none := by decide +kernel
  have d : ∀ p, quiet.duty p = none := by decide +kernel
  have g : ∀ g : GuestNo, quiet.ofu.guests[g] = none := by decide +kernel
  have o : ∀ o : SlotNo, quiet.ofu.slots[o] = none := by decide +kernel
  have l : ∀ q : QueueNo, quiet.cqm.lists[q] = [] := by decide +kernel
  have j : ∀ j : Junctor, quiet.sps.junctors[j] = .free := by decide +kernel
  have i : quiet.dsu.idleList = [] := rfl
  simp [AgentsBound, IdleList, QueueLists, OverflowBound, h, d, g, o, l, j, i]

theorem witness_AgentBindingsAreKept : AgentsBound seizing ∧ step seizing = .next (after (.seize 3 5) quiet) :=
  ⟨quiet_bindings.1, seizing_steps⟩

theorem witness_IdleListIsKept :
    AgentsBound seizing ∧ IdleList seizing ∧ step seizing = .next (after (.seize 3 5) quiet) :=
  ⟨quiet_bindings.1, quiet_bindings.2.1, seizing_steps⟩

theorem witness_QueueListsAreKept :
    AgentsBound seizing ∧ QueueLists seizing ∧ step seizing = .next (after (.seize 3 5) quiet) :=
  ⟨quiet_bindings.1, quiet_bindings.2.2.1, seizing_steps⟩

theorem witness_JunctorsAndSlotsAgree :
    AgentsBound seizing ∧ QueueLists seizing ∧ JunctorOrders seizing ∧ OverflowBound seizing ∧
      step seizing = .next (after (.seize 3 5) quiet) :=
  ⟨quiet_bindings.1, quiet_bindings.2.2.1, quiet_junctors, quiet_bindings.2.2.2, seizing_steps⟩

theorem witness_SizesAreKept : seizing.withinSizes = true ∧ step seizing = .next (after (.seize 3 5) quiet) :=
  ⟨by decide +kernel, seizing_steps⟩

theorem witness_JunctorOrdersAreKept : JunctorOrders seizing ∧ step seizing = .next (after (.seize 3 5) quiet) :=
  ⟨quiet_junctors, seizing_steps⟩

theorem witness_WaitingFlagsAreKept : WaitingFlags seizing ∧ step seizing = .next (after (.seize 3 5) quiet) :=
  ⟨quiet_waits, seizing_steps⟩

theorem witness_ModeAndImageAreKept :
    (wellFormed (.set [0, 1, 0, 7]) = true ∧ (after (.set [0, 1, 0, 7]) State.reset).mpi.image ≠ State.reset.mpi.image) ∧
    (wellFormed (.start []) = true ∧
      (after (.start []) (State.reset.setImage image)).mpi.mode ≠ (State.reset.setImage image).mpi.mode) ∧
    wellFormed (.restart []) = true ∧ (after (.restart []) quiet).mpi.mode ≠ quiet.mpi.mode := by decide +kernel

theorem witness_GenerationsRiseAtAdmission :
    wellFormed (.seize 3 5) = true ∧ quiet.lsi.scanOpen = [] ∧
      exec (.seize 3 5) quiet = .next (after (.seize 3 5) quiet) ∧ quiet.call 3 = none ∧
      (after (.seize 3 5) quiet).call 3 ≠ none :=
  ⟨rfl, rfl, exec_next _ _, by decide +kernel, by decide +kernel⟩

/-- A notice with every count at its greatest. -/
def fullNotice : Notice :=
  ⟨0xFFFFFFFF, 15, Vector.replicate 8 15, Vector.replicate 8 7, Vector.replicate 8 (some 15)⟩

theorem witness_FramesReadAsSent :
    InRange (.avail fullNotice) ∧ InRange (.offer ⟨⟨31, 15⟩, 7, 3, 3, 7, 65535⟩) ∧ InRange (.release ⟨0, 0⟩ .tooLate) :=
  ⟨⟨by decide, by decide⟩, by unfold InRange; decide, trivial⟩

theorem witness_FramesAreFiltered :
    InRange (.withdraw ⟨3, 9⟩) ∧ InRange (.avail fullNotice) ∧ Payload.kind (.avail fullNotice) = .avail ∧
      Payload.kind (.withdraw ⟨3, 9⟩) ≠ .avail ∧ (6 : Station) ≠ 4 ∧ (15 : Station) ≠ 4 :=
  ⟨trivial, ⟨by decide, by decide⟩, by decide, by decide, by decide, by decide⟩

/-- `n` orders wait. -/
def ordered (n : Nat) (s : State) : State := s.setOrders (List.replicate n (.clear 1))

theorem witness_OrderAndTransmitQueuesFill_orders :
    (ordered 63 quiet).lsi.orders.length < 64 ∧ (64 ≤ (ordered 64 quiet).lsi.orders.length ∧ quiet.running = true) ∧
      (64 ≤ (ordered 64 State.reset).lsi.orders.length ∧ State.reset.running = false) ∧
      (ordered 1 quiet).lsi.orders = .clear 1 :: [] := by decide +kernel

/-- The transmit queue holds `n` frames and what is given. -/
def loaded (n : Nat) (more : List TxEntry) : State :=
  quiet.setPlc { Plc.reset with queue := List.replicate n ⟨.frame ⟨6, .withdraw ⟨3, 9⟩⟩, 0⟩ ++ more }

theorem witness_OrderAndTransmitQueuesFill_frames :
    (loaded 7 []).plc.queue.countP (·.isFrame) < 8 ∧ 8 ≤ (loaded 8 []).plc.queue.countP (·.isFrame) ∧
      (∀ e ∈ (loaded 8 []).plc.queue, e.body ≠ .notice) ∧
      (loaded 1 [⟨.notice, 0⟩]).plc.queue = [⟨.frame ⟨6, .withdraw ⟨3, 9⟩⟩, 0⟩] ++ ⟨.notice, 0⟩ :: [] ∧
      (loaded 0 [⟨.notice, 1⟩]).plc.queue = [] ++ ⟨.notice, 1⟩ :: [] := by decide +kernel

/-- The FIFO holds `n` reports. -/
def reported (n : Nat) : State := quiet.setFifo (List.replicate n (.wrapEnd 1 2 3 .expiry))

theorem witness_ReportFifoHolds64 :
    (reported 63).mpi.fifo.length < 64 ∧ 64 ≤ (reported 64).mpi.fifo.length ∧
      ((reported 1).mpi.fifo = .wrapEnd 1 2 3 .expiry :: [] ∧ (reported 1).sps.map = (reported 1).connections) ∧
      (reported 0).mpi.fifo = [] := by decide +kernel

theorem witness_ReportsAreSentAsBytes :
    Reportable (.callEnd 31 15 7 .rejected 65535 65535 (.peer 15) true) ∧ Reportable (.wrapEnd 23 7 65535 .notReadyKey) ∧
      Reportable (.peerState 15 .absent .present .restart 0xFFFFFFFF 255 255 255) ∧
      Reportable (.storeFault 5 31 (.readFault 255 65535) 255) := by
  simp [Reportable]

theorem witness_RefusedAndUndecodableCharacters :
    (State.reset.running = false ∧ State.reset.lsi.scanOpen = [] ∧ Names 0xF7 23) ∧
      ((0x4F : Byte).toNat / 16 = 4 ∧ 7 < (0x4F : Byte).toNat % 16) ∧ ((0x40 : Byte).toNat / 16 = 4 ∧ (0x40 : Byte).toNat % 16 = 0) ∧
      31 < (32 : Byte).toNat ∧ 63 < (64 : Byte).toNat ∧ 23 < (0x18 : Byte).toNat % 32 := by
  simp only [Names]; decide +kernel

theorem witness_SeizuresAreRefused :
    Scanning quiet ∧ (Scanning (call quiet .queued) ∧ (call quiet .queued).call 3 ≠ none) ∧
      (quiet.call 3 = none ∧ (quiet.mpi.image.services[(7 : Fin 64)]).valid = false) ∧
      Scanning (quiet.setList 0 (List.finRange 32)) ∧ (quiet.setList 0 (List.finRange 32)).call 3 = none ∧
      (image.services[(5 : Fin 64)]).valid = true ∧
      (quiet.queueItems 0).depthLimit ≤ ((quiet.setList 0 (List.finRange 32)).cqm.lists[(0 : QueueNo)]).length := by
  simp only [Scanning]; decide +kernel

theorem witness_SeizuresAreAdmitted :
    let s := quiet.setList 0 ((List.finRange 32).drop 1)
    Scanning s ∧ s.call 0 = none ∧ (s.mpi.image.services[(5 : Fin 64)]).valid = true ∧
      (s.cqm.lists[(0 : QueueNo)]).length < (s.queueItems 0).depthLimit := by
  simp only [Scanning]; decide +kernel

theorem witness_ScannerReportsAndSweepAreTaken_reports :
    Scanning quiet ∧ Names 0xF7 23 ∧ (Scanning (quiet.setTrunkSup 31 ⟨.opened, .opened, none, false⟩) ∧
      (quiet.setTrunkSup 31 ⟨.opened, .opened, none, false⟩).lsi.unreported) := by
  simp only [Scanning, Names]; decide +kernel

theorem witness_ScannerReportsAndSweepAreTaken_sweep :
    let s := (quiet.setTrunkSup 31 ⟨.opened, .opened, none, false⟩).setClk ⟨2, 0, 0⟩
    (s.running = true ∧ s.now = 2 ∧
      0 < (List.finRange 32).countP (fun t : Trunk => !s.lsi.trunks[t].reported) +
        (List.finRange 24).countP fun p : Position => !s.lsi.positions[p].reported) ∧ quiet.now ≠ 2 := by
  decide +kernel

/-- The filter of T3 has run since a stamp. -/
def filtering (s : State) (start : Stamp) : State := s.setTrunkSup 3 ⟨.opened, .closed, some start, true⟩

theorem witness_DisconnectFilterExpires :
    (∀ s ∈ [quiet, call quiet .queued, call quiet (.offered 0 6 1), call (agent (.alerting (.call 3) 200)) (.alerting 7),
        call (agent (.talking (.call 3))) (.talking 7 90), call quiet (.lentAlerting 6 1 300), call quiet (.lentTalking 6 1 90)],
      (filtering s 95).lsi.trunks[(3 : Trunk)].filterStart = some 95 ∧
        (filtering s 95).items.disconnectFilter ≤ elapsed 95 (filtering s 95).now) ∧
    (filtering quiet 96).lsi.trunks[(3 : Trunk)].filterStart = some 96 ∧
      elapsed 96 (filtering quiet 96).now < (filtering quiet 96).items.disconnectFilter := by decide +kernel

/-- The headset filter of P7 has run since a stamp. -/
def unplugged (s : State) (start : Stamp) : State := s.setPositionSup 7 ⟨.absent, .present, some start, true⟩

theorem witness_HeadsetFilterExpires :
    (∀ s ∈ [quiet, agent .notReady, agent (.ready 90), agent (.wrapup (wrap 90 0)), agent (.talking (.call 3)),
        call (agent (.alerting (.call 3) 200)) (.alerting 7), guest (agent (.alerting (.guest 2) 200)) .alerting,
        guest (agent (.reserved 2)) (.waitConnect 105)],
      (unplugged s 90).lsi.positions[(7 : Position)].filterStart = some 90 ∧
        (unplugged s 90).items.headsetFilter ≤ elapsed 90 (unplugged s 90).now) ∧
    ((unplugged (call (agent (.alerting (.call 3) 200)) (.alerting 7)) 90).duty 7 = some (.alerting (.call 3) 200) ∧
      ((call (agent (.alerting (.call 3) 200)) (.alerting 7)).call 3).map (·.phase) = some (.alerting 7)) ∧
    ((guest (agent (.reserved 2)) (.waitConnect 105)).duty 7 = some (.reserved 2) ∧
      (guest (agent (.reserved 2)) (.waitConnect 105)).ofu.guests[(2 : GuestNo)] ≠ none) ∧
    elapsed 91 quiet.now < quiet.items.headsetFilter := by decide +kernel

/-- The keys' statements split by the duty; here is one part in RUN in each. -/
theorem witness_keys :
    Scanning quiet ∧ Names 0x27 7 ∧ (0x27 : Byte).toNat / 32 = 1 ∧
      (agent .notReady).duty 7 = some .notReady ∧ (agent (.ready 90)).duty 7 = some (.ready 90) ∧
      (agent (.reserved 2)).duty 7 = some (.reserved 2) ∧ quiet.duty 7 = none ∧
      (agent (.alerting (.call 3) 200)).duty 7 = some (.alerting (.call 3) 200) ∧
      (agent (.talking (.call 3))).duty 7 = some (.talking (.call 3)) ∧
      (agent (.wrapup (wrap 90 0))).duty 7 = some (.wrapup (wrap 90 0)) := by
  simp only [Scanning, Names]; decide +kernel

theorem witness_SignOnAndReadyKeysAreTaken :
    let s := quiet.setAgent 7 ⟨none, .present, .none⟩
    Scanning s ∧ Names 0x27 7 ∧ (0x27 : Byte).toNat / 32 = (1 : ProfileNo).val ∧
      ((s.dsu.agents[(7 : Position)]).post = none ∧ (s.dsu.agents[(7 : Position)]).headset = .present ∧
        s.profileQueues 1 ≠ []) ∧
      (quiet.dsu.agents[(7 : Position)]).headset = .absent ∧ s.profileQueues 7 = [] ∧
      ((agent .notReady).dsu.agents[(7 : Position)]).post ≠ none := by
  simp only [Scanning, Names]; decide +kernel

theorem witness_AnswerAndReleaseKeysAreTaken_answer :
    let s := call (agent (.alerting (.call 3) 200)) (.alerting 7)
    let u := guest (agent (.alerting (.guest 2) 200)) .alerting
    (Scanning s ∧ s.duty 7 = some (.alerting (.call 3) 200) ∧ s.call 3 = some (body (.alerting 7))) ∧
      Scanning u ∧ u.duty 7 = some (.alerting (.guest 2) 200) ∧ u.ofu.guests[(2 : GuestNo)] ≠ none := by
  simp only [Scanning]; decide +kernel

theorem witness_AnswerAndReleaseKeysAreTaken_release :
    let s := call (agent (.talking (.call 3))) (.talking 7 90)
    let u := guest (agent (.talking (.guest 2))) (.talking 90)
    (Scanning s ∧ s.duty 7 = some (.talking (.call 3)) ∧ s.call 3 = some (body (.talking 7 90))) ∧
      Scanning u ∧ u.duty 7 = some (.talking (.guest 2)) ∧
      u.ofu.guests[(2 : GuestNo)] = some ⟨.talking 90, 6, ⟨12, 5⟩, 1, 0, 1, 2, 77, 7⟩ := by
  simp only [Scanning]; decide +kernel

theorem witness_MoreTimeKeyIsTaken :
    Scanning (agent (.wrapup (wrap 90 1))) ∧ Names 0x07 7 ∧ (wrap 90 1).extensions ≤ 1 ∧ ¬ (wrap 90 2).extensions ≤ 1 := by
  simp only [Scanning, Names]; decide +kernel

theorem witness_RingDeadlineGivesUp :
    (let s := call (agent (.alerting (.call 3) 100)) (.alerting 7)
     s.duty 7 = some (.alerting (.call 3) s.now) ∧ ∃ b ∈ s.call 3, b.phase = .alerting 7) ∧
    (let s := guest (agent (.alerting (.guest 2) 100)) .alerting
     s.duty 7 = some (.alerting (.guest 2) s.now) ∧ s.ofu.guests[(2 : GuestNo)] ≠ none) :=
  ⟨⟨by decide +kernel, body (.alerting 7), by decide +kernel, rfl⟩, by decide +kernel⟩

theorem witness_WrapUpDeadlinesEndIt :
    (let s := (agent (.wrapup (wrap 50 0)) .ready)
     s.duty 7 = some (.wrapup (wrap 50 0)) ∧ (s.dsu.agents[(7 : Position)]).pendingAction = .ready ∧
       elapsed (wrap 50 0).start (wrap 50 0).minEnd ≤ elapsed (wrap 50 0).start s.now) ∧
    (∀ pend ∈ [PendingAction.none, .notReady, .signOff], let s := (agent (.wrapup (wrap 50 0)) pend).setClk ⟨250, 0, 0⟩
      s.duty 7 = some (.wrapup (wrap 50 0)) ∧ (s.dsu.agents[(7 : Position)]).pendingAction = pend ∧
        elapsed (wrap 50 0).start (wrap 50 0).wrapEnd ≤ elapsed (wrap 50 0).start s.now) := by decide +kernel

theorem witness_NextDueAndHoldoffsAreReached :
    (call quiet .queued).call 3 = some (body .queued) ∧ (body .queued).nextDue = .at quiet.now ∧
      (∃ j ∈ ((quiet.setJunctor 7 (.holdoff 100)).setHoldoffOrder [7]).sps.holdoffOrder,
        ((quiet.setJunctor 7 (.holdoff 100)).sps.junctors[j] == .holdoff quiet.now) = true) ∧
      ∀ j ∈ quiet.sps.holdoffOrder, (quiet.sps.junctors[j] == .holdoff quiet.now) = false := by decide +kernel

theorem witness_OverflowDeadlinesAct :
    (let s := (call quiet (.offered 3 6 0)).setSlot 3 (some ⟨3, 0, 100⟩)
     s.ofu.slots[(3 : SlotNo)] = some ⟨3, 0, s.now⟩ ∧ (∀ k : SlotNo, k < 3 → s.ofu.slots[k] = none) ∧
       s.call 3 = some (body (.offered 3 6 0))) ∧
    (let s := call quiet (.lentAlerting 6 0 100)
     s.call 3 = some (body (.lentAlerting 6 0 s.now)) ∧ ∀ u : Trunk, u < 3 → s.lentReached u = false) ∧
    (let s := guest (agent (.reserved 2)) (.waitConnect 100)
     (∃ r, s.ofu.guests[(2 : GuestNo)] = some r ∧ r.phase = .waitConnect s.now ∧ s.duty r.agent = some (.reserved 2)) ∧
       ∀ h : GuestNo, h < 2 → s.connectReached h = false) ∧
    ((∀ o : SlotNo, quiet.ofu.slots[o] = none) ∧ (∀ t, quiet.call t = none) ∧ ∀ g : GuestNo, quiet.ofu.guests[g] = none) := by
  refine ⟨by decide +kernel, by decide +kernel, ⟨⟨_, rfl, by decide +kernel, by decide +kernel⟩, by decide +kernel⟩, by
    decide +kernel⟩

theorem witness_NoticesAreTimedAndBuilt :
    (quiet.setPeriod (some 100)).pvt.periodDeadline = some quiet.now ∧ quiet.pvt.periodDeadline ≠ some quiet.now ∧
      (let s := quiet.setPlc { Plc.reset with queue := [⟨.notice, 0⟩], lastAvail := some 98 }
       s.plc.lastAvail = some 98 ∧ 2 ≤ elapsed 98 s.now ∧ s.plc.placeholder = .waiting) ∧
      quiet.plc.placeholder ≠ .waiting ∧ elapsed 99 quiet.now < 2 := by decide +kernel

theorem witness_PresenceTimeoutLosesThePeer :
    (let s := quiet.setPeer 15 (peer 30)
     (∃ d, s.pvt.peers[(15 : Station)] = .present d ∧ s.items.presenceLimit ≤ elapsed d.lastHeard s.now) ∧
       ∀ y : Station, y < 15 → s.presenceReached y = false) ∧
    elapsed 31 quiet.now < quiet.items.presenceLimit :=
  ⟨⟨⟨_, rfl, by decide +kernel⟩, by decide +kernel⟩, by decide +kernel⟩

theorem witness_AgentsAreChosenByPolicy :
    (let s := (agent (.ready 90)).setIdleList [7]
     (s.queueItems 0).policy = .longestIdle ∧ s.dsu.idleList = [] ++ 7 :: [] ∧
       ∃ x, (s.dsu.agents[(7 : Position)]).post = some x ∧ (∃ since, x.duty = .ready since) ∧
         (0 : QueueNo) ∈ s.profileQueues x.profile) ∧
    (let s := ((agent (.ready 90)).setHunt 0 8).setImage { image with queues := image.queues.set 0 { defaultQueue with policy := .circular } }
     (s.queueItems 0).policy = .circular ∧ s.dsu.hunt[(0 : QueueNo)] + 23 = 7 ∧
       ∃ x, (s.dsu.agents[(7 : Position)]).post = some x ∧ (∃ since, x.duty = .ready since) ∧
         (0 : QueueNo) ∈ s.profileQueues x.profile) :=
  ⟨⟨by decide +kernel, by decide +kernel, _, rfl, ⟨_, rfl⟩, by decide +kernel⟩,
    ⟨by decide +kernel, by decide +kernel, _, rfl, ⟨_, rfl⟩, by decide +kernel⟩⟩

theorem witness_DivisionsRunAndPublish_publish :
    (quiet.setInFlight (some ⟨7, 1048560, 0⟩)).est.inFlight = some ⟨7, 1048560, 0⟩ ∧ quiet.est.inFlight = none := by
  decide +kernel

theorem witness_DivisionsRunAndPublish_close :
    (let v := quiet.setInFlight (some ⟨7, 0, 0⟩)
     v.est.inFlight = some ⟨7, 0, 0⟩ ∧ v.est.recs[(7 : QueueNo)].aht16 = 0 ∧ v.staffedCount 7 = 0) ∧
    (let v := quiet.setInFlight (some ⟨7, 16, 0⟩)
     v.est.inFlight = some ⟨7, 16, 0⟩ ∧ v.est.recs[(7 : QueueNo)].aht16 ≠ 16) ∧
    (quiet.est.inFlight = none ∧ (agent (.ready 90)).staffedCount 0 ≠ quiet.staffedCount 0) := by decide +kernel

theorem witness_EstimatesAreComputed :
    (quiet.est.recs[(0 : QueueNo)]).nUsed = 0 ∧ ((quiet.setEst 0 ⟨0, 0, 1, false, 0⟩).est.recs[(0 : QueueNo)]).nUsed ≠ 0 ∧
      0 < quiet.items.bandWidth := by decide +kernel

/-- A fetch of M2 is in flight, in a state of its channel. -/
def fetching (x : ChannelState) (start : BitVec 8) : State := (quiet.setChannel 4 ⟨x, 1, 0, 0⟩).setPort (some ⟨4, start, 1, 65535⟩)

theorem witness_FetchesFillTheChannel :
    quiet.pbc.port = none ∧ ((fetching .idle 1).pbc.port = some ⟨4, 1, 1, 65535⟩ ∧ (fetching .idle 1).pbc.channels[(4 : Channel)].state = .idle) ∧
      (let x : ClipRun := ⟨2, 1, 65535, 1, [], 0, true⟩
       let s := fetching (.loading x) 1
       s.pbc.port = some ⟨4, 1, 1, 65535⟩ ∧ s.pbc.channels[(4 : Channel)].state.run = some x ∧
         s.pbc.channels[(4 : Channel)].startNumber = 1) ∧
      (fetching (.loading ⟨2, 1, 65535, 1, [], 0, true⟩) 0).pbc.channels[(4 : Channel)].startNumber ≠ 0 := by
  decide +kernel

theorem witness_BlockBoundariesAreTaken :
    wellFormed (.blockBoundary [1, 0]) = true ∧ State.reset.running = false ∧ quiet.running = true := by decide

theorem witness_ArbiterAndStartCheckAct :
    (let x : ClipRun := ⟨2, 1, 65535, 1, [⟨.silence, false⟩], 0, false⟩
     let s := quiet.setChannel 5 ⟨.loading x, 1, 0, 0⟩
     s.pbc.port = none ∧ s.pbc.channels[(5 : Channel)].state.run = some x ∧ x.buffer.length < 2 ∧ x.fetching = false ∧
       0 < x.remaining ∧ ∀ i : Channel, i < 5 → s.pbc.channels[i].state.run = none) ∧
    ((quiet.mpi.image.clips[(3 : Clip)]).valid = true ∧ (quiet.mpi.image.clips[(4 : Clip)]).valid = false) ∧
    (let s := quiet.setWaiting [⟨3, 3⟩]
     s.htu.waiting = [] ++ ⟨3, 3⟩ :: [] ∧ s.pbc.channels[(0 : Channel)].state = .idle ∧ s.htu.waiting.length ≤ 32) := by
  decide +kernel

theorem witness_CloseAsksAndBegins :
    ((agent (.ready 90)).idleSet 0 ≠ [] ∧ quiet.idleSet 0 = []) ∧
    (let w := (loaded 1 []).setPlc { (loaded 1 []).plc with busIdle := 2 }
     w.plc.queue = [] ++ ⟨.frame ⟨6, .withdraw ⟨3, 9⟩⟩, 0⟩ :: [] ∧ w.running = true ∧ w.plc.attempt = none ∧ 2 ≤ w.plc.busIdle) ∧
    State.reset.running = false := by decide +kernel

theorem witness_CloseWritesNothingElse :
    quiet.settled = true ∧ (quiet.setScanErrors 9).est = quiet.est ∧ (quiet.setScanErrors 9).plc = quiet.plc ∧
      (∀ q p, (quiet.setScanErrors 9).staffed q p = quiet.staffed q p) ∧
      (∀ q p, (quiet.setScanErrors 9).idle q p = quiet.idle q p) ∧
      (quiet.setScanErrors 9).guestsInUse = quiet.guestsInUse ∧ (quiet.setScanErrors 9).clk = quiet.clk ∧
      (quiet.setScanErrors 9).mpi = quiet.mpi :=
  ⟨by decide +kernel, rfl, rfl, fun _ _ => rfl, fun _ _ => rfl, rfl, rfl, rfl⟩

/-- An attempt is under way for an entry at its `n`-th. -/
def attempting (b : TxBody) (n : Nat) : State :=
  quiet.setPlc { Plc.reset with queue := [⟨b, n⟩], attempt := some [4, 0x36, 1] }

theorem witness_AttemptsBeginAndEnd :
    quiet.plc.attempt = none ∧
    (∀ e ∈ [TxEntry.mk .notice 7, ⟨.notice, 8⟩, ⟨.frame ⟨6, .withdraw ⟨3, 9⟩⟩, 7⟩, ⟨.frame ⟨6, .withdraw ⟨3, 9⟩⟩, 8⟩,
        ⟨.frame ⟨6, .offer ⟨⟨3, 9⟩, 0, 2, 1, 0, 60⟩⟩, 8⟩],
      (attempting e.body e.tries).plc.attempt = some [4, 0x36, 1] ∧ (attempting e.body e.tries).plc.queue = [] ++ e :: [] ∧
        0 < e.tries) ∧
    (let s := call (attempting (.frame ⟨6, .offer ⟨⟨3, 9⟩, 0, 2, 1, 0, 60⟩⟩) 8) (.offered 1 6 0)
     s.cqm.calls[(3 : Trunk)] = ⟨9, some (body (.offered 1 6 0))⟩) := by decide +kernel

theorem witness_UndeliveredFramesAreCounted :
    receive 4 none (rxChars .withdraw (received 6 5 (.withdraw ⟨3, 9⟩))) false = .skipped ∧
    receive 4 none (rxChars .withdraw ⟨4, 6, [3], false, false⟩) false = .lengthError ∧
    receive 4 none (rxChars .withdraw (received 6 4 (.withdraw ⟨3, 9⟩))) true = .crcError ∧
    receive 4 none (rxChars .withdraw (received 4 4 (.withdraw ⟨3, 9⟩))) false = .clash ∧
    receive 4 (some (frameChars 4 ⟨4, .withdraw ⟨3, 9⟩⟩)) (rxChars .withdraw (received 4 4 (.withdraw ⟨3, 9⟩))) false = .echo ∧
    kindMissing [] = true ∧ kindMissing [0xA6] = true ∧ State.reset.running = false ∧ quiet.running = true ∧
    quiet.plc.onBus ≠ .passedOver ∧
    (let s := quiet.setPlc { Plc.reset with onBus := .passedOver }
     s.running = true ∧ s.plc.onBus = .passedOver) := by
  decide +kernel

theorem witness_NoticesAreApplied :
    Delivers quiet .avail (received 6 0 (.avail fullNotice)) 6 (.avail fullNotice) ∧
    (let n : Notice := { fullNotice with clock := 499 }
     let s := quiet.setPeer 6 (peer 90)
     Delivers s .avail (received 6 0 (.avail n)) 6 (.avail n) ∧
       ∃ d, s.pvt.peers[(6 : Station)] = .present d ∧ n.clock.toNat < d.lastClock.toNat) :=
  ⟨by unfold Delivers; decide +kernel, by unfold Delivers; decide +kernel, _, rfl, by decide +kernel⟩

/-- An OFFER of a call of Q0 from S6. -/
def offer : OfferData := ⟨⟨12, 5⟩, 0, 1, 2, 1, 77⟩

theorem witness_OffersAreTakenOrDeclined :
    (∀ s ∈ [quiet, (agent (.ready 90)).setIdleList [7], agent (.wrapup (wrap 90 0)),
        (guest (agent (.reserved 2)) (.waitConnect 105))],
      Delivers s .offer (received 6 4 (.offer offer)) 6 (.offer offer)) ∧
    quiet.staffedCount 0 = 0 ∧ (agent (.wrapup (wrap 90 0))).idleSet 0 = [] ∧ (agent (.wrapup (wrap 90 0))).staffedCount 0 = 1 ∧
    (guest (agent (.reserved 2)) (.waitConnect 105)).guestNamed 6 offer.tag = some 2 ∧
    ((((agent (.ready 90)).setIdleList [7]).chooseAgent 0).map (·.1) = some 7 ∧ quiet.ofu.guests[(0 : GuestNo)] = none) ∧
    (let s := (agent (.ready 90)).setImage { image with station := { defaultStation with guestLimit := 0 } }
     s.items.guestLimit ≤ s.guestsInUse) := by
  simp only [Delivers]; decide +kernel

theorem witness_OriginFramesAct_take :
    (let s := call quiet (.offered 1 6 0)
     Delivers s .take (received 6 4 (.take ⟨3, 9⟩ 0)) 6 (.take ⟨3, 9⟩ 0) ∧
       s.cqm.calls[(3 : Trunk)] = ⟨9, some (body (.offered 1 6 0))⟩) ∧
    Delivers quiet .take (received 6 4 (.take ⟨31, 15⟩ 7)) 6 (.take ⟨31, 15⟩ 7) ∧ quiet.call 31 = none := by
  simp only [Delivers]; decide +kernel

theorem witness_OriginFramesAct_others :
    Delivers (call quiet (.offered 1 6 0)) .decline (received 6 4 (.decline ⟨3, 9⟩ .noAgent)) 6 (.decline ⟨3, 9⟩ .noAgent) ∧
    Delivers (call quiet (.lentAlerting 6 0 300)) .answered (received 6 4 (.answered ⟨3, 9⟩)) 6 (.answered ⟨3, 9⟩) ∧
    Delivers (call quiet (.lentAlerting 6 0 300)) .bounce (received 6 4 (.bounce ⟨3, 9⟩ .noAnswer)) 6
      (.bounce ⟨3, 9⟩ .noAnswer) ∧
    Delivers (call quiet (.lentTalking 6 0 90)) .release (received 6 4 (.release ⟨3, 9⟩ .agentDone)) 6
      (.release ⟨3, 9⟩ .agentDone) ∧
    (call quiet (.offered 1 6 0)).cqm.calls[(3 : Trunk)] = ⟨9, some (body (.offered 1 6 0))⟩ ∧ quiet.call 3 = none := by
  simp only [Delivers]; decide +kernel

theorem witness_ConnectsAndReleasesReachTheGuest_connect :
    (let s := guest (agent (.reserved 2)) (.waitConnect 105)
     Delivers s .connect (received 6 4 (.connect ⟨12, 5⟩ 1)) 6 (.connect ⟨12, 5⟩ 1) ∧ s.guestNamed 6 ⟨12, 5⟩ = some 2) ∧
    Delivers quiet .connect (received 6 4 (.connect ⟨12, 5⟩ 1)) 6 (.connect ⟨12, 5⟩ 1) ∧ quiet.guestNamed 6 ⟨12, 5⟩ = none := by
  simp only [Delivers]; decide +kernel

theorem witness_ConnectsAndReleasesReachTheGuest_release :
    (let s := guest (agent (.reserved 2)) (.waitConnect 105)
     Delivers s .withdraw (received 6 4 (.withdraw ⟨12, 5⟩)) 6 (.withdraw ⟨12, 5⟩) ∧
       Delivers s .release (received 6 4 (.release ⟨12, 5⟩ .callerGone)) 6 (.release ⟨12, 5⟩ .callerGone) ∧
       Delivers s .release (received 6 4 (.release ⟨12, 5⟩ .tooLate)) 6 (.release ⟨12, 5⟩ .tooLate) ∧
       s.guestNamed 6 ⟨12, 5⟩ = some 2) ∧ quiet.guestNamed 6 ⟨12, 5⟩ = none := by
  simp only [Delivers]; decide +kernel

theorem witness_OffersAreMade :
    let s := ((call quiet .queued).setList 0 [3]).setPeer 6 (peer 90)
    s.headEligible 0 = some 3 ∧ s.call 3 = some (body .queued) ∧ (∀ o : SlotNo, s.ofu.slots[o] = none) ∧
      0 < (s.queueItems 0).ovfWait ∧ (s.queueItems 0).ovfWait ≤ elapsed (body .queued).arrival s.now ∧
      s.sps.freeOrder = 0 :: [1, 2, 3, 4, 5, 6, 7] ∧ s.plc.frames ≤ 5 ∧
      (∃ d, s.pvt.peers[(6 : Station)] = .present d ∧ 1 ≤ d.room ∧ d.decline[(0 : QueueNo)] = false ∧ 1 ≤ d.idle[(0 : QueueNo)]) ∧
      (∀ y : Station, y ≠ 6 → s.pvt.peers[y] = .unknown) ∧ quiet.headEligible 0 = none := by
  refine ⟨by decide +kernel, by decide +kernel, by decide +kernel, by decide +kernel, by decide +kernel, by decide +kernel, by
    decide +kernel, ⟨_, rfl, by decide +kernel, by decide +kernel, by decide +kernel⟩, by decide +kernel, by decide +kernel⟩

theorem witness_SetWritesOneItem :
    State.reset.running = false ∧ ((stationRange 9).1 ≤ 16 ∧ 16 ≤ (stationRange 9).2) ∧ queueRange 6 255 = true ∧
      queueRange 8 100 = true ∧ ([7, 0, 6] : List QueueNo).Nodup := by decide +kernel

theorem witness_SetIsRefused :
    State.reset.running = false ∧ ([0] : List Byte).length < 2 ∧ quiet.running = true ∧ (stationRange 0).2 < 21 ∧
      queueRange 8 99 = false ∧ queueRange 6 254 = false ∧ (¬ ([3, 3] : List Byte).Nodup ∧ ∃ b ∈ ([8] : List Byte), 7 < b.toNat) ∧
      1 < (2 : Byte).toNat := by decide +kernel

theorem witness_StartIsTakenOrRefused :
    ([7] : List Byte) ≠ [] ∧ quiet.running = true ∧
    (State.reset.running = false ∧
      (defaultImage.clips[(defaultImage.music[(0 : Programme)]).clip]).valid = false ∧
      ¬ defaultStation.lentLimit ≤ defaultStation.ringLimit + defaultStation.connectLimit) ∧
    (image.station.presenceLimit ≥ 2 * image.station.availPeriod ∧
      (∀ m : Programme, (image.clips[(image.music[m]).clip]).valid = true) ∧
      (∀ q : QueueNo, (image.queues[q]).wrapMin ≤ (image.queues[q]).wrapTime) ∧
      image.station.ringLimit + image.station.connectLimit < image.station.lentLimit) := by decide +kernel

theorem witness_TablesAreSelectedAndRead :
    (quiet.setPointer ⟨1, 24⟩).mpi.pointer = ⟨1, 24⟩ ∧ (24 : Nat) < (![32, 25, 8, 6, 8, 16, 16, 4] : Fin 8 → Nat) 1 ∧
      (![32, 25, 8, 6, 8, 16, 16, 4] : Fin 8 → Nat) 1 ≤ (25 : Byte).toNat ∧ 7 < (8 : Byte).toNat := by decide +kernel

theorem witness_TransactionsAreTakenWhole :
    ([4] : List Byte).length < (2 : Byte).toNat ∧ 7 < (8 : Byte).toNat ∧ (List.replicate 254 (0 : Byte)).length ≤ 254 := by
  decide +kernel

/-- A drive of slots by one source alone, for each clause on a highway slot. -/
theorem witness_HighwaysCarryThePaths :
    (let s := quiet.setSending { FramePaths.silent with driven := [(65, .channel 2)] }
     (65, PathSource.channel 2) ∈ s.sps.sending.driven ∧
       (∀ y, (65, y) ∈ s.sps.sending.driven → y = .channel 2) ∧ ∀ x, ((255 : Fin 256).val, x) ∉ s.sps.sending.driven) := by
  refine ⟨?_, ?_, ?_⟩ <;> simp [State.setSending]

theorem nothing_due : ∀ e, exec (rowOf e) quiet = .next quiet ∧ exec (rowOf e) (ticked quiet) = .next (ticked quiet) := by
  have h : ∀ e, (nextOf (rowOf e) quiet == quiet && nextOf (rowOf e) (ticked quiet) == ticked quiet) = true := by
    intro e
    cases e <;> first
      | (rename_i x; revert x; decide +kernel)
      | decide +kernel
  intro e
  have k := h e
  rw [Bool.and_eq_true, beq_iff_eq, beq_iff_eq] at k
  exact ⟨(exec_next _ _).trans (congrArg _ k.1), (exec_next _ _).trans (congrArg _ k.2)⟩

theorem witness_TicksAdvanceTheClock :
    State.reset.running = false ∧ quiet.running = true ∧ (∀ e, exec (rowOf e) quiet = .next quiet) ∧
      (∀ e, exec (rowOf e) (ticked quiet) = .next (ticked quiet)) ∧ quiet.settled = true ∧ quiet.est.inFlight = none ∧
      (∀ q, (ticked quiet).scanQueue q = ticked quiet) ∧ (ticked quiet).linkWaits = true :=
  ⟨rfl, rfl, fun e => (nothing_due e).1, fun e => (nothing_due e).2, by decide +kernel, rfl, by decide +kernel, by
    decide +kernel⟩

/-- A state whose next pulse is both the 800th and the 256th. -/
theorem witness_TicksAdvanceTheClock_coincident :
    let s := quiet.setClk ⟨100, 544, 0⟩
    s.running = true ∧ s.clk.ticksDue = 0 ∧ s.pbc.boundariesDue = 0 ∧ s.clk.frameCount < 800 ∧ s.pbc.blockFrameCount < 256 ∧
      800 - s.clk.frameCount = 256 - s.pbc.blockFrameCount := by decide +kernel

end Sys2Proof.Tests
end

section
/-! PROOF. Work that every event may do: it keeps the sizes of SizesAreKept, every generation, and what the link has
received. One rule for each operation; an operation's rule is put together from the rules of the operations it calls. -/

namespace Sys2Proof.Machine

/-- The limits that SizesAreKept sets on the PLC (R145, R146). -/
def Plc.Fits (c : Plc) : Prop :=
  c.frames ≤ 8 ∧ c.crcErr ≤ 65535 ∧ c.lengthErr ≤ 65535 ∧ c.idClash ≤ 65535 ∧ c.contentionDrop ≤ 65535 ∧ c.txqDrop ≤ 65535

/-- The limits that SizesAreKept sets on the LSI (R4, R14). -/
def Lsi.Fits (l : Lsi) : Prop := l.orders.length ≤ 64 ∧ l.scanErrors ≤ 65535 ∧ l.orderLosses ≤ 255

/-- The limits that SizesAreKept sets on the FIFO (R190). -/
def Mpi.Fits (m : Mpi) : Prop := m.fifo.length ≤ 64 ∧ m.lostReports ≤ 255

theorem withinSizes_iff (s : State) : s.withinSizes = true ↔ s.lsi.Fits ∧ s.plc.Fits ∧ s.mpi.Fits := by
  simp only [State.withinSizes, Lsi.Fits, Plc.Fits, Mpi.Fits, Bool.and_eq_true, decide_eq_true_eq]
  tauto

theorem satUp_le (top n : Nat) : satUp top n ≤ top := Nat.min_le_right _ _

/-- What the link has received and done itself: written where a frame or an attempt ends, and nowhere else. -/
def Plc.received (c : Plc) : Nat × Nat × Nat × Nat × Option Stamp × Option (List Byte) :=
  (c.crcErr, c.lengthErr, c.idClash, c.contentionDrop, c.lastAvail, c.echo)

/-- `u` comes from `s` by work that keeps the sizes, the generations and the record of the link. -/
structure Routine (s u : State) : Prop where
  lsi : s.lsi.Fits → u.lsi.Fits
  plc : s.plc.Fits → u.plc.Fits
  mpi : s.mpi.Fits → u.mpi.Fits
  gen : ∀ t : Trunk, u.cqm.calls[t].gen = s.cqm.calls[t].gen
  link : u.plc.received = s.plc.received

namespace Routine

variable {s u v : State}

theorem refl (s : State) : Routine s s := ⟨id, id, id, fun _ => rfl, rfl⟩

theorem trans (h : Routine s u) (k : Routine u v) : Routine s v :=
  ⟨k.lsi ∘ h.lsi, k.plc ∘ h.plc, k.mpi ∘ h.mpi, fun t => (k.gen t).trans (h.gen t), k.link.trans h.link⟩

theorem within (h : Routine s u) (hs : s.withinSizes = true) : u.withinSizes = true := by
  rw [withinSizes_iff] at hs ⊢
  exact ⟨h.lsi hs.1, h.plc hs.2.1, h.mpi hs.2.2⟩

/-- The pieces of the state that `Routine` speaks of. -/
def view (s : State) : (List Order × Nat × Nat) × Plc × (List Report × Nat) × Vector CallRec 32 :=
  ((s.lsi.orders, s.lsi.scanErrors, s.lsi.orderLosses), s.plc, (s.mpi.fifo, s.mpi.lostReports), s.cqm.calls)

/-- A write to other pieces is routine work. -/
theorem same (h : Routine s u) (e : view v = view u) : Routine s v := by
  simp only [view, Prod.mk.injEq] at e
  obtain ⟨⟨ho, hs, hl⟩, hp, ⟨hf, hr⟩, hc⟩ := e
  exact h.trans ⟨by simp [Lsi.Fits, ho, hs, hl], by simp [hp], by simp [Mpi.Fits, hf, hr], by simp [hc], by rw [hp]⟩

theorem foldl {α : Type} {f : State → α → State} (l : List α) (h : Routine s u)
    (hf : ∀ v a, Routine s v → Routine s (f v a)) : Routine s (l.foldl f u) :=
  List.foldlRecOn l f h fun v hv a _ => hf v a hv

/-! ## Reports, orders, frames -/

theorem writeReport (h : Routine s u) {r : Report} : Routine s (u.writeReport r) := by
  refine h.trans ⟨by simp [Lsi.Fits], by simp, ?_, by simp, by simp⟩
  rintro ⟨hf, hl⟩
  unfold State.writeReport
  split
  next room => exact ⟨by simpa using Nat.succ_le_of_lt room, hl⟩
  next => exact ⟨hf, satUp_le 255 _⟩

theorem issue (h : Routine s u) {o : Order} : Routine s (u.issue o) := by
  refine h.trans ⟨?_, by simp, by simp [Mpi.Fits], by simp, by simp⟩
  rintro ⟨ho, hs, hl⟩
  unfold State.issue
  split
  next room => exact ⟨by simpa using Nat.succ_le_of_lt room, hs, hl⟩
  next =>
    split
    · exact ⟨ho, hs, satUp_le 255 _⟩
    · exact ⟨ho, hs, hl⟩

theorem scanError (h : Routine s u) : Routine s u.scanError :=
  h.trans ⟨fun ⟨ho, _, hl⟩ => ⟨ho, satUp_le 65535 _, hl⟩, id, id, fun _ => rfl, rfl⟩

/-- A new PLC record that fits and has the same record of the link. -/
theorem setPlc (h : Routine s u) {c : Plc} (hf : u.plc.Fits → c.Fits) (hr : c.received = u.plc.received) :
    Routine s (u.setPlc c) :=
  h.trans ⟨id, hf, id, fun _ => rfl, hr⟩

theorem give (h : Routine s u) {x : Station} {p : Payload} : Routine s (u.give x p) := by
  unfold State.give
  split
  next room =>
    refine h.setPlc (fun ⟨hq, hc⟩ => ⟨?_, hc⟩) rfl
    simp only [Plc.frames, List.countP_append] at room ⊢
    exact Nat.add_le_add (Nat.le_of_lt_succ room) (List.countP_le_length (l := [_]))
  next => exact h.setPlc (fun ⟨hq, hc, hl, hi, hd, _⟩ => ⟨hq, hc, hl, hi, hd, satUp_le 65535 _⟩) rfl

theorem requestNotice (h : Routine s u) : Routine s u.requestNotice := by
  unfold State.requestNotice
  split
  · exact h.setPlc (fun ⟨hq, hc⟩ => ⟨by simpa [Plc.frames, TxEntry.isFrame] using hq, hc⟩) rfl
  · exact h
  · exact h.setPlc id rfl

/-! ## Call records and agents (Ops.lean) -/

theorem setCall (h : Routine s u) {t : Trunk} {x : CallRec} (e : x.gen = u.cqm.calls[t].gen) :
    Routine s (u.setCall t x) := by
  refine h.trans ⟨id, id, id, fun i => ?_, rfl⟩
  simp only [State.setCall_fields, Fin.getElem_fin, Vector.getElem_set]
  split
  next hi => rw [e]; simp [hi]
  next => rfl

theorem modifyCall (h : Routine s u) {t : Trunk} {f : CallBody → CallBody} : Routine s (u.modifyCall t f) := h.setCall rfl

theorem setPhase (h : Routine s u) {t : Trunk} {p : CallPhase} : Routine s (u.setPhase t p) := h.modifyCall

theorem setWaiting (h : Routine s u) {l : List WaitEntry} : Routine s (u.setWaiting l) := h.same rfl

theorem removeEntry (h : Routine s u) {t : Trunk} : Routine s (u.removeEntry t) := h.setWaiting.modifyCall

theorem joinWaiting (h : Routine s u) {t : Trunk} {k : Clip} : Routine s (u.joinWaiting t k) := h.setWaiting.modifyCall

theorem freeJunctor (h : Routine s u) {j : Junctor} : Routine s (u.freeJunctor j) := by
  unfold State.freeJunctor
  split
  · exact h.same rfl
  · exact h

theorem outOfService (h : Routine s u) {p : Position} : Routine s (u.outOfService p) := by
  unfold State.outOfService
  split <;> exact h.same rfl

theorem ringAgent (h : Routine s u) {p : Position} {b : Bound} : Routine s (u.ringAgent p b) :=
  (h.same (v := (u.leaveIdle p).setDuty p _) rfl).issue

theorem ringForCall (h : Routine s u) {p : Position} {t : Trunk} : Routine s (u.ringForCall p t) := by
  unfold State.ringForCall
  split
  · exact h
  · exact (h.ringAgent.same (v := (u.ringAgent p (.call t)).removeCall _ t) rfl).setPhase.removeEntry.modifyCall

theorem chooseAgent (h : Routine s u) {q : QueueNo} {p : Position} (e : u.chooseAgent q = some (p, v)) : Routine s v := by
  obtain ⟨-, rfl | rfl⟩ := State.chooseAgent_cases u e
  · exact h
  · exact h.same rfl

theorem matchCall (h : Routine s u) {t : Trunk} : Routine s (u.matchCall t) := by
  unfold State.matchCall
  split
  · exact h
  · split
    · exact h
    next e => exact (h.chooseAgent e).ringForCall

theorem becomeReady (h : Routine s u) {p : Position} : Routine s (u.becomeReady p) := by
  unfold State.becomeReady
  have k : Routine s (u.setPendingAction p .none) := h.same rfl
  simp only
  split
  · exact k.ringForCall
  · exact k.same rfl

theorem takePending (h : Routine s u) {p : Position} : Routine s (u.takePending p) := by
  unfold State.takePending
  split
  · exact h.same rfl
  · exact h.same rfl
  all_goals exact h.becomeReady

theorem reportAgent (h : Routine s u) {before : State} {p : Position} {c : AgentCause} :
    Routine s (u.reportAgent before p c) := by
  unfold State.reportAgent
  simp only
  split
  · split
    · exact h
    · exact h.writeReport
  · split
    · exact h
    · exact h.writeReport
  · split
    · exact h
    · exact h.writeReport
  · exact h

theorem endWrap (h : Routine s u) {p : Position} {w : WrapFields} {b : EndedBy} {d : Destination} :
    Routine s (u.endWrap p w b d) := by
  unfold State.endWrap
  have k : Routine s ((u.writeReport (.wrapEnd p w.queue (elapsed w.start u.now) b)).sample w.queue
    (clamp16 (w.talk + elapsed w.start u.now))) := h.writeReport.same rfl
  cases d
  · exact k.becomeReady
  · exact k.same rfl
  · exact k.same rfl

theorem openWrap (h : Routine s u) {p : Position} {q : QueueNo} {n : Nat} : Routine s (u.openWrap p q n) := by
  unfold State.openWrap
  simp only
  split
  · exact (h.same (v := u.setDuty p _) rfl).endWrap
  · exact h.same rfl

theorem clearTrunk (h : Routine s u) {t : Trunk} : Routine s (u.clearTrunk t) := h.issue.same rfl

theorem freeOverflow (h : Routine s u) {p : CallPhase} : Routine s (u.freeOverflow p) := by
  unfold State.freeOverflow
  split
  case h_1 => exact (h.same (v := u.setSlot _ none) rfl).freeJunctor
  case h_2 | h_3 => exact h.freeJunctor
  all_goals exact h

theorem endCall (h : Routine s u) {t : Trunk} : Routine s (u.endCall t) := by
  unfold State.endCall
  split
  · exact h
  next b _ =>
    have k : Routine s (((u.clearTrunk t).freeOverflow b.phase).removeCall b.queue t) :=
      h.clearTrunk.freeOverflow.same rfl
    exact ((k.removeEntry (t := t)).setCall (t := t) (x := ⟨_, none⟩) rfl).writeReport

theorem failOffer (h : Routine s u) {t : Trunk} : Routine s (u.failOffer t) := by
  unfold State.failOffer
  split
  · exact h.freeOverflow.setPhase.matchCall
  · exact h

theorem requeue (h : Routine s u) {q : QueueNo} {t : Trunk} : Routine s (u.requeue q t) :=
  (h.same (v := u.insertCall q t) rfl).removeEntry.modifyCall.matchCall

theorem returnCall (h : Routine s u) {t : Trunk} : Routine s (u.returnCall t) := by
  unfold State.returnCall
  split
  · exact h
  · split
    · exact h.freeOverflow.setPhase.requeue
    · exact h.freeOverflow.setPhase.requeue
    · exact h.freeOverflow.modifyCall.requeue
    all_goals exact h

theorem callerRelease (h : Routine s u) {before : State} {t : Trunk} : Routine s (u.callerRelease before t) := by
  unfold State.callerRelease
  split
  · exact h
  · simp only
    split
    · exact h.endCall
    · exact h.give.endCall
    · exact h.issue.endCall.takePending.reportAgent
    · exact h.endCall.openWrap.reportAgent
    · exact h.give.endCall
    · exact h.give.endCall

theorem freeGuest (h : Routine s u) {g : GuestNo} : Routine s (u.freeGuest g) := by
  unfold State.freeGuest
  split
  · exact h
  · have k : Routine s (u.setGuest g none) := h.same rfl
    simp only
    split
    · split
      · exact k.openWrap
      · exact k.openWrap
    · exact k.issue.takePending
    · exact k.takePending

theorem releaseGuest (h : Routine s u) {before : State} {g : GuestNo} : Routine s (u.releaseGuest before g) := by
  unfold State.releaseGuest
  split
  · exact h
  · exact h.freeGuest.reportAgent

theorem settleCall (h : Routine s u) {t : Trunk} : Routine s (u.settleCall t) := by
  unfold State.settleCall
  split
  · exact h.failOffer
  · exact h.returnCall

theorem losePeer (h : Routine s u) {before : State} {x : Station} : Routine s (u.losePeer before x) :=
  (h.foldl _ fun _ _ k => k.settleCall).foldl _ fun _ _ k => k.releaseGuest

/-! ## The close of an event (Event.lean) -/

theorem closeEst (h : Routine s u) {before : State} : Routine s (u.closeEst before) := by
  have stays : ∀ v : State, view (v.abandonStale.beginDivision) = view v := by
    intro v
    simp [view]
  refine (Routine.foldl _ h fun v q k => ?_).same (stays _)
  split
  · exact k
  · exact k.same rfl

theorem askOnCrossing (h : Routine s u) {before : State} : Routine s (u.askOnCrossing before) := by
  unfold State.askOnCrossing
  split
  · exact h.requestNotice
  · exact h

theorem countP_set_isFrame {l : List TxEntry} {i : Nat} {e : TxEntry} (he : l[i]? = some e) (n : Nat) :
    (l.set i { e with tries := n }).countP (·.isFrame) = l.countP (·.isFrame) := by
  obtain ⟨hi, rfl⟩ := List.getElem?_eq_some_iff.1 he
  have same : ({ l[i] with tries := n } : TxEntry).isFrame = l[i].isFrame := rfl
  rw [List.countP_set hi, same]
  exact Nat.sub_add_cancel (List.boole_getElem_le_countP (p := (·.isFrame)) hi)

theorem beginAttempt (h : Routine s u) : Routine s u.beginAttempt := by
  unfold State.beginAttempt
  split
  · split
    · exact h
    · split
      · exact h
      next e he =>
        split
        · exact h.setPlc (fun ⟨hq, hc⟩ => ⟨by simpa only [Plc.frames, countP_set_isFrame he] using hq, hc⟩) rfl
        · exact h
  · exact h

theorem refresh (h : Routine s u) : Routine s u.refresh := h.same (by simp [view])

theorem close (h : Routine s u) {before : State} : Routine s (u.close before) :=
  h.closeEst.askOnCrossing.beginAttempt.refresh

theorem event (h : Routine s u) {f : State → State} (hf : Routine u (f u)) : Routine s (u.event f) :=
  (h.trans hf).close

end Routine
end Sys2Proof.Machine
end

section
/-! PROOF. Which operations of the keys, the playback, the lines, the overflow, the peers and the link are routine work; and
what the others do to the sizes: an admitted seizure gives its record a new generation, and a frame or an attempt that ends
writes the record of the link. -/

namespace Sys2Proof.Machine.Routine

variable {s u v : State}

/-! ## Keys (Keys.lean) -/

theorem refuseKey (h : Routine s u) {p : Position} : Routine s (u.refuseKey p) := h.issue

theorem keySignOn (h : Routine s u) {p : Position} {f : ProfileNo} : Routine s (u.keySignOn p f) := by
  unfold State.keySignOn
  simp only
  split
  · exact h.refuseKey
  · split
    · exact (h.same (v := u.setAgent p _) rfl).reportAgent
    · exact h.refuseKey

theorem keyReady (h : Routine s u) {p : Position} : Routine s (u.keyReady p) := by
  unfold State.keyReady
  simp only
  split
  · split
    · exact h.becomeReady.reportAgent
    · exact h.refuseKey
  · split
    · exact h.refuseKey
    · split
      · exact h.endWrap.reportAgent
      · exact h.same rfl
  all_goals exact h.refuseKey

theorem toNotReady (h : Routine s u) {p : Position} : Routine s (u.toNotReady p) := h.same rfl

theorem toSignedOff (h : Routine s u) {p : Position} : Routine s (u.toSignedOff p) := h.same rfl

theorem keyNotReady (h : Routine s u) {p : Position} : Routine s (u.keyNotReady p) := by
  unfold State.keyNotReady
  split
  · exact h.toNotReady.reportAgent
  · exact h.same rfl
  · exact h.same rfl
  · exact h.same rfl
  · exact h.endWrap.reportAgent
  all_goals exact h.refuseKey

theorem keySignOff (h : Routine s u) {p : Position} : Routine s (u.keySignOff p) := by
  unfold State.keySignOff
  split
  · exact h.toSignedOff.reportAgent
  · exact h.toSignedOff.reportAgent
  · exact h.same rfl
  · exact h.same rfl
  · exact h.same rfl
  · exact h.same rfl
  · exact h.refuseKey

theorem setGuest (h : Routine s u) {g : GuestNo} {x : Option GuestRec} : Routine s (u.setGuest g x) := h.same rfl

theorem answerGuest (h : Routine s u) {g : GuestNo} : Routine s (u.answerGuest g) := by
  unfold State.answerGuest
  split
  · exact h
  · exact h.setGuest.give

theorem setDuty (h : Routine s u) {p : Position} {d : Duty} : Routine s (u.setDuty p d) := h.same rfl

theorem keyAnswer (h : Routine s u) {p : Position} : Routine s (u.keyAnswer p) := by
  unfold State.keyAnswer
  split
  · exact h.setDuty.setPhase.modifyCall
  · exact h.setDuty.answerGuest
  all_goals exact h.refuseKey

theorem releaseCall (h : Routine s u) {p : Position} {t : Trunk} : Routine s (u.releaseCall p t) := by
  unfold State.releaseCall
  split
  · exact h
  · exact h.endCall.openWrap.reportAgent

theorem releaseByAgent (h : Routine s u) {g : GuestNo} : Routine s (u.releaseByAgent g) := by
  unfold State.releaseByAgent
  split
  · exact h
  · exact h.give.freeGuest.reportAgent

theorem keyRelease (h : Routine s u) {p : Position} : Routine s (u.keyRelease p) := by
  unfold State.keyRelease
  split
  · exact h.releaseCall
  · exact h.releaseByAgent
  all_goals exact h.refuseKey

theorem keyMoreTime (h : Routine s u) {p : Position} : Routine s (u.keyMoreTime p) := by
  unfold State.keyMoreTime
  split
  · split
    · exact h.same rfl
    · exact h.refuseKey
  all_goals exact h.refuseKey

theorem bounceGuest (h : Routine s u) {g : GuestNo} {c : BounceCause} : Routine s (u.bounceGuest g c) := by
  unfold State.bounceGuest
  split
  · exact h
  · exact h.give.setGuest

theorem giveUp (h : Routine s u) {before : State} {p : Position} {b : Bound} {c : AgentCause} {d : BounceCause} :
    Routine s (u.giveUp before p b c d) := by
  unfold State.giveUp
  cases b
  · exact h.issue.outOfService.reportAgent.returnCall
  · exact h.issue.outOfService.reportAgent.bounceGuest

theorem headsetLoss (h : Routine s u) {before : State} {p : Position} : Routine s (u.headsetLoss before p) := by
  unfold State.headsetLoss
  have k : Routine s (u.setAgent p { u.dsu.agents[p] with headset := .absent }) := h.same rfl
  simp only
  split
  · exact k
  · exact k
  · exact k.toNotReady.reportAgent
  · exact k.outOfService.reportAgent.bounceGuest
  · exact k.giveUp
  · exact k.same rfl
  · exact k.same rfl

theorem ringExpiry (h : Routine s u) {p : Position} : Routine s (u.ringExpiry p) := by
  unfold State.ringExpiry
  split
  · exact h.giveUp
  · exact h

theorem readyAtMin (h : Routine s u) {p : Position} : Routine s (u.readyAtMin p) := by
  unfold State.readyAtMin
  split
  · exact h.endWrap.reportAgent
  · exact h

theorem wrapExpiry (h : Routine s u) {p : Position} : Routine s (u.wrapExpiry p) := by
  unfold State.wrapExpiry
  split
  · exact h.endWrap.reportAgent
  · exact h

/-! ## Playback (Playback.lean) -/

theorem setChannel (h : Routine s u) {c : Channel} {r : ChannelRec} : Routine s (u.setChannel c r) := h.same rfl

theorem loadChannel (h : Routine s u) {c : Channel} {k : Clip} : Routine s (u.loadChannel c k) := h.setChannel

theorem grant (h : Routine s u) : Routine s u.grant := by
  unfold State.grant
  split
  · exact h
  · split
    · exact h
    · simp only
      split
      · exact h
      · exact h.same rfl

theorem storeFault (h : Routine s u) {c : Channel} {k : Clip} {e : StoreFaultCause} :
    Routine s (u.storeFault c k e) :=
  h.setChannel.writeReport

theorem dropEntries (h : Routine s u) {k : Clip} : Routine s (u.dropEntries k) := h.setWaiting

theorem refuseClip (h : Routine s u) {k : Clip} : Routine s (u.refuseClip k) :=
  h.dropEntries.foldl _ fun _ _ k => k.modifyCall

theorem closeGate (h : Routine s u) {c : Channel} {k : Clip} : Routine s (u.closeGate c k) :=
  h.dropEntries.foldl _ fun _ _ k => k.modifyCall

theorem startAnnouncement (h : Routine s u) {c : Channel} {k : Clip} : Routine s (u.startAnnouncement c k) := by
  unfold State.startAnnouncement
  split
  · exact h.loadChannel
  · exact h.storeFault.refuseClip

theorem startCheck (n : Nat) (h : Routine s u) : Routine s (u.startCheck n) := by
  induction n generalizing u with
  | zero => exact h
  | succ n ih =>
    unfold State.startCheck
    split
    · exact ih h.startAnnouncement
    · exact h

theorem returnListener (h : Routine s u) {c : Channel} {t : Trunk} : Routine s (u.returnListener c t) := by
  unfold State.returnListener
  split
  · split
    · exact h.modifyCall
    · exact h
  · exact h

theorem takeUp (h : Routine s u) {c : Channel} {t : Trunk} : Routine s (u.takeUp c t) := by
  unfold State.takeUp
  split
  · exact h
  · split
    case h_1 | h_2 =>
      split
      · split
        · exact h.joinWaiting
        · exact h
      · exact h
    all_goals exact h

theorem channelBoundary (h : Routine s u) {c : Channel} : Routine s (u.channelBoundary c).1 := by
  unfold State.channelBoundary
  simp only
  split
  · split
    · exact h.setChannel
    · split
      · exact h.setChannel
      · exact h.setChannel
  · exact h
  · exact h

theorem boundaryOf (h : Routine s u) {c : Channel} : Routine s (u.boundaryOf c) := by
  unfold State.boundaryOf
  have k : Routine s (u.channelBoundary c).1 := h.channelBoundary
  split
  next e => rwa [e] at k
  next e =>
    rw [e] at k
    exact k.foldl _ fun _ _ k => k.takeUp
  next e =>
    rw [e] at k
    exact k.foldl _ fun _ _ k => k.returnListener

theorem boundaryWork (h : Routine s u) {c : Channel} : Routine s (u.boundaryWork c) := by
  unfold State.boundaryWork
  simp only
  split
  · exact (h.boundaryOf.startCheck 35).grant
  · exact h.boundaryOf.grant

theorem receiveBlock (h : Routine s u) {c : Channel} {x : ClipRun} {a : Audio} : Routine s (u.receiveBlock c x a) := by
  unfold State.receiveBlock
  simp only
  split
  · split
    · exact h.setChannel
    · exact h.setChannel.closeGate
  · exact h.setChannel
  · exact h

theorem fetchDone (h : Routine s u) {b : List Byte} {e : Bool} : Routine s (u.fetchDone b e) := by
  unfold State.fetchDone
  split
  · exact h
  · have k : Routine s (u.setPort none) := h.same rfl
    simp only
    split
    · exact k.grant
    · split
      · exact k.grant
      · split
        · exact k.storeFault.receiveBlock.grant
        · exact k.receiveBlock.grant

/-! ## Scanner reports and filters (Lines.lean) -/

theorem takeLoop (h : Routine s u) {r : LoopState} {t : Trunk} : Routine s (u.takeLoop r t) := by
  unfold State.takeLoop
  simp only
  split <;> exact h.same rfl

theorem takeHeadset (h : Routine s u) {r : HeadsetState} {p : Position} : Routine s (u.takeHeadset r p) := by
  unfold State.takeHeadset
  simp only
  split
  · cases r <;> exact h.same rfl
  · split
    · exact h.same rfl
    · cases r <;> simp only <;> split <;> exact h.same rfl

theorem disconnectExpiry (h : Routine s u) {t : Trunk} : Routine s (u.disconnectExpiry t) :=
  (h.same (v := u.setTrunkSup t _) rfl).callerRelease

theorem headsetExpiry (h : Routine s u) {p : Position} : Routine s (u.headsetExpiry p) :=
  (h.same (v := u.setPositionSup p _) rfl).headsetLoss

theorem endSweep (h : Routine s u) : Routine s u.endSweep :=
  h.trans ⟨fun ⟨ho, _, hl⟩ => ⟨ho, Nat.min_le_right _ _, hl⟩, id, id, fun _ => rfl, rfl⟩

/-! ## Overflow (Overflow.lean) -/

theorem lendCall (h : Routine s u) {t : Trunk} {x : Station} {j : Junctor} : Routine s (u.lendCall t x j) := by
  unfold State.lendCall
  split
  · exact (h.same (v := (u.setSlot _ none).removeCall _ t) rfl).setPhase.removeEntry.modifyCall
  · exact h

theorem takeTake (h : Routine s u) {x : Station} {tag : Tag} {j : Junctor} : Routine s (u.takeTake x tag j) := by
  unfold State.takeTake
  split
  · exact h.lendCall.give
  · exact h.give

theorem modifyPeer (h : Routine s u) {x : Station} {f : PeerData → PeerData} : Routine s (u.modifyPeer x f) := by
  unfold State.modifyPeer
  split
  · exact h.same rfl
  all_goals exact h

theorem takeDecline (h : Routine s u) {x : Station} {tag : Tag} : Routine s (u.takeDecline x tag) := by
  unfold State.takeDecline
  split
  · split
    · exact (h.modifyPeer (x := x)).failOffer
    · exact h
  · exact h

theorem takeAnswered (h : Routine s u) {x : Station} {tag : Tag} : Routine s (u.takeAnswered x tag) := by
  unfold State.takeAnswered
  split
  · split
    · exact h.setPhase
    · exact h.give
  · exact h.give

theorem takeBounce (h : Routine s u) {x : Station} {tag : Tag} : Routine s (u.takeBounce x tag) := by
  unfold State.takeBounce
  split
  · split
    · exact h.returnCall
    · exact h
  · exact h

theorem takeAgentDone (h : Routine s u) {x : Station} {tag : Tag} : Routine s (u.takeAgentDone x tag) := by
  unfold State.takeAgentDone
  split
  · split
    · exact h.endCall
    · exact h
  · exact h

theorem hostOffer (h : Routine s u) {x : Station} {o : OfferData} : Routine s (u.hostOffer x o) := by
  unfold State.hostOffer
  split
  next g p w _ e =>
    have k : Routine s w := h.chooseAgent e
    exact ((k.same (v := w.leaveIdle p) rfl).setDuty).setGuest.give
  · exact h

theorem takeOffer (h : Routine s u) {x : Station} {o : OfferData} : Routine s (u.takeOffer x o) := by
  unfold State.takeOffer
  extract_lets stale w v
  clear_value stale
  have k : Routine s w := by
    unfold w
    split
    · exact h.freeGuest
    · exact h
  have l : Routine s v := by
    unfold v
    split
    · exact k.give
    · exact k.hostOffer
  split
  · exact l.reportAgent
  · exact l

theorem connectGuest (h : Routine s u) {g : GuestNo} : Routine s (u.connectGuest g) := by
  unfold State.connectGuest
  split
  · exact h
  · exact h.setGuest.ringAgent

theorem takeConnect (h : Routine s u) {x : Station} {tag : Tag} {j : Junctor} : Routine s (u.takeConnect x tag j) := by
  unfold State.takeConnect
  split
  · exact h.give
  · exact (h.foldl _ fun _ _ k => k.releaseGuest).connectGuest

theorem takeWithdraw (h : Routine s u) {x : Station} {tag : Tag} : Routine s (u.takeWithdraw x tag) := by
  unfold State.takeWithdraw
  split
  · exact h
  · exact h.releaseGuest

theorem offerExpiry (h : Routine s u) {o : SlotNo} : Routine s (u.offerExpiry o) := by
  unfold State.offerExpiry
  split
  · exact h.failOffer
  · exact h

theorem lentExpiry (h : Routine s u) {t : Trunk} : Routine s (u.lentExpiry t) := by
  unfold State.lentExpiry
  split
  · exact h.give.returnCall
  · exact h

theorem connectExpiry (h : Routine s u) {g : GuestNo} : Routine s (u.connectExpiry g) := by
  unfold State.connectExpiry
  split
  · exact h
  · exact h.give.freeGuest.reportAgent

theorem makeOffer (h : Routine s u) {q : QueueNo} {t : Trunk} {b : CallBody} {o : SlotNo} {j : Junctor} {x : Station} :
    Routine s (u.makeOffer q t b o j x) := by
  unfold State.makeOffer
  have k : Routine s (((u.setSlot o (some ⟨t, q, deadline u.now u.items.offerLimit⟩)).setFreeOrder
      u.sps.freeOrder.tail).setJunctor j (.bound t)) := h.same rfl
  exact k.setPhase.give.modifyPeer

theorem scanQueue (h : Routine s u) {q : QueueNo} : Routine s (u.scanQueue q) := by
  unfold State.scanQueue
  split
  · exact h
  · split
    · exact h
    · split
      · split
        · exact h.makeOffer
        · exact h
      · exact h

theorem offerScan (h : Routine s u) : Routine s u.offerScan := h.foldl _ fun _ _ k => k.scanQueue

/-! ## Peers (Peers.lean) -/

theorem takeNotice (h : Routine s u) {x : Station} {n : Notice} : Routine s (u.takeNotice x n) := by
  unfold State.takeNotice
  extract_lets was restart w v
  clear_value was
  have k : Routine s w := by
    have lost : Routine s (if restart then u.losePeer u x else u) := by
      split
      · exact h.losePeer
      · exact h
    exact lost.same rfl
  have l : Routine s v := by
    unfold v
    split
    · exact k.writeReport
    · split
      · exact k
      · exact k.writeReport
      · exact k.writeReport
  exact l.foldl _ fun _ _ k => k.releaseGuest

theorem presenceExpiry (h : Routine s u) {x : Station} : Routine s (u.presenceExpiry x) := by
  unfold State.presenceExpiry
  split
  · exact (h.losePeer.same (v := (u.losePeer u x).setPeer x _) rfl).writeReport
  · exact h
  · exact h

theorem periodExpiry (h : Routine s u) : Routine s u.periodExpiry := h.requestNotice.same rfl

/-! ## The link (Link.lean) -/

theorem dropTried (h : Routine s u) : Routine s u.dropTried :=
  h.setPlc (fun ⟨hq, hc⟩ => ⟨(List.eraseP_sublist.countP_le).trans hq, hc⟩) rfl

theorem tellDropped (h : Routine s u) {e : TxEntry} : Routine s (u.tellDropped e) := by
  unfold State.tellDropped
  split
  · exact h.requestNotice
  · unfold State.failDropped
    split
    · split
      · exact h.failOffer
      · exact h
    · exact h

theorem deliver (h : Routine s u) {x : Station} {p : Payload} : Routine s (u.deliver x p) := by
  unfold State.deliver
  split
  · exact h.takeNotice
  · exact h.takeOffer
  · exact h.takeTake
  · exact h.takeDecline
  · exact h.takeConnect
  · exact h.takeAnswered
  · exact h.takeBounce
  · exact h.takeAgentDone
  all_goals exact h.takeWithdraw

theorem busSeen (h : Routine s u) {b : BusSign} : Routine s (u.busSeen b) := by
  cases b <;> exact h.setPlc id rfl

/-! ## The clock (Clock.lean) -/

theorem becomeDue (h : Routine s u) {t : Trunk} : Routine s (u.becomeDue t) := h.modifyCall

theorem endHoldoffs (h : Routine s u) : Routine s u.endHoldoffs := by
  have k : Routine s ((u.sps.holdoffOrder.filter u.holdoffReached).foldl (fun v j => v.setJunctor j .free) u) :=
    h.foldl _ fun _ _ k => k.same rfl
  exact k.same rfl

theorem completeDivision (h : Routine s u) : Routine s u.completeDivision := h.same (by simp [view])

theorem countPulses (h : Routine s u) (n : Nat) : Routine s (u.countPulses n) := h.same (by simp [view])

theorem advance (h : Routine s u) : Routine s u.advance := h.same (by simp [view])

/-- Whatever deadline the tick takes, the work is routine. -/
theorem tickWork {e : TickEvent} {f : State → State} (h : u.tickWork e = some f) : Routine u (f u) := by
  have r := refl u
  cases e <;> simp only [State.tickWork, Option.map_eq_some_iff, Option.ite_none_right_eq_some, Option.some.injEq] at h
  case presence => obtain ⟨x, -, rfl⟩ := h; exact r.presenceExpiry
  case offer => obtain ⟨o, -, rfl⟩ := h; exact r.offerExpiry
  case lent => obtain ⟨t, -, rfl⟩ := h; exact r.lentExpiry
  case connect => obtain ⟨g, -, rfl⟩ := h; exact r.connectExpiry
  all_goals obtain ⟨-, rfl⟩ := h
  case disconnectFilter => exact r.disconnectExpiry
  case headsetFilter => exact r.headsetExpiry
  case sweepEnd => exact r.endSweep
  case ring => exact r.ringExpiry
  case readyAtMin => exact r.readyAtMin
  case wrapExpiry => exact r.wrapExpiry
  case nextDue => exact r.becomeDue
  case holdoffEnd => exact r.endHoldoffs
  case availPeriod => exact r.periodExpiry
  case spacingEnd => exact r
  case division => exact r.completeDivision

theorem tickEvent (h : Routine s u) {e : TickEvent} : Routine s (u.tickEvent e) := by
  unfold State.tickEvent
  split
  next e => exact h.event (tickWork e)
  · exact h

theorem tickEvents (h : Routine s u) (l : List TickEvent) : Routine s (u.tickEvents l) :=
  h.foldl l fun _ _ k => k.tickEvent

theorem tick (h : Routine s u) (plan : TickPlan) : Routine s (u.tick plan) := by
  unfold State.tick
  extract_lets ready worked
  have hr : Routine s ready := (h.tickEvents defaultTick).tickEvents _
  have hw : Routine s worked := (hr.advance.tickEvents plan.first).tickEvents (restOfTick plan)
  exact (hw.event (refl worked).offerScan).tickEvent

theorem takeBoundary (h : Routine s u) {c : Channel} : Routine s (u.takeBoundary c) := by
  unfold State.takeBoundary
  split
  · exact h.event (refl _).boundaryWork
  · exact h
  · exact h

theorem blockBoundary (h : Routine s u) (order : List Channel) : Routine s (u.blockBoundary order) := by
  unfold State.blockBoundary
  extract_lets w
  have k : Routine s w := h.countPulses _
  have l : Routine s (w.setBoundariesDue (w.pbc.boundariesDue - 1)) := k.same rfl
  exact l.foldl _ fun _ _ k => k.takeBoundary

end Sys2Proof.Machine.Routine
end

section
/-! PROOF. Every step keeps the queues within their sizes and the counts within their limits (SizesAreKept). -/

namespace Sys2Proof.Machine

namespace Routine

variable {s u : State}

/-! ## The maintenance port (Port.lean) -/

theorem respond (h : Routine s u) {c : StatusCode} {d : List Byte} : Routine s (u.respond c d) := h.same rfl

theorem commandSet (h : Routine s u) {d : List Byte} : Routine s (u.commandSet d) := by
  unfold State.commandSet
  split
  · split
    · exact h.respond
    · split
      · exact h.respond
      · split
        · exact h.respond
        · split
          · exact h.respond
          next m _ => exact (h.same (v := u.setImage m) rfl).respond
  · exact h.respond

theorem startLines (h : Routine s u) : Routine s u.startLines := by
  unfold State.startLines
  extract_lets _ w
  have k : Routine s w := by
    refine h.trans ⟨fun ⟨ho, hs, hl⟩ => ⟨?_, hs, hl⟩, id, id, fun _ => rfl, rfl⟩
    exact (List.length_take_le' _ _).trans ho
  exact k.foldl _ fun _ _ k => k.issue

theorem startEstimates (h : Routine s u) : Routine s u.startEstimates := h.foldl _ fun _ _ k => k.same rfl

theorem startMusic (h : Routine s u) : Routine s u.startMusic := (h.foldl _ fun _ _ k => k.loadChannel).grant

theorem startReceiving (h : Routine s u) : Routine s u.startReceiving := h.setPlc id rfl

theorem startNotices (h : Routine s u) : Routine s u.startNotices := h.requestNotice.same rfl

theorem enterRun (h : Routine s u) : Routine s u.enterRun := by
  have k : Routine s ((((u.setMode .run).setClk ⟨0, 0, 0⟩).setBlockFrame 0).setBoundariesDue 0) := h.same rfl
  exact k.startLines.startEstimates.startReceiving.startMusic.startNotices

theorem commandStart (h : Routine s u) {d : List Byte} : Routine s (u.commandStart d) := by
  unfold State.commandStart
  split
  · exact h.respond
  · split
    · exact h.respond
    · split
      · exact h.respond
      · exact (h.event (refl u).enterRun).respond

theorem setPointer (h : Routine s u) {p : TablePointer} : Routine s (u.setPointer p) := h.same rfl

theorem commandSelect (h : Routine s u) {d : List Byte} : Routine s (u.commandSelect d) := by
  unfold State.commandSelect
  split
  · split
    · exact h.respond
    · split
      · exact h.setPointer.respond
      · exact h.respond
  · exact h.respond

theorem commandReadNext (h : Routine s u) {d : List Byte} : Routine s (u.commandReadNext d) := by
  unfold State.commandReadNext
  split
  · exact h.respond
  · exact h.setPointer.respond

theorem commandReportNext (h : Routine s u) {d : List Byte} : Routine s (u.commandReportNext d) := by
  unfold State.commandReportNext
  split
  · exact h.respond
  · split
    · exact h.respond
    next r rest e =>
      have k : Routine s (u.setFifo rest) := by
        refine h.trans ⟨id, id, fun ⟨hf, hl⟩ => ⟨?_, hl⟩, fun _ => rfl, rfl⟩
        rw [e] at hf
        exact (Nat.le_succ _).trans hf
      exact k.refresh.respond

theorem commandStatus (h : Routine s u) {d : List Byte} : Routine s (u.commandStatus d) := by
  unfold State.commandStatus
  split
  · exact h.respond
  · have k : Routine s (u.setLostReports 0) :=
      h.trans ⟨id, id, fun ⟨hf, _⟩ => ⟨hf, Nat.zero_le _⟩, fun _ => rfl, rfl⟩
    exact k.respond

end Routine

/-! ## What is not routine: the reset, an admitted seizure, the end of a frame or an attempt -/

section Sizes

variable {s : State}

theorem event_within {f : State → State} (h : (f s).withinSizes = true) : (s.event f).withinSizes = true :=
  (Routine.refl _).close.within h

theorem setPlc_within (h : s.withinSizes = true) {c : Plc} (hc : s.plc.Fits → c.Fits) : (s.setPlc c).withinSizes = true := by
  rw [withinSizes_iff] at h ⊢
  exact ⟨h.1, hc h.2.1, h.2.2⟩

theorem resetTo_within {m : Image} {x : Station} {o : List Order} (h : o.length ≤ 64) :
    (s.resetTo m x o).withinSizes = true := by
  simp [withinSizes_iff, State.resetTo, State.reset, Lsi.Fits, Plc.Fits, Mpi.Fits, Plc.frames, h, Lsi.reset, Plc.reset,
    Mpi.reset]

theorem restart_within : s.restart.withinSizes = true :=
  resetTo_within ((List.length_take_le _ _).trans (by decide))

theorem command_within (h : s.withinSizes = true) (c : Command) (d : List Byte) : (s.command c d).withinSizes = true := by
  have r := Routine.refl s
  cases c
  case set => exact r.commandSet.within h
  case start => exact r.commandStart.within h
  case restart =>
    change (s.commandRestart d).withinSizes = true
    unfold State.commandRestart
    split
    · exact (Routine.refl _).respond.within restart_within
    · exact r.respond.within h
  case select => exact r.commandSelect.within h
  case readNext => exact r.commandReadNext.within h
  case reportNext => exact r.commandReportNext.within h
  case status => exact r.commandStatus.within h

theorem transact_within (h : s.withinSizes = true) (b : List Byte) : (s.transact b).withinSizes = true := by
  have r := Routine.refl s
  unfold State.transact
  split
  · exact h
  · split
    · exact h
    · split
      · exact h
      · split
        · exact h
        · exact command_within h _ _

theorem admitSeize_within (h : s.withinSizes = true) (t : Trunk) (e : ServiceEntry) : (s.admitSeize t e).withinSizes = true := by
  unfold State.admitSeize
  extract_lets body u
  have hu : u.withinSizes = true := h
  have r := Routine.refl u
  split
  · exact r.matchCall.within hu
  · exact (r.joinWaiting.matchCall.startCheck 35).grant.within hu

theorem takeCharRun_within (h : s.withinSizes = true) (c : ScanChar) : (s.takeCharRun c).withinSizes = true := by
  have r := Routine.refl s
  unfold State.takeCharRun
  split
  · unfold State.takeSeize
    split
    · exact r.scanError.within h
    · simp only
      split
      · exact r.issue.within h
      · split
        · exact r.issue.writeReport.within h
        · exact admitSeize_within h _ _
  · exact r.takeLoop.within h
  · exact r.takeHeadset.within h
  · exact r.keySignOn.within h
  · exact r.keyReady.within h
  · exact r.keyNotReady.within h
  · exact r.keySignOff.within h
  · exact r.keyAnswer.within h
  · exact r.keyRelease.within h
  · exact r.keyMoreTime.within h

theorem takeScan_within (h : s.withinSizes = true) (c : ScanResult) : (s.takeScan c).withinSizes = true := by
  have r := Routine.refl s
  unfold State.takeScan
  split
  · exact h
  · split
    · exact r.scanError.within h
    · exact h
  · split
    · exact event_within (takeCharRun_within h _)
    · unfold State.takeCharConfig
      split
      · exact r.issue.within h
      · exact r.issue.within h
      · exact h
      · exact h

theorem scanReceiveAll_within (h : s.withinSizes = true) (b : List Byte) : (s.scanReceiveAll b).withinSizes = true :=
  List.foldlRecOn (motive := (·.withinSizes = true)) b State.scanReceive h fun v hv c _ =>
    takeScan_within (s := v.setScanOpen (scanByte v.lsi.scanOpen c).1) hv _

theorem takeRx_within (h : s.withinSizes = true) (r : RxResult) : (s.takeRx r).withinSizes = true := by
  unfold State.takeRx
  split
  · exact h
  · exact h
  · exact setPlc_within h fun ⟨hq, hc, _, hr⟩ => ⟨hq, hc, satUp_le 65535 _, hr⟩
  · exact setPlc_within h fun ⟨hq, _, hr⟩ => ⟨hq, satUp_le 65535 _, hr⟩
  · exact setPlc_within h fun ⟨hq, hc, hl, _, hr⟩ => ⟨hq, hc, hl, satUp_le 65535 _, hr⟩
  · exact (Routine.refl s).deliver.within h

theorem frameReceived_within (h : s.withinSizes = true) (c : List Byte) (d e : Bool) :
    (s.frameReceived c d e).withinSizes = true := by
  have ends : (s.frameEnds e).withinSizes = true := setPlc_within h id
  unfold State.frameReceived
  split
  · refine event_within ?_
    simp only
    split
    · exact ends
    · exact takeRx_within ends _
  · exact ends

theorem attemptLost_within (h : s.withinSizes = true) : s.attemptLost.withinSizes = true := by
  unfold State.attemptLost
  extract_lets _ u
  have hu : u.withinSizes = true := setPlc_within h id
  split
  · exact hu
  next e _ =>
    extract_lets v w
    have hv : v.withinSizes = true := by
      unfold v
      split
      · exact hu
      · exact setPlc_within hu id
    split
    · exact hv
    · have hw : w.withinSizes = true := (Routine.refl v).dropTried.within hv
      exact (Routine.refl _).tellDropped.within
        (setPlc_within hw fun ⟨hq, hc, hl, hi, _, ht⟩ => ⟨hq, hc, hl, hi, satUp_le 65535 _, ht⟩)

theorem attemptDone_within (h : s.withinSizes = true) (c : List Byte) : (s.attemptDone c).withinSizes = true := by
  unfold State.attemptDone
  extract_lets u _ v _ w
  have hv : v.withinSizes = true := setPlc_within ((Routine.refl s).dropTried.within h) id
  split
  · exact hv
  · split
    · exact hv
    · have hw : w.withinSizes = true := setPlc_within hv id
      split
      · exact (Routine.refl w).requestNotice.within hw
      · exact hw

end Sizes

/-! ## The rows of the deadlines -/

/-- A row of a deadline does what the tick does at that deadline (log entries 3 and 34); the end of the sweep is a row of RUN
alone. -/
theorem exec_rowOf (s : State) (e : TickEvent) (h : s.running = true ∨ e ≠ .sweepEnd) :
    exec (Claims.rowOf e) s = .next (s.tickEvent e) := by
  unfold State.tickEvent State.tickWork
  cases e
  case presence | offer | lent | connect =>
    simp only [Claims.rowOf, exec, execPresenceTimeout, execOfferDeadline, execLentDeadline, execConnectDeadline]
    split <;> simp_all
  case sweepEnd =>
    have run : s.running = true := h.resolve_right (by simp)
    simp only [Claims.rowOf, exec, execStartSweepEnd, run, Bool.true_and]
    split <;> rfl
  all_goals
    change Host.Outcome.next (ite _ _ _) = _
    dsimp only
    split <;> rfl

theorem nextOf_rowOf (s : State) (e : TickEvent) (h : s.running = true ∨ e ≠ .sweepEnd) :
    nextOf (Claims.rowOf e) s = s.tickEvent e := by
  unfold nextOf
  rw [exec_rowOf s e h]

/-- A row of a deadline is routine work. -/
theorem nextOf_rowOf_routine (s : State) (e : TickEvent) : Routine s (nextOf (Claims.rowOf e) s) := by
  by_cases h : s.running = true ∨ e ≠ .sweepEnd
  · rw [nextOf_rowOf s e h]
    exact (Routine.refl s).tickEvent
  · obtain ⟨hr, rfl⟩ := not_or.1 h |>.imp_right not_not.1
    have idle : nextOf (Claims.rowOf .sweepEnd) s = s := by
      simp [nextOf, Claims.rowOf, exec, execStartSweepEnd, hr]
    rw [idle]
    exact Routine.refl s

/-! ## Every command -/

theorem ite_within {s t : State} {b : Prop} [Decidable b] (h : s.withinSizes = true) (ht : t.withinSizes = true) :
    (if b then t else s).withinSizes = true := by
  split
  · exact ht
  · exact h

theorem nextOf_within {s : State} (h : s.withinSizes = true) (c : Instr) : (nextOf c s).withinSizes = true := by
  have r := Routine.refl s
  cases c
  case resetPin straps => exact resetTo_within (Nat.zero_le _)
  case tick plan => exact ite_within h ((r.tick plan).within h)
  case blockBoundary order => exact ite_within h ((r.blockBoundary order).within h)
  case seize | loop | headset | scanByteUndecodable | signOnKey | readyKey | notReadyKey | signOffKey | answerKey |
      releaseKey | moreTimeKey => exact scanReceiveAll_within h _
  case orderSent =>
    have k : Routine s (s.setOrders s.lsi.orders.tail) := by
      refine r.trans ⟨fun ⟨ho, hs, hl⟩ => ⟨?_, hs, hl⟩, id, id, fun _ => rfl, rfl⟩
      exact (List.tail_sublist _).length_le.trans ho
    exact k.within h
  case disconnectFilterExpiry t => exact (nextOf_rowOf_routine s (.disconnectFilter t)).within h
  case headsetFilterExpiry p => exact (nextOf_rowOf_routine s (.headsetFilter p)).within h
  case startSweepEnd => exact (nextOf_rowOf_routine s .sweepEnd).within h
  case ringDeadline p => exact (nextOf_rowOf_routine s (.ring p)).within h
  case wrapExpiry p => exact (nextOf_rowOf_routine s (.wrapExpiry p)).within h
  case readyAtMin p => exact (nextOf_rowOf_routine s (.readyAtMin p)).within h
  case nextDueReached t => exact (nextOf_rowOf_routine s (.nextDue t)).within h
  case junctorHoldoffEnd => exact (nextOf_rowOf_routine s .holdoffEnd).within h
  case offerDeadline => exact (nextOf_rowOf_routine s .offer).within h
  case lentDeadline => exact (nextOf_rowOf_routine s .lent).within h
  case connectDeadline => exact (nextOf_rowOf_routine s .connect).within h
  case availPeriodExpiry => exact (nextOf_rowOf_routine s .availPeriod).within h
  case presenceTimeout => exact (nextOf_rowOf_routine s .presence).within h
  case availSpacingEnd => exact (nextOf_rowOf_routine s .spacingEnd).within h
  case divisionComplete => exact (nextOf_rowOf_routine s .division).within h
  case fetchComplete samples fault => exact ite_within h (event_within (r.fetchDone.within h))
  case attemptBegin sign =>
    have seen : (s.busSeen sign).withinSizes = true := r.busSeen.within h
    exact ite_within (ite_within seen (event_within seen)) h
  case attemptLost => exact ite_within h (event_within (attemptLost_within h))
  case attemptComplete =>
    simp only [nextOf, exec, execAttemptComplete]
    split
    next heq =>
      split at heq <;> cases heq
      · exact event_within (attemptDone_within h _)
      · exact h
    all_goals exact h
  case avail | offer | take | decline | connect | answered | bounce | releaseAgentDone | releaseCallerGone |
      releaseTooLate | withdraw | lengthErrorFrame => exact frameReceived_within h _ _ _
  case set d => exact command_within h .set d
  case start d => exact command_within h .start d
  case restart d => exact command_within h .restart d
  case select d => exact command_within h .select d
  case readNext d => exact command_within h .readNext d
  case reportNext d => exact command_within h .reportNext d
  case status d => exact command_within h .status d
  case transactionAbandoned b => exact transact_within h b
  case unknownCommandCode b => exact transact_within h b

/-- A step takes the command in front, if one waits. -/
theorem step_eq (s : State) :
    step s = .next (match s.pending with | [] => s | c :: rest => nextOf c { s with pending := rest }) := by
  unfold step
  cases s.pending with
  | nil => rfl
  | cons c rest => exact exec_next c _

end Sys2Proof.Machine

namespace Sys2Proof.Proofs

open Machine

/-- Settles O6: the sizes do not speak of the commands that wait, and no command breaks them. -/
theorem sizesAreKept : Obligations.SizesAreKept := by
  intro s u h e
  rw [step_eq] at e
  cases e
  cases s.pending with
  | nil => exact h
  | cons c rest => exact nextOf_within (s := { s with pending := rest }) h c

end Sys2Proof.Proofs
end

section
/-! PROOF. Every step keeps CONFIG quiet (ConfigStaysQuiet): the state of a quiet CONFIG is written out, and each command
leaves it so or enters RUN; in RUN no command but a reset leaves RUN. -/

namespace Sys2Proof.Machine

/-- What a quiet CONFIG does not fix. -/
structure Rest where
  orders : List Order
  scanOpen : List Byte
  busIdle : Nat
  onBus : BusFrame
  station : Station
  image : Image
  pointer : TablePointer
  response : Option (List Byte)
  pending : List Instr

/-- A quiet CONFIG with the rest as given. -/
def Rest.state (r : Rest) : State :=
  { State.reset with
    lsi := { Lsi.reset with orders := r.orders, scanOpen := r.scanOpen }
    plc := { Plc.reset with busIdle := r.busIdle, onBus := r.onBus }
    mpi := { Mpi.reset with station := r.station, image := r.image, pointer := r.pointer, response := r.response }
    pending := r.pending }

theorem configQuiet_iff (s : State) : s.configQuiet = true ↔ s.running = true ∨ ∃ r : Rest, s = r.state := by
  simp only [State.configQuiet, Bool.or_eq_true, beq_iff_eq]
  refine or_congr Iff.rfl ⟨fun h => ⟨⟨s.lsi.orders, s.lsi.scanOpen, s.plc.busIdle, s.plc.onBus, s.mpi.station, s.mpi.image,
    s.mpi.pointer, s.mpi.response, s.pending⟩, h⟩, ?_⟩
  rintro ⟨r, rfl⟩
  rfl

theorem quiet_of_running {s : State} (h : s.running = true) : s.configQuiet = true := by
  simp [State.configQuiet, h]

theorem Rest.quiet (r : Rest) : r.state.configQuiet = true := (configQuiet_iff _).2 (.inr ⟨r, rfl⟩)

/-! ## RUN -/

/-- A command whose mode stays. -/
theorem quiet_of_mode {s t : State} (h : s.running = true) (hm : t.mpi.mode = s.mpi.mode) : t.configQuiet = true :=
  quiet_of_running (by rw [State.running, hm]; exact h)

theorem resetTo_quiet (s : State) (m : Image) (x : Station) (o : List Order) : (s.resetTo m x o).configQuiet = true :=
  Rest.quiet ⟨o, [], s.plc.busIdle, s.plc.onBus, x, m, ⟨0, 0⟩, none, s.pending⟩

/-! ## Commands of the maintenance port, in either mode -/

theorem respond_quiet {s : State} (h : s.configQuiet = true) (c : StatusCode) (d : List Byte) :
    (s.respond c d).configQuiet = true := by
  rw [configQuiet_iff] at h ⊢
  refine h.imp id ?_
  rintro ⟨r, rfl⟩
  exact ⟨{ r with response := some (c.byte :: d) }, rfl⟩

theorem setPointer_quiet {s : State} (h : s.configQuiet = true) (p : TablePointer) : (s.setPointer p).configQuiet = true := by
  rw [configQuiet_iff] at h ⊢
  refine h.imp id ?_
  rintro ⟨r, rfl⟩
  exact ⟨{ r with pointer := p }, rfl⟩

theorem setImage_quiet {s : State} (h : s.configQuiet = true) (m : Image) : (s.setImage m).configQuiet = true := by
  rw [configQuiet_iff] at h ⊢
  refine h.imp id ?_
  rintro ⟨r, rfl⟩
  exact ⟨{ r with image := m }, rfl⟩

theorem setLostReports_quiet {s : State} (h : s.configQuiet = true) : (s.setLostReports 0).configQuiet = true := by
  rw [configQuiet_iff] at h ⊢
  refine h.imp id ?_
  rintro ⟨r, rfl⟩
  exact ⟨r, rfl⟩

theorem setResponse_quiet {s : State} (h : s.configQuiet = true) : (s.setResponse none).configQuiet = true := by
  rw [configQuiet_iff] at h ⊢
  refine h.imp id ?_
  rintro ⟨r, rfl⟩
  exact ⟨{ r with response := none }, rfl⟩

theorem foldl_mode {α : Type} (f : State → α → State) (hf : ∀ v a, (f v a).mpi.mode = v.mpi.mode) (l : List α) (v : State) :
    (l.foldl f v).mpi.mode = v.mpi.mode := by
  induction l generalizing v with
  | nil => rfl
  | cons a l ih => rw [List.foldl_cons, ih, hf]

theorem enterRun_running (s : State) : s.enterRun.running = true := by
  have lines (v : State) : v.startLines.mpi.mode = v.mpi.mode := by
    unfold State.startLines
    extract_lets _ u
    exact foldl_mode _ (by simp) _ u
  have estimates (v : State) : v.startEstimates.mpi.mode = v.mpi.mode := by
    unfold State.startEstimates
    exact foldl_mode _ (by simp) _ _
  have music (v : State) : v.startMusic.mpi.mode = v.mpi.mode := by
    unfold State.startMusic
    have loaded := foldl_mode (fun (u : State) (m : Programme) => u.loadChannel (musicChannel m) v.mpi.image.music[m].clip)
      (by simp) (List.finRange 4) v
    rw [← loaded]
    simp only [State.grant_keeps]
  simp [State.running, State.enterRun, State.startNotices, State.startReceiving, music, estimates, lines]

theorem command_quiet {s : State} (h : s.configQuiet = true) (c : Command) (d : List Byte) :
    (s.command c d).configQuiet = true := by
  cases c
  case set =>
    change (s.commandSet d).configQuiet = true
    unfold State.commandSet
    split
    · split
      · exact respond_quiet h _ _
      · split
        · exact respond_quiet h _ _
        · split
          · exact respond_quiet h _ _
          · split
            · exact respond_quiet h _ _
            · exact respond_quiet (setImage_quiet h _) _ _
    · exact respond_quiet h _ _
  case start =>
    change (s.commandStart d).configQuiet = true
    unfold State.commandStart
    split
    · exact respond_quiet h _ _
    · split
      · exact respond_quiet h _ _
      · split
        · exact respond_quiet h _ _
        · exact respond_quiet (quiet_of_mode (enterRun_running s) (by simp [State.event])) _ _
  case restart =>
    change (s.commandRestart d).configQuiet = true
    unfold State.commandRestart
    split
    · exact respond_quiet (resetTo_quiet s _ _ _) _ _
    · exact respond_quiet h _ _
  case select =>
    change (s.commandSelect d).configQuiet = true
    unfold State.commandSelect
    split
    · split
      · exact respond_quiet h _ _
      · split
        · exact respond_quiet (setPointer_quiet h _) _ _
        · exact respond_quiet h _ _
    · exact respond_quiet h _ _
  case readNext =>
    change (s.commandReadNext d).configQuiet = true
    unfold State.commandReadNext
    split
    · exact respond_quiet h _ _
    · exact respond_quiet (setPointer_quiet h _) _ _
  case reportNext =>
    change (s.commandReportNext d).configQuiet = true
    unfold State.commandReportNext
    split
    · exact respond_quiet h _ _
    · split
      · exact respond_quiet h _ _
      next e =>
        rcases (configQuiet_iff s).1 h with run | ⟨r, rfl⟩
        · exact respond_quiet (quiet_of_mode run (by simp)) _ _
        · exact absurd e (by simp [Rest.state, Mpi.reset])
  case status =>
    change (s.commandStatus d).configQuiet = true
    unfold State.commandStatus
    split
    · exact respond_quiet h _ _
    · exact respond_quiet (setLostReports_quiet h) _ _

theorem transact_quiet {s : State} (h : s.configQuiet = true) (b : List Byte) : (s.transact b).configQuiet = true := by
  unfold State.transact
  split
  · exact setResponse_quiet h
  · split
    · exact setResponse_quiet h
    · split
      · exact respond_quiet h _ _
      · split
        · exact respond_quiet h _ _
        · exact command_quiet h _ _

/-! ## CONFIG -/

/-- In a quiet CONFIG no deadline is reached. -/
theorem Rest.tickWork_none (r : Rest) (e : TickEvent) : r.state.tickWork e = none ∨ e = .sweepEnd := by
  cases e
  case sweepEnd => exact .inr rfl
  all_goals refine .inl ?_
  case presence | offer | lent | connect =>
    simp [State.tickWork, State.presenceDue, State.presenceReached, State.offerDue, State.offerReached, State.lentDue,
      State.lentReached, State.connectDue, State.connectReached, State.call, Rest.state, Pvt.reset, Ofu.reset, Cqm.reset,
      State.reset]
  all_goals
    simp [State.tickWork, State.disconnectReached, State.headsetReached, State.ringReached, State.readyAtMinReached,
      State.wrapExpiryReached, State.dueReached, State.holdoffDue, State.periodReached, State.spacingEnded, State.duty,
      State.call, Rest.state, Lsi.reset, Dsu.reset, Cqm.reset, Sps.reset, Pvt.reset, Plc.reset, Est.reset, State.reset]

theorem Rest.nextOf_rowOf (r : Rest) (e : TickEvent) : nextOf (Claims.rowOf e) r.state = r.state := by
  rcases r.tickWork_none e with h | rfl
  · by_cases sweep : e = .sweepEnd
    · subst sweep; rfl
    · rw [Machine.nextOf_rowOf _ _ (.inr sweep), State.tickEvent, h]
  · rfl

theorem Rest.takeScan_quiet (r : Rest) (x : ScanResult) : (r.state.takeScan x).configQuiet = true := by
  have issued (o : Order) : (r.state.issue o).configQuiet = true := by
    unfold State.issue
    split
    · exact Rest.quiet { r with orders := r.orders ++ [o] }
    · exact r.quiet
  cases x
  case more => exact r.quiet
  case undecodable => exact r.quiet
  case char c =>
    cases c
    · exact issued _
    · exact r.quiet
    · exact r.quiet
    · exact issued _

theorem scanReceive_quiet {s : State} (h : s.configQuiet = true) (b : Byte) : (s.scanReceive b).configQuiet = true := by
  rcases (configQuiet_iff s).1 h with run | ⟨r, rfl⟩
  · exact quiet_of_mode run (by simp)
  · exact Rest.takeScan_quiet { r with scanOpen := (scanByte r.scanOpen b).1 } _

theorem scanReceiveAll_quiet {s : State} (h : s.configQuiet = true) (l : List Byte) :
    (s.scanReceiveAll l).configQuiet = true :=
  List.foldlRecOn (motive := (·.configQuiet = true)) l State.scanReceive h fun _ hv b _ => scanReceive_quiet hv b

theorem frameReceived_quiet {s : State} (h : s.configQuiet = true) (c : List Byte) (d e : Bool) :
    (s.frameReceived c d e).configQuiet = true := by
  rcases (configQuiet_iff s).1 h with run | ⟨r, rfl⟩
  · exact quiet_of_mode run (by simp)
  · exact Rest.quiet { r with busIdle := if e || false then 0 else 1, onBus := if e || false then .begun else .none }

theorem ite_quiet {s t : State} {b : Prop} [Decidable b] (h : s.configQuiet = true) (ht : b → t.configQuiet = true) :
    (if b then t else s).configQuiet = true := by
  split
  next hb => exact ht hb
  next => exact h

/-- A row of a deadline keeps CONFIG quiet. -/
theorem nextOf_rowOf_quiet {s : State} (h : s.configQuiet = true) (e : TickEvent) :
    (nextOf (Claims.rowOf e) s).configQuiet = true := by
  rcases (configQuiet_iff s).1 h with run | ⟨r, rfl⟩
  · rw [nextOf_rowOf s e (.inl run)]
    exact quiet_of_mode run (by simp)
  · rw [r.nextOf_rowOf]
    exact h

theorem nextOf_quiet {s : State} (h : s.configQuiet = true) (c : Instr) : (nextOf c s).configQuiet = true := by
  cases c
  case resetPin straps => exact resetTo_quiet s _ _ _
  case tick plan => exact ite_quiet h fun run => quiet_of_mode run (by simp)
  case blockBoundary order => exact ite_quiet h fun run => quiet_of_mode run (by simp)
  case seize | loop | headset | scanByteUndecodable | signOnKey | readyKey | notReadyKey | signOffKey | answerKey |
      releaseKey | moreTimeKey => exact scanReceiveAll_quiet h _
  case orderSent =>
    change (s.setOrders s.lsi.orders.tail).configQuiet = true
    rw [configQuiet_iff] at h ⊢
    refine h.imp id ?_
    rintro ⟨r, rfl⟩
    exact ⟨{ r with orders := r.orders.tail }, rfl⟩
  case disconnectFilterExpiry t => exact nextOf_rowOf_quiet h (.disconnectFilter t)
  case headsetFilterExpiry p => exact nextOf_rowOf_quiet h (.headsetFilter p)
  case startSweepEnd => exact nextOf_rowOf_quiet h .sweepEnd
  case ringDeadline p => exact nextOf_rowOf_quiet h (.ring p)
  case wrapExpiry p => exact nextOf_rowOf_quiet h (.wrapExpiry p)
  case readyAtMin p => exact nextOf_rowOf_quiet h (.readyAtMin p)
  case nextDueReached t => exact nextOf_rowOf_quiet h (.nextDue t)
  case junctorHoldoffEnd => exact nextOf_rowOf_quiet h .holdoffEnd
  case offerDeadline => exact nextOf_rowOf_quiet h .offer
  case lentDeadline => exact nextOf_rowOf_quiet h .lent
  case connectDeadline => exact nextOf_rowOf_quiet h .connect
  case availPeriodExpiry => exact nextOf_rowOf_quiet h .availPeriod
  case presenceTimeout => exact nextOf_rowOf_quiet h .presence
  case availSpacingEnd => exact nextOf_rowOf_quiet h .spacingEnd
  case divisionComplete => exact nextOf_rowOf_quiet h .division
  case fetchComplete samples fault =>
    refine ite_quiet h fun port => ?_
    rcases (configQuiet_iff s).1 h with run | ⟨r, rfl⟩
    · exact quiet_of_mode run (by simp [State.event])
    · exact absurd port Bool.false_ne_true
  case attemptBegin sign =>
    rcases (configQuiet_iff s).1 h with run | ⟨r, rfl⟩
    · refine quiet_of_mode run ?_
      simp only [nextOf, exec, execAttemptBegin]
      split
      · rfl
      · simp [State.event]
    · cases sign with
      | idle n => exact Rest.quiet { r with busIdle := n, onBus := if 2 ≤ n then .none else r.onBus }
      | startBit marked => exact Rest.quiet { r with busIdle := 0, onBus := if marked then .begun else r.onBus }
  case attemptLost =>
    refine ite_quiet h fun attempt => ?_
    rcases (configQuiet_iff s).1 h with run | ⟨r, rfl⟩
    · exact quiet_of_mode run (by simp [State.event])
    · exact absurd attempt Bool.false_ne_true
  case attemptComplete =>
    rcases (configQuiet_iff s).1 h with run | ⟨r, rfl⟩
    · refine quiet_of_mode run ?_
      cases attempt : s.plc.attempt <;> simp [nextOf, exec, execAttemptComplete, attempt, State.event]
    · exact r.quiet
  case avail | offer | take | decline | connect | answered | bounce | releaseAgentDone | releaseCallerGone |
      releaseTooLate | withdraw | lengthErrorFrame => exact frameReceived_quiet h _ _ _
  case set d => exact command_quiet h .set d
  case start d => exact command_quiet h .start d
  case restart d => exact command_quiet h .restart d
  case select d => exact command_quiet h .select d
  case readNext d => exact command_quiet h .readNext d
  case reportNext d => exact command_quiet h .reportNext d
  case status d => exact command_quiet h .status d
  case transactionAbandoned b => exact transact_quiet h b
  case unknownCommandCode b => exact transact_quiet h b

end Sys2Proof.Machine

namespace Sys2Proof.Proofs

open Machine

/-- Settles O5: whether CONFIG is quiet does not depend on the commands that wait, and every command keeps it quiet. -/
theorem configStaysQuiet : Obligations.ConfigStaysQuiet := by
  intro s u h e
  rw [step_eq] at e
  cases e
  cases s.pending with
  | nil => exact h
  | cons c rest =>
    refine nextOf_quiet (s := { s with pending := rest }) ?_ c
    rw [configQuiet_iff] at h ⊢
    refine h.imp id ?_
    rintro ⟨r, rfl⟩
    exact ⟨{ r with pending := rest }, rfl⟩

end Sys2Proof.Proofs
end

section
/-! PROOF. The order queue and the transmit queue at their sizes, the request for a notice, and the two resets. -/

namespace Sys2Proof.Machine

theorem TxEntry.isFrame_iff (e : TxEntry) : e.isFrame = true ↔ e.body ≠ .notice := by
  cases h : e.body <;> simp [TxEntry.isFrame, h]

/-- With no placeholder before it, the first one found is the one given. -/
theorem Plc.find_placeholder {before after : List TxEntry} (n : Nat) (h : ∀ e ∈ before, e.body ≠ .notice) :
    (before ++ ⟨.notice, n⟩ :: after).find? (fun e => !e.isFrame) = some ⟨.notice, n⟩ := by
  have none_before : before.find? (fun e => !e.isFrame) = none := by
    simpa [TxEntry.isFrame_iff] using h
  rw [List.find?_append, none_before]
  rfl

theorem Plc.placeholder_absent {c : Plc} (h : ∀ e ∈ c.queue, e.body ≠ .notice) : c.placeholder = .absent := by
  have none_found : c.queue.find? (fun e => !e.isFrame) = none := by simpa [TxEntry.isFrame_iff] using h
  simp [Plc.placeholder, none_found]

theorem Plc.placeholder_of_queue {c : Plc} {before after : List TxEntry} {n : Nat} (h : ∀ e ∈ before, e.body ≠ .notice)
    (hq : c.queue = before ++ ⟨.notice, n⟩ :: after) : c.placeholder = if n = 0 then .waiting else .sending := by
  simp [Plc.placeholder, hq, Plc.find_placeholder n h]

end Sys2Proof.Machine

namespace Sys2Proof.Proofs

open Machine

/-- Settles O17: the branches of `issue`, `give` and `requestNotice`. -/
theorem orderAndTransmitQueuesFill : Obligations.OrderAndTransmitQueuesFill := by
  refine ⟨⟨fun s o => ⟨fun room => if_pos room, fun full run => ?_, fun full stop => ?_⟩, fun s o rest h => ?_⟩,
    fun s x c => ⟨fun room => if_pos room, fun full => if_neg (Nat.not_lt.2 full), fun none_waits => ?_,
      fun before after n hb hq => ⟨?_, ?_⟩⟩⟩
  · simp [State.issue, Nat.not_lt.2 full, run, State.setOrderLosses, satUp]
  · simp [State.issue, Nat.not_lt.2 full, stop]
  · simp [exec, execOrderSent, State.setOrders, h]
  · simp [State.requestNotice, Plc.placeholder_absent none_waits, State.setPlc]
  · rintro rfl
    simp [State.requestNotice, Plc.placeholder_of_queue hb hq]
  · intro tried
    simp [State.requestNotice, Plc.placeholder_of_queue hb hq, tried.ne', State.setPlc]

/-- Settles O56: both resets are `resetTo`, the one with the straps and the defaults, the other with what stands. -/
theorem resetAndRestartStartAfresh : Obligations.ResetAndRestartStartAfresh := by
  refine fun s => ⟨fun straps => rfl, rfl, fun data h => ?_⟩
  have some_data : data.isEmpty = false := by simpa using h
  simp [exec, execRestart, State.commandRestart, some_data, State.respond, State.setResponse, StatusCode.byte]

end Sys2Proof.Proofs
end

section
/-! PROOF. How the bytes of the scan link make characters (R194), and the characters of CONFIG and those that cannot be
decoded. -/

namespace Sys2Proof.Machine

/-! ## The bytes of a character -/

theorem index?_of_lt {n k : Nat} (h : k < n) : index? n k = some ⟨k, h⟩ := dif_pos h

theorem index?_of_le {n k : Nat} (h : n ≤ k) : index? n k = none := dif_neg (Nat.not_lt.2 h)

theorem byte_toNat_of_lt {k : Nat} (h : k < 256) : (byte k).toNat = k := Nat.mod_eq_of_lt h

@[simp] theorem index?_byte (n : Nat) (hn : n ≤ 256) (i : Fin n) : index? n (byte i.val).toNat = some i := by
  rw [byte_toNat_of_lt (i.isLt.trans_le hn), index?_of_lt i.isLt]

theorem readPosition_of_names {b : Byte} {p : Position} (h : Claims.Names b p) : readPosition b = some p := by
  have hb : b.toNat % 32 = p.val := h
  rw [readPosition, hb, index?_of_lt p.isLt]

theorem readPosition_out {b : Byte} (h : 23 < b.toNat % 32) : readPosition b = none := index?_of_le h

theorem scanLength_loopCode (r : LoopState) : scanLength (loopCode r) = some 2 := by cases r <;> rfl

theorem scanLength_headsetCode (r : HeadsetState) : scanLength (headsetCode r) = some 2 := by cases r <;> rfl

theorem scanLength_keyCode (k : Key) : scanLength (keyCode k) = some 2 := by cases k <;> rfl

theorem scanComplete_seize (t : Trunk) (k : Fin 64) :
    scanComplete [0x10, byte t.val, byte k.val] = .char (.seize t k) := by
  simp [scanComplete, readScan, index?_byte 32 (by decide), index?_byte 64 (by decide)]

theorem scanComplete_seize_out {t k : Byte} (h : 31 < t.toNat ∨ 63 < k.toNat) :
    scanComplete [0x10, t, k] = .undecodable := by
  rcases h with h | h
  · simp [scanComplete, readScan, index?_of_le h]
  · cases ht : index? 32 t.toNat <;> simp [scanComplete, readScan, index?_of_le h, ht]

theorem scanComplete_loop (r : LoopState) (t : Trunk) : scanComplete [loopCode r, byte t.val] = .char (.loop r t) := by
  cases r <;> simp [scanComplete, readScan, loopCode, index?_byte 32 (by decide)]

theorem scanComplete_loop_out (r : LoopState) {t : Byte} (h : 31 < t.toNat) : scanComplete [loopCode r, t] = .undecodable := by
  cases r <;> simp [scanComplete, readScan, loopCode, index?_of_le h]

theorem scanComplete_headset (r : HeadsetState) {b : Byte} {p : Position} (h : Claims.Names b p) :
    scanComplete [headsetCode r, b] = .char (.headset r p) := by
  cases r <;> simp [scanComplete, readScan, headsetCode, readPosition_of_names h]

theorem scanComplete_headset_out (r : HeadsetState) {b : Byte} (h : 23 < b.toNat % 32) :
    scanComplete [headsetCode r, b] = .undecodable := by
  cases r <;> simp [scanComplete, readScan, headsetCode, readPosition_out h]

theorem scanComplete_key (k : Key) {b : Byte} {p : Position} (h : Claims.Names b p) :
    scanComplete [keyCode k, b] = .char (.key k ⟨b.toNat / 32 % 8, Nat.mod_lt _ (by decide)⟩ p) := by
  cases k <;> simp [scanComplete, readScan, keyCode, Key.code, byte, Key.ofCode, readPosition_of_names h]

theorem scanComplete_key_out (k : Key) {b : Byte} (h : 23 < b.toNat % 32) : scanComplete [keyCode k, b] = .undecodable := by
  cases k <;> simp [scanComplete, readScan, keyCode, Key.code, byte, Key.ofCode, readPosition_out h]

/-- The first byte of a key with no code of TABLE 13-3. -/
theorem scanComplete_unknown_key {k b : Byte} (h : k.toNat / 16 = 4) (hk : k.toNat % 16 = 0 ∨ 7 < k.toNat % 16) :
    scanComplete [k, b] = .undecodable := by
  have no_key : Key.ofCode (k.toNat % 16) = none := by
    have codes : ∀ n < 16, n = 0 ∨ 7 < n → Key.ofCode n = none := by decide
    exact codes _ (Nat.mod_lt _ (by decide)) hk
  have other : k.toNat ≠ 0x21 ∧ k.toNat ≠ 0x22 ∧ k.toNat ≠ 0x31 ∧ k.toNat ≠ 0x32 := by omega
  simp [scanComplete, readScan, other, h, no_key]

theorem scanLength_key_byte {k : Byte} (h : k.toNat / 16 = 4) : scanLength k = some 2 := by
  have other : k.toNat ≠ 0x10 ∧ k.toNat ≠ 0x21 ∧ k.toNat ≠ 0x22 ∧ k.toNat ≠ 0x31 ∧ k.toNat ≠ 0x32 := by omega
  have range : 0x40 ≤ k.toNat ∧ k.toNat ≤ 0x4F := by omega
  simp [scanLength, other, range]

theorem scanLength_none {b : Byte} (h10 : b ≠ 0x10) (h21 : b ≠ 0x21) (h22 : b ≠ 0x22) (h31 : b ≠ 0x31) (h32 : b ≠ 0x32)
    (h4 : b.toNat / 16 ≠ 4) : scanLength b = none := by
  have toNat_ne {k : Byte} (h : b ≠ k) : b.toNat ≠ k.toNat := fun e => h (BitVec.eq_of_toNat_eq e)
  have n10 : b.toNat ≠ 0x10 := toNat_ne h10
  have n21 : b.toNat ≠ 0x21 := toNat_ne h21
  have n22 : b.toNat ≠ 0x22 := toNat_ne h22
  have n31 : b.toNat ≠ 0x31 := toNat_ne h31
  have n32 : b.toNat ≠ 0x32 := toNat_ne h32
  have key : ¬(0x40 ≤ b.toNat ∧ b.toNat ≤ 0x4F) := by omega
  simp [scanLength, n10, n21, n22, n31, n32, key]

/-! ## Whole characters, from a link with none open -/

namespace State

variable {s : State}

theorem setScanOpen_nil (h : s.lsi.scanOpen = []) : s.setScanOpen [] = s := by
  rw [← h]
  rfl

theorem scanReceiveAll_one (h : s.lsi.scanOpen = []) {a : Byte} (hl : scanLength a = none) :
    s.scanReceiveAll [a] = s.takeScan .undecodable := by
  simp [scanReceiveAll, scanReceive, scanByte, h, hl, setScanOpen_nil h]

theorem scanReceiveAll_two (h : s.lsi.scanOpen = []) {a b : Byte} (hl : scanLength a = some 2) :
    s.scanReceiveAll [a, b] = s.takeScan (scanComplete [a, b]) := by
  have back : (s.setScanOpen [a]).setScanOpen [] = s := setScanOpen_nil h
  simp [scanReceiveAll, scanReceive, scanByte, h, hl, takeScan, back]

theorem scanReceiveAll_three (h : s.lsi.scanOpen = []) {a b c : Byte} (hl : scanLength a = some 3) :
    s.scanReceiveAll [a, b, c] = s.takeScan (scanComplete [a, b, c]) := by
  have back : ((s.setScanOpen [a]).setScanOpen [a, b]).setScanOpen [] = s := setScanOpen_nil h
  simp [scanReceiveAll, scanReceive, scanByte, h, hl, takeScan, back]

end State

section Rows

variable {s : State} (h : s.lsi.scanOpen = [])
include h

theorem exec_seize (t k : Byte) : exec (.seize t k) s = .next (s.takeScan (scanComplete [0x10, t, k])) :=
  congrArg _ (State.scanReceiveAll_three h rfl)

theorem exec_loop (r : LoopState) (t : Byte) : exec (.loop r t) s = .next (s.takeScan (scanComplete [loopCode r, t])) :=
  congrArg _ (State.scanReceiveAll_two h (scanLength_loopCode r))

theorem exec_headset (r : HeadsetState) (b : Byte) :
    exec (.headset r b) s = .next (s.takeScan (scanComplete [headsetCode r, b])) :=
  congrArg _ (State.scanReceiveAll_two h (scanLength_headsetCode r))

/-- The seven rows of the keys. -/
theorem exec_keys (b : Byte) {c : Instr}
    (hc : c ∈ [Instr.signOnKey b, .readyKey b, .notReadyKey b, .signOffKey b, .answerKey b, .releaseKey b, .moreTimeKey b]) :
    ∃ k, exec c s = .next (s.takeScan (scanComplete [keyCode k, b])) := by
  have row (k : Key) : s.scanReceiveAll [keyCode k, b] = s.takeScan (scanComplete [keyCode k, b]) :=
    State.scanReceiveAll_two h (scanLength_keyCode k)
  simp only [List.mem_cons, List.not_mem_nil, or_false] at hc
  rcases hc with rfl | rfl | rfl | rfl | rfl | rfl | rfl
  exacts [⟨.signOn, congrArg _ (row _)⟩, ⟨.ready, congrArg _ (row _)⟩, ⟨.notReady, congrArg _ (row _)⟩,
    ⟨.signOff, congrArg _ (row _)⟩, ⟨.answer, congrArg _ (row _)⟩, ⟨.release, congrArg _ (row _)⟩,
    ⟨.moreTime, congrArg _ (row _)⟩]

end Rows

theorem takeScan_config {s : State} (h : s.running = false) (c : ScanChar) : s.takeScan (.char c) = s.takeCharConfig c := by
  simp [State.takeScan, h]

theorem takeScan_run {s : State} (h : s.running = true) (c : ScanChar) :
    s.takeScan (.char c) = (s.takeCharRun c).close s := by
  simp [State.takeScan, h, State.event]

end Sys2Proof.Machine

namespace Sys2Proof.Proofs

open Machine Claims

/-- Settles O20: each row spells one character, or none. -/
theorem refusedAndUndecodableCharacters : Obligations.RefusedAndUndecodableCharacters := by
  refine ⟨fun s stop opened => ⟨fun t k => ?_, fun r t => ?_, fun r b p hp => ?_, fun b p hp c hc => ?_⟩, ?_⟩
  · rw [exec_seize opened, scanComplete_seize, takeScan_config stop, State.takeCharConfig]
  · rw [exec_loop opened, scanComplete_loop, takeScan_config stop, State.takeCharConfig]
  · rw [exec_headset opened, scanComplete_headset r hp, takeScan_config stop, State.takeCharConfig]
  · obtain ⟨k, e⟩ := exec_keys opened b hc
    rw [e, scanComplete_key k hp, takeScan_config stop, State.takeCharConfig]
  · intro s u opened hu
    have dropped : s.takeScan .undecodable = u := by
      rw [hu]
      rfl
    refine ⟨fun b h10 h21 h22 h31 h32 h4 => ?_, fun k b h4 hk => ?_, fun t k out => ?_, fun r t out => ?_,
      fun b out => ⟨fun r => ?_, fun c hc => ?_⟩⟩
    · rw [← dropped, ← State.scanReceiveAll_one opened (scanLength_none h10 h21 h22 h31 h32 h4)]
      rfl
    · rw [← dropped, ← scanComplete_unknown_key (b := b) h4 hk, ← State.scanReceiveAll_two opened (scanLength_key_byte h4)]
      rfl
    · rw [exec_seize opened, scanComplete_seize_out out, dropped]
    · rw [exec_loop opened, scanComplete_loop_out r out, dropped]
    · rw [exec_headset opened, scanComplete_headset_out r out, dropped]
    · obtain ⟨k, e⟩ := exec_keys opened b hc
      rw [e, scanComplete_key_out k out, dropped]

end Sys2Proof.Proofs
end

section
/-! PROOF. The tick (TicksAdvanceTheClock): the counts of the pulses, the rows that it takes, and the tick at which nothing is
due. -/

namespace Sys2Proof.Machine

namespace State

variable (s : State)

/-! ## The counts -/

theorem advance_eq : s.advance = Claims.ticked s := by
  simp only [advance, countPulses_eq]
  rfl

theorem ticked_clk_congr {s u : State} (h : u.clk = s.clk) : (Claims.ticked u).clk = (Claims.ticked s).clk := by
  simp [Claims.ticked, h]

theorem ticked_pbc_congr {s u : State} (h : u.clk = s.clk) (k : u.pbc = s.pbc) :
    (Claims.ticked u).pbc = (Claims.ticked s).pbc := by
  simp [Claims.ticked, h, k]

/-- Of the counts, the tick's work writes none but by the advance. -/
theorem tick_counts (plan : TickPlan) :
    (s.tick plan).clk = (Claims.ticked s).clk ∧ (s.tick plan).pbc = (Claims.ticked s).pbc := by
  have hc : ((s.tickEvents defaultTick).drainDivisions).clk = s.clk := by simp
  have hp : ((s.tickEvents defaultTick).drainDivisions).pbc = s.pbc := by simp
  rw [← ticked_clk_congr hc, ← ticked_pbc_congr hc hp, ← advance_eq]
  simp [tick, event]

/-- The counts of the block boundaries. -/
def blockCounts : Nat × Nat := (s.pbc.blockFrameCount, s.pbc.boundariesDue)

@[simp] theorem grant_blockCounts : s.grant.blockCounts = s.blockCounts := by
  unfold grant
  split
  · rfl
  · split
    · rfl
    · simp only
      split <;> rfl

@[simp] theorem startCheck_blockCounts (n : Nat) : (s.startCheck n).blockCounts = s.blockCounts := by
  induction n generalizing s with
  | zero => rfl
  | succ n ih =>
    unfold startCheck
    split
    · rw [ih, startAnnouncement]
      split
      · rfl
      · simp [blockCounts, storeFault]
    · rfl

theorem boundaryOf_blockCounts (c : Channel) : (s.boundaryOf c).blockCounts = s.blockCounts := by
  have taken : (s.channelBoundary c).1.blockCounts = s.blockCounts := by
    unfold channelBoundary
    simp only
    split
    · split
      · rfl
      · split <;> rfl
    · rfl
    · rfl
  unfold boundaryOf
  split <;> simp_all [blockCounts]

theorem takeBoundary_blockCounts (c : Channel) : (s.takeBoundary c).blockCounts = s.blockCounts := by
  have worked : (s.boundaryWork c).blockCounts = s.blockCounts := by
    unfold boundaryWork
    simp only
    split <;> simp [boundaryOf_blockCounts]
  rcases takeBoundary_cases s c with ⟨-, h⟩ | ⟨-, h⟩ <;> rw [h]
  rw [← worked]
  simp [event, blockCounts]

theorem takeBoundaries_blockCounts (l : List Channel) : (l.foldl takeBoundary s).blockCounts = s.blockCounts := by
  induction l generalizing s with
  | nil => rfl
  | cons c l ih => exact (ih (s.takeBoundary c)).trans (s.takeBoundary_blockCounts c)

/-- Of the counts, the channels write none at a block boundary. -/
theorem blockBoundary_counts (order : List Channel) :
    let n := s.pulsesToBoundary
    (s.blockBoundary order).clk =
        ⟨s.clk.tickCount, (s.clk.frameCount + n) % 800, s.clk.ticksDue + (s.clk.frameCount + n) / 800⟩ ∧
      (s.blockBoundary order).pbc.blockFrameCount = (s.pbc.blockFrameCount + n) % 256 ∧
      (s.blockBoundary order).pbc.boundariesDue = s.pbc.boundariesDue + (s.pbc.blockFrameCount + n) / 256 - 1 := by
  have counts (v : State) (l : List Channel) : (l.foldl takeBoundary v).pbc.blockFrameCount = v.pbc.blockFrameCount ∧
      (l.foldl takeBoundary v).pbc.boundariesDue = v.pbc.boundariesDue :=
    Prod.mk.inj (v.takeBoundaries_blockCounts l)
  simp [blockBoundary, counts, countPulses_eq]

end State

/-! ## The rows -/

theorem exec_tick {s : State} (h : s.running = true) (plan : TickPlan) : exec (.tick plan) s = .next (s.tick plan) := by
  change Host.Outcome.next (if s.running then s.tick plan else s) = _
  rw [if_pos h]

theorem exec_blockBoundary {s : State} (h : s.running = true) (order : List Channel) :
    exec (.blockBoundary order) s = .next (s.blockBoundary order) := by
  change Host.Outcome.next (if s.running then s.blockBoundary order else s) = _
  rw [if_pos h]

theorem tickEvent_running {s : State} (h : s.running = true) (e : TickEvent) : (s.tickEvent e).running = true := by
  simpa [State.running] using h

theorem tickEvents_running {s : State} (h : s.running = true) (es : List TickEvent) : (s.tickEvents es).running = true := by
  simpa [State.running] using h

theorem tick_running {s : State} (h : s.running = true) (plan : TickPlan) : (s.tick plan).running = true := by
  simpa [State.running] using h

theorem blockBoundary_running {s : State} (h : s.running = true) (order : List Channel) :
    (s.blockBoundary order).running = true := by
  simpa [State.running] using h

/-- In RUN the tick takes each of its events as the event's own row does. -/
theorem rowsTaken_tickEvents {s : State} (h : s.running = true) (es : List TickEvent) :
    Claims.RowsTaken es s (s.tickEvents es) := by
  induction es generalizing s with
  | nil => rfl
  | cons e es ih => exact ⟨s.tickEvent e, exec_rowOf s e (.inl h), ih (tickEvent_running h e)⟩

theorem tickEvents_append (s : State) (es fs : List TickEvent) : s.tickEvents (es ++ fs) = (s.tickEvents es).tickEvents fs :=
  List.foldl_append

/-- The scan of the queues and its close, then the end of the hold. -/
theorem scanned_eq (s : State) : Claims.scanned s = .next ((s.event State.offerScan).tickEvent .spacingEnd) :=
  exec_rowOf _ .spacingEnd (.inr (by simp))

/-- Events none of which has work leave the state. -/
theorem tickEvents_idle {s : State} (es : List TickEvent) (h : ∀ e ∈ es, s.tickEvent e = s) : s.tickEvents es = s := by
  induction es with
  | nil => rfl
  | cons e es ih =>
    change (s.tickEvent e).tickEvents es = s
    rw [h e List.mem_cons_self]
    exact ih fun f hf => h f (List.mem_cons_of_mem _ hf)

theorem tickEvent_of_row {s : State} (hr : s.running = true) {e : TickEvent} (h : exec (Claims.rowOf e) s = .next s) :
    s.tickEvent e = s := by
  rw [exec_rowOf s e (.inl hr)] at h
  exact Host.Outcome.next.inj h

/-! ## The close of an event that changes nothing -/

theorem markStaffing_self (s : State) : s.markStaffing s = s := by
  have none_differs (l : List QueueNo) : l.foldl (fun u q => if s.staffedCount q = s.staffedCount q then u
      else u.setEst q { u.est.recs[q] with pendingFlag := true }) s = s := by
    induction l with
    | nil => rfl
    | cons q l ih => rw [List.foldl_cons, if_pos rfl, ih]
  exact none_differs _

/-- With no division in flight and none pending, the EST does nothing. -/
theorem closeEst_self {s : State} (hd : s.dividerBusy = true) (hn : s.est.inFlight = none) : s.closeEst s = s := by
  have none_pending : (List.finRange 8).find? (fun q => s.est.recs[q].pendingFlag) = none := by
    simpa [State.dividerBusy, hn] using hd
  simp only [State.closeEst, markStaffing_self, State.abandonStale, hn, State.beginDivision, none_pending]

theorem crossed_self (s : State) : s.crossed s = false := by simp [State.crossed]

/-- An attempt that has nothing to begin, or that waits for the bus. -/
theorem beginAttempt_of_linkWaits {s : State} (h : s.linkWaits = true) : s.beginAttempt = s := by
  unfold State.beginAttempt
  unfold State.linkWaits at h
  split
  next go =>
    split
    next => rfl
    next i hi =>
      split
      next => rfl
      next e he =>
        simp only [Bool.and_eq_true, Option.isNone_iff_eq_none] at go
        have waits : s.plc.busIdle < s.idleNeeded e := by simpa [go.1, go.2, hi, he] using h
        rw [if_neg (Nat.not_le.2 waits)]
  next => rfl

theorem refresh_self {s : State} (hm : s.sps.map = s.connections) (ha : s.mpi.attn = s.attnLevel) : s.refresh = s := by
  have mapped : s.setMap s.connections = s := by rw [← hm]; rfl
  rw [State.refresh, mapped, ← ha]
  rfl

/-- The close of an event that changes nothing, in a settled state with no division in flight. -/
theorem close_self {s : State} (h : s.settled = true) (hn : s.est.inFlight = none) : s.close s = s := by
  simp only [State.settled, Bool.and_eq_true, beq_iff_eq] at h
  obtain ⟨⟨⟨⟨hd, -⟩, hl⟩, hm⟩, ha⟩ := h
  simp only [State.close, closeEst_self hd hn, State.askOnCrossing, crossed_self, Bool.false_eq_true, if_false,
    beginAttempt_of_linkWaits hl, refresh_self hm ha]

/-- The counts and the frame that is sent have no part in whether the divider, the map and ATTN are settled. -/
theorem settled_of_counts {s u : State} (h : s.settled = true) (hl : u.linkWaits = true)
    (e : u = { s with clk := u.clk, pbc := u.pbc, sps := { s.sps with sending := u.sps.sending } }) : u.settled = true := by
  have hc : u.connections = s.connections := by rw [e]; rfl
  have hs : ∀ q, u.staffedCount q = s.staffedCount q := by rw [e]; exact fun _ => rfl
  have he : u.est = s.est := by rw [e]
  have hm : u.mpi = s.mpi := by rw [e]
  have hp : u.sps.map = s.sps.map := by rw [e]
  simp only [State.settled, Bool.and_eq_true, State.dividerBusy, State.divisionFresh, State.attnLevel, State.running,
    State.items, hc, hs, he, hm, hp] at h ⊢
  obtain ⟨⟨⟨hd, -⟩, hm⟩, ha⟩ := h
  exact ⟨⟨⟨hd, hl⟩, hm⟩, ha⟩

theorem ticked_mpi (s : State) : (Claims.ticked s).mpi = s.mpi := rfl

theorem ticked_running {s : State} (h : s.running = true) : (Claims.ticked s).running = true := by
  rwa [State.running, ticked_mpi]

theorem offerScan_idle {s : State} (h : ∀ q, s.scanQueue q = s) : s.offerScan = s := by
  have (l : List QueueNo) : l.foldl State.scanQueue s = s := by
    induction l with
    | nil => rfl
    | cons q l ih => rw [List.foldl_cons, h, ih]
  exact this _

/-- In a settled state where no queue makes an offer, the scan and the end of the hold do nothing. -/
theorem scanned_idle {s : State} (h : s.settled = true) (hn : s.est.inFlight = none) (hq : ∀ q, s.scanQueue q = s) :
    Claims.scanned s = .next s := by
  have closed : s.close s = s := close_self h hn
  have scan : s.event State.offerScan = s := by rw [State.event, offerScan_idle hq, closed]
  rw [scanned_eq, scan, State.tickEvent, State.tickWork]
  split
  next f hf =>
    obtain ⟨-, rfl⟩ := Option.ite_none_right_eq_some.1 hf |>.imp_right Option.some.inj
    rw [State.event, id, closed]
  next => rfl

end Sys2Proof.Machine

namespace Sys2Proof.Proofs

open Machine Claims

theorem tick_counts_and_keeps (s : State) (plan : TickPlan) (h : s.running = true) :
    let n := if s.clk.ticksDue = 0 then 800 - s.clk.frameCount else 0
    ∃ u, exec (.tick plan) s = .next u ∧
      u.clk = ⟨s.clk.tickCount + 1, (s.clk.frameCount + n) % 800, s.clk.ticksDue + (s.clk.frameCount + n) / 800 - 1⟩ ∧
      u.pbc = { s.pbc with
        blockFrameCount := (s.pbc.blockFrameCount + n) % 256
        boundariesDue := s.pbc.boundariesDue + (s.pbc.blockFrameCount + n) / 256 } ∧
      (s.clk.ticksDue = 0 → s.clk.frameCount < 800 → u.clk = ⟨s.clk.tickCount + 1, 0, 0⟩) ∧
      (∀ t : Trunk, u.cqm.calls[t].gen = s.cqm.calls[t].gen) ∧
      u.lsi.scanOpen = s.lsi.scanOpen ∧
      u.plc.crcErr = s.plc.crcErr ∧ u.plc.lengthErr = s.plc.lengthErr ∧ u.plc.idClash = s.plc.idClash ∧
      u.plc.contentionDrop = s.plc.contentionDrop ∧ u.plc.lastAvail = s.plc.lastAvail ∧ u.plc.echo = s.plc.echo ∧
      u.mpi.mode = s.mpi.mode ∧ u.mpi.station = s.mpi.station ∧ u.mpi.image = s.mpi.image ∧
      u.mpi.pointer = s.mpi.pointer ∧ u.mpi.response = s.mpi.response ∧
      u.pending = s.pending := by
  obtain ⟨hc, hp⟩ := s.tick_counts plan
  have hl := ((Routine.refl s).tick plan).link
  simp only [Plc.received, Prod.mk.injEq] at hl
  obtain ⟨crc, length, clash, contention, avail, echo⟩ := hl
  refine ⟨_, exec_tick h plan, hc, hp, fun due count => ?_, ((Routine.refl s).tick plan).gen, by simp, crc, length, clash,
    contention, avail, echo, by simp, by simp, by simp, by simp, by simp, by simp⟩
  have whole : s.clk.frameCount + (800 - s.clk.frameCount) = 800 := by omega
  rw [hc]
  simp [ticked, due, whole]

theorem coincident_pulse (s : State) (plan : TickPlan) (order : List Channel) (run : s.running = true)
    (ticks : s.clk.ticksDue = 0) (boundaries : s.pbc.boundariesDue = 0) (count : s.clk.frameCount < 800)
    (block : s.pbc.blockFrameCount < 256) (both : 800 - s.clk.frameCount = 256 - s.pbc.blockFrameCount) :
    ∀ e ∈ [(Instr.tick plan, Instr.blockBoundary order), (.blockBoundary order, .tick plan)],
      ∃ u w, exec e.1 s = .next u ∧ exec e.2 u = .next w ∧
        w.clk = ⟨s.clk.tickCount + 1, 0, 0⟩ ∧ w.pbc.blockFrameCount = 0 ∧ w.pbc.boundariesDue = 0 := by
  have whole : s.clk.frameCount + (800 - s.clk.frameCount) = 800 := by omega
  have wholeBlock : s.pbc.blockFrameCount + (800 - s.clk.frameCount) = 256 := by omega
  simp only [List.mem_cons, List.not_mem_nil, or_false, forall_eq_or_imp, forall_eq]
  constructor
  · obtain ⟨hc, hp⟩ := s.tick_counts plan
    obtain ⟨kc, kf, kd⟩ := (s.tick plan).blockBoundary_counts order
    refine ⟨_, _, exec_tick run plan, exec_blockBoundary (tick_running run plan) order, ?_, ?_, ?_⟩
    · rw [kc]
      simp [State.pulsesToBoundary, hc, hp, ticked, ticks, boundaries, whole, wholeBlock]
    · rw [kf]
      simp [State.pulsesToBoundary, hp, ticked, ticks, boundaries, wholeBlock]
    · rw [kd]
      simp [State.pulsesToBoundary, hp, ticked, ticks, boundaries, wholeBlock]
  · obtain ⟨hc, hf, hd⟩ := s.blockBoundary_counts order
    obtain ⟨kc, kp⟩ := (s.blockBoundary order).tick_counts plan
    have n : s.pulsesToBoundary = 800 - s.clk.frameCount := by simp [State.pulsesToBoundary, boundaries, both]
    rw [n] at hc hf hd
    refine ⟨_, _, exec_blockBoundary run order, exec_tick (blockBoundary_running run order) plan, ?_, ?_, ?_⟩
    · rw [kc]
      simp [ticked, hc, ticks, whole]
    · rw [kp]
      simp [ticked, hc, hf, ticks, whole, wholeBlock]
    · rw [kp]
      simp [ticked, hc, hd, hf, ticks, boundaries, whole, wholeBlock]

/-- Settles O60: a tick is the rows of its events in turn, and each row whose premise fails leaves the part as it is. -/
theorem ticksAdvanceTheClock : Obligations.TicksAdvanceTheClock := by
  refine ⟨fun s plan => ⟨fun stop => ?_, tick_counts_and_keeps s plan⟩, coincident_pulse, fun s plan run => ?_,
    fun s plan run => ?_⟩
  · change Host.Outcome.next (if s.running then s.tick plan else s) = _
    simp [stop]
  · have ready := tickEvents_running run (tickOrder ++ List.replicate 9 .division)
    refine ⟨_, _, rowsTaken_tickEvents run _, rowsTaken_tickEvents (ticked_running ready) _, ?_⟩
    rw [tickEvents_append, tickEvents_append, scanned_eq, exec_tick run, State.tick, State.advance_eq, State.drainDivisions]
    rfl
  · intro v before after
    have hv : v.running = true := ticked_running run
    have ready : (s.tickEvents defaultTick).drainDivisions = s := by
      have nothing_due (e) (he : e ∈ .division :: tickOrder) : s.tickEvent e = s := tickEvent_of_row run (before e he)
      rw [tickEvents_idle defaultTick fun e he => nothing_due e (List.mem_cons_of_mem _ he), State.drainDivisions]
      refine tickEvents_idle _ fun e he => ?_
      rw [List.eq_of_mem_replicate he]
      exact nothing_due _ List.mem_cons_self
    have worked : (v.tickEvents plan.first).tickEvents (restOfTick plan) = v := by
      have nothing_due (e) (he : e ∈ plan.first ++ tickOrder) : v.tickEvent e = v := tickEvent_of_row hv (after e he)
      rw [tickEvents_idle plan.first fun e he => nothing_due e (List.mem_append_left _ he)]
      exact tickEvents_idle _ fun e he => nothing_due e (List.mem_append_right _ (List.mem_of_mem_filter he))
    have only_scan : exec (.tick plan) s = scanned v := by
      rw [exec_tick run, State.tick, ready, State.advance_eq, worked, scanned_eq]
    exact ⟨only_scan, fun settled none_flies none_offers waits =>
      only_scan.trans (scanned_idle (settled_of_counts settled waits rfl) none_flies none_offers)⟩

end Sys2Proof.Proofs
end

section
/-! PROOF. `Only`, the relation that bounds what an act writes: it composes, and each setter and shared operation of the model
has one. -/

namespace Sys2Proof.Claims

open Machine State

variable {s u v w : State} {c d : Change}

/-- Two changes one after the other. -/
def Change.and (c d : Change) : Change where
  trunks := c.trunks ++ d.trunks
  positions := c.positions ++ d.positions
  scanErrors := c.scanErrors || d.scanErrors
  orders := c.orders ++ d.orders
  calls := c.calls ++ d.calls
  lists := c.lists ++ d.lists
  agents := c.agents ++ d.agents
  idleList := c.idleList || d.idleList
  hunt := c.hunt ++ d.hunt
  estimates := c.estimates ++ d.estimates
  channels := c.channels ++ d.channels
  port := c.port || d.port
  waiting := c.waiting || d.waiting
  junctors := c.junctors ++ d.junctors
  freeOrder := c.freeOrder || d.freeOrder
  holdoffOrder := c.holdoffOrder || d.holdoffOrder
  frames := c.frames ++ d.frames
  peers := c.peers ++ d.peers
  slots := c.slots ++ d.slots
  guests := c.guests ++ d.guests
  reports := c.reports ++ d.reports

/-- What is issued, reported and handed on in one is so in the other, and where one may write the other may. -/
structure Change.Le (c d : Change) : Prop where
  trunks : c.trunks ⊆ d.trunks
  positions : c.positions ⊆ d.positions
  scanErrors : c.scanErrors = true → d.scanErrors = true
  orders : c.orders = d.orders
  calls : c.calls ⊆ d.calls
  lists : c.lists ⊆ d.lists
  agents : c.agents ⊆ d.agents
  idleList : c.idleList = true → d.idleList = true
  hunt : c.hunt ⊆ d.hunt
  estimates : c.estimates ⊆ d.estimates
  channels : c.channels ⊆ d.channels
  port : c.port = true → d.port = true
  waiting : c.waiting = true → d.waiting = true
  junctors : c.junctors ⊆ d.junctors
  freeOrder : c.freeOrder = true → d.freeOrder = true
  holdoffOrder : c.holdoffOrder = true → d.holdoffOrder = true
  frames : c.frames = d.frames
  peers : c.peers ⊆ d.peers
  slots : c.slots ⊆ d.slots
  guests : c.guests ⊆ d.guests
  reports : c.reports = d.reports

theorem Only.refl (s : State) : Only {} s s := by
  refine ⟨?_, ?_, ?_, ?_, ?_, ?_, ?_, ?_, ?_, ?_, ?_, ?_, ?_, ?_, ?_, ?_, ?_, ?_, ?_, ?_, ?_, ?_, ?_, ?_, ?_, ?_, ?_, ?_, ?_, ?_,
    ?_, ?_, ?_, ?_, ?_, ?_, ?_, ?_⟩ <;> simp

/-- The orders after an issue depend on the orders, the losses and the mode alone. -/
theorem issue_congr (o : Order) (ho : u.lsi.orders = w.lsi.orders) (hl : u.lsi.orderLosses = w.lsi.orderLosses)
    (hm : u.mpi.mode = w.mpi.mode) :
    (u.issue o).lsi.orders = (w.issue o).lsi.orders ∧ (u.issue o).lsi.orderLosses = (w.issue o).lsi.orderLosses := by
  unfold issue running
  rw [ho, hl, hm]
  split
  · exact ⟨rfl, hl⟩
  · split
    · exact ⟨ho, rfl⟩
    · exact ⟨ho, hl⟩

theorem issues_congr (l : List Order) (ho : u.lsi.orders = w.lsi.orders) (hl : u.lsi.orderLosses = w.lsi.orderLosses)
    (hm : u.mpi.mode = w.mpi.mode) :
    (l.foldl issue u).lsi.orders = (l.foldl issue w).lsi.orders ∧
      (l.foldl issue u).lsi.orderLosses = (l.foldl issue w).lsi.orderLosses := by
  induction l generalizing u w with
  | nil => exact ⟨ho, hl⟩
  | cons o l ih =>
    obtain ⟨ko, kl⟩ := issue_congr o ho hl hm
    exact ih ko kl (by simpa using hm)

theorem reports_congr (l : List Report) (hf : u.mpi.fifo = w.mpi.fifo) (hl : u.mpi.lostReports = w.mpi.lostReports) :
    (l.foldl writeReport u).mpi.fifo = (l.foldl writeReport w).mpi.fifo ∧
      (l.foldl writeReport u).mpi.lostReports = (l.foldl writeReport w).mpi.lostReports := by
  induction l generalizing u w with
  | nil => exact ⟨hf, hl⟩
  | cons r l ih =>
    refine ih ?_ ?_
    · simp only [writeReport, hf]
      split
      · rfl
      · exact hf
    · simp only [writeReport, hf, hl]
      split
      · exact hl
      · rfl

theorem frames_congr (l : List (Station × Payload)) (h : u.plc = w.plc) :
    (l.foldl (fun u f => u.give f.1 f.2) u).plc = (l.foldl (fun u f => u.give f.1 f.2) w).plc := by
  induction l generalizing u w with
  | nil => exact h
  | cons f l ih =>
    refine ih ?_
    simp only [give, h]
    split <;> rfl

/-- Elements that two changes leave. -/
theorem left_by_both {α β : Type} {f g k : α → β} {l m : List α} (h : ∀ a, a ∉ l → g a = f a) (j : ∀ a, a ∉ m → k a = g a) :
    ∀ a, a ∉ l ++ m → k a = f a := fun a ha =>
  have ⟨hl, hm⟩ := not_or.1 (fun hor => ha (List.mem_append.2 hor))
  (j a hm).trans (h a hl)

theorem flag_of_both {α : Type} {a b : Bool} {x y z : α} (h : a = true ∨ y = x) (k : b = true ∨ z = y) :
    (a || b) = true ∨ z = x := by
  rcases h with rfl | rfl
  · exact .inl rfl
  · exact k.imp (fun hb => by simp [hb]) id

theorem Only.trans (h : Only c s u) (k : Only d u v) : Only (c.and d) s v := by
  obtain ⟨h1, h2, h3, h4, h5, h6, h7, h8, h9, h10, h11, h12, h13, h14, h15, h16, h17, h18, h19, h20, h21, h22, h23, h24, h25,
    h26, h27, h28, h29, h30, h31, h32, h33, h34, h35, h36, h37, h38⟩ := h
  obtain ⟨k1, k2, k3, k4, k5, k6, k7, k8, k9, k10, k11, k12, k13, k14, k15, k16, k17, k18, k19, k20, k21, k22, k23, k24, k25,
    k26, k27, k28, k29, k30, k31, k32, k33, k34, k35, k36, k37, k38⟩ := k
  have mode : (c.orders.foldl issue s).mpi.mode = s.mpi.mode := foldl_mode _ (by simp) _ _
  have orders := issues_congr (w := c.orders.foldl issue s) d.orders h4 h5 (h30.trans mode.symm)
  have reports := reports_congr (w := c.reports.foldl writeReport s) d.reports h34 h35
  refine ⟨left_by_both h1 k1, left_by_both h2 k2, flag_of_both h3 k3, ?_, ?_, k6.trans h6, k7.trans h7, left_by_both h8 k8,
    left_by_both h9 k9, left_by_both h10 k10, flag_of_both h11 k11, left_by_both h12 k12, left_by_both h13 k13,
    k14.trans h14, left_by_both h15 k15, flag_of_both h16 k16, k17.trans h17, k18.trans h18, flag_of_both h19 k19,
    k20.trans h20, k21.trans h21, left_by_both h22 k22, flag_of_both h23 k23, flag_of_both h24 k24, ?_, left_by_both h26 k26,
    k27.trans h27, left_by_both h28 k28, left_by_both h29 k29, k30.trans h30, k31.trans h31, k32.trans h32, k33.trans h33,
    ?_, ?_, k36.trans h36, k37.trans h37, k38.trans h38⟩
  · rw [k4, orders.1, Change.and, List.foldl_append]
  · rw [k5, orders.2, Change.and, List.foldl_append]
  · rw [k25, frames_congr d.frames h25, Change.and, List.foldl_append]
  · rw [k34, reports.1, Change.and, List.foldl_append]
  · rw [k35, reports.2, Change.and, List.foldl_append]

theorem Only.mono (h : Only c s v) (le : c.Le d) : Only d s v := by
  obtain ⟨h1, h2, h3, h4, h5, h6, h7, h8, h9, h10, h11, h12, h13, h14, h15, h16, h17, h18, h19, h20, h21, h22, h23, h24, h25,
    h26, h27, h28, h29, h30, h31, h32, h33, h34, h35, h36, h37, h38⟩ := h
  refine ⟨fun a ha => h1 a (ha ∘ @le.trunks a), fun a ha => h2 a (ha ∘ @le.positions a), h3.imp_left le.scanErrors,
    le.orders ▸ h4, le.orders ▸ h5, h6, h7, fun a ha => h8 a (ha ∘ @le.calls a), fun a ha => h9 a (ha ∘ @le.lists a),
    fun a ha => h10 a (ha ∘ @le.agents a), h11.imp_left le.idleList, fun a ha => h12 a (ha ∘ @le.hunt a),
    fun a ha => h13 a (ha ∘ @le.estimates a), h14, fun a ha => h15 a (ha ∘ @le.channels a), h16.imp_left le.port, h17, h18,
    h19.imp_left le.waiting, h20, h21, fun a ha => h22 a (ha ∘ @le.junctors a), h23.imp_left le.freeOrder,
    h24.imp_left le.holdoffOrder, le.frames ▸ h25, fun a ha => h26 a (ha ∘ @le.peers a), h27,
    fun a ha => h28 a (ha ∘ @le.slots a), fun a ha => h29 a (ha ∘ @le.guests a), h30, h31, h32, h33, le.reports ▸ h34,
    le.reports ▸ h35, h36, h37, h38⟩

/-! ## The setters -/

/-- Writing one element leaves the others. -/
theorem getElem_set_other {α : Type} {n : Nat} (xs : Vector α n) {i j : Fin n} (x : α) (h : j ≠ i) :
    (xs.set i x)[j.val] = xs[j.val] :=
  Vector.getElem_set_ne i.isLt j.isLt fun e => h (Fin.ext e.symm)

section Setters

variable (s)

theorem only_setTrunkSup (t : Trunk) (x : TrunkSup) : Only { trunks := [t] } s (s.setTrunkSup t x) := by
  simp +contextual [Only, getElem_set_other]

theorem only_setPositionSup (p : Position) (x : PositionSup) : Only { positions := [p] } s (s.setPositionSup p x) := by
  simp +contextual [Only, getElem_set_other]

theorem only_setCall (t : Trunk) (x : CallRec) : Only { calls := [t] } s (s.setCall t x) := by
  simp +contextual [Only, getElem_set_other]

theorem only_setList (q : QueueNo) (x : List Trunk) : Only { lists := [q] } s (s.setList q x) := by
  simp +contextual [Only, getElem_set_other]

theorem only_setAgent (p : Position) (x : AgentRec) : Only { agents := [p] } s (s.setAgent p x) := by
  simp +contextual [Only, getElem_set_other]

theorem only_setIdleList (l : List Position) : Only { idleList := true } s (s.setIdleList l) := by simp [Only]

theorem only_setEst (q : QueueNo) (r : EstRec) : Only { estimates := [q] } s (s.setEst q r) := by
  simp +contextual [Only, getElem_set_other]

theorem only_setChannel (c : Channel) (r : ChannelRec) : Only { channels := [c] } s (s.setChannel c r) := by
  simp +contextual [Only, getElem_set_other]

theorem only_setWaiting (l : List WaitEntry) : Only { waiting := true } s (s.setWaiting l) := by simp [Only]

theorem only_setJunctor (j : Junctor) (r : JunctorRec) : Only { junctors := [j] } s (s.setJunctor j r) := by
  simp +contextual [Only, getElem_set_other]

theorem only_setHoldoffOrder (l : List Junctor) : Only { holdoffOrder := true } s (s.setHoldoffOrder l) := by simp [Only]

theorem only_setSlot (o : SlotNo) (x : Option OfferSlot) : Only { slots := [o] } s (s.setSlot o x) := by
  simp +contextual [Only, getElem_set_other]

/-! ## Orders, reports and frames -/

theorem only_issue (o : Order) : Only { orders := [o] } s (s.issue o) := by simp [Only]

theorem only_writeReport (r : Report) : Only { reports := [r] } s (s.writeReport r) := by simp [Only]

theorem only_give (x : Station) (p : Payload) : Only { frames := [(x, p)] } s (s.give x p) := by simp [Only]

end Setters

end Sys2Proof.Claims
end

section
/-! PROOF. What the operations on agents do, in the terms of the statements: ringing, becoming READY, going out of service,
the pending action, the AGENT_STATE report, and wrap-up. -/

namespace Sys2Proof.Claims

open Machine State

variable {s u v : State}

/-! ## What each shared operation may write -/

section Writes

variable (s)

theorem only_leaveIdle (p : Position) : Only { idleList := true } s (s.leaveIdle p) := only_setIdleList s _

theorem only_setDuty (p : Position) (d : Duty) : Only { agents := [p] } s (s.setDuty p d) := only_setAgent s p _

theorem only_modifyCall (t : Trunk) (f : CallBody → CallBody) : Only { calls := [t] } s (s.modifyCall t f) :=
  only_setCall s t _

theorem only_removeCall (q : QueueNo) (t : Trunk) : Only { lists := [q] } s (s.removeCall q t) := only_setList s q _

theorem only_insertCall (q : QueueNo) (t : Trunk) : Only { lists := [q] } s (s.insertCall q t) := only_setList s q _

theorem only_removeEntry (t : Trunk) : Only { waiting := true, calls := [t] } s (s.removeEntry t) :=
  (only_setWaiting s _).trans (only_modifyCall _ t _)

theorem only_joinWaiting (t : Trunk) (k : Clip) : Only { waiting := true, calls := [t] } s (s.joinWaiting t k) :=
  (only_setWaiting s _).trans (only_modifyCall _ t _)

theorem only_ringAgent (p : Position) (b : Bound) :
    Only { idleList := true, agents := [p], orders := [.ring p] } s (s.ringAgent p b) :=
  ((only_leaveIdle s p).trans (only_setDuty _ p _)).trans (only_issue _ _)

theorem only_toNotReady (p : Position) : Only { idleList := true, agents := [p] } s (s.toNotReady p) :=
  (((only_leaveIdle s p).trans (only_setDuty _ p _)).trans (only_setAgent _ p _)).mono
    (by constructor <;> simp [Change.and])

theorem only_toSignedOff (p : Position) : Only { idleList := true, agents := [p] } s (s.toSignedOff p) :=
  (only_leaveIdle s p).trans (only_setAgent _ p _)

end Writes

/-! ## Ringing an agent -/

theorem ringForCall_eq {b : CallBody} {p : Position} {t : Trunk} (h : s.call t = some b) :
    s.ringForCall p t =
      ((((s.ringAgent p (.call t)).removeCall b.queue t).setPhase t (.alerting p)).removeEntry t).sourceToMusic t := by
  simp only [ringForCall, h]

@[simp] theorem modifyCall_cqm (t : Trunk) (f : CallBody → CallBody) :
    (s.modifyCall t f).cqm = { s.cqm with calls := s.cqm.calls.set t ⟨s.cqm.calls[t].gen, (s.cqm.calls[t].body).map f⟩ } :=
  rfl

@[simp] theorem ringAgent_agent (p : Position) (b : Bound) :
    (s.ringAgent p b).dsu.agents[p.val] = onDuty s.dsu.agents[p.val] (.alerting b (deadline s.now s.items.ringLimit)) := by
  simp [ringAgent, leaveIdle, setDuty, onDuty]

theorem ringForCall_rung {b : CallBody} (p : Position) {t : Trunk} (h : s.call t = some b) : Rung s (s.ringForCall p t) p t b := by
  have body : s.cqm.calls[t.val].body = some b := h
  have writes : Only { agents := [p], idleList := true, calls := [t], lists := [b.queue], waiting := true, orders := [.ring p] }
      s (s.ringForCall p t) := by
    rw [ringForCall_eq h]
    exact (((((only_ringAgent s p _).trans (only_removeCall _ b.queue t)).trans (only_modifyCall _ t _)).trans
      (only_removeEntry _ t)).trans (only_modifyCall _ t _)).mono (by constructor <;> simp [Change.and])
  refine ⟨?_, ?_, ?_, ?_, ?_, writes⟩ <;> rw [ringForCall_eq h]
  · simp [sourceToMusic, removeEntry, setPhase]
  · simp [sourceToMusic, removeEntry, setPhase, ringAgent, leaveIdle, setDuty]
  · simp [sourceToMusic, removeEntry, setPhase, removeCall, body]
  · simp [sourceToMusic, removeEntry, setPhase, removeCall]
  · simp [sourceToMusic, removeEntry, setPhase]

theorem matchCall_matched (s : State) (t : Trunk) : Matched s (s.matchCall t) t := by
  unfold Matched matchCall
  cases hc : s.call t with
  | none => rfl
  | some b =>
    simp only
    cases ha : s.chooseAgent b.queue with
    | none => rfl
    | some a =>
      obtain ⟨p, u⟩ := a
      have same : u.call t = s.call t := by obtain ⟨-, rfl | rfl⟩ := chooseAgent_cases s ha <;> rfl
      exact ringForCall_rung p (same.trans hc)

/-! ## The states that an agent goes to -/

theorem toNotReady_stoodDown (s : State) (p : Position) : StoodDown s (s.toNotReady p) p := by
  refine ⟨?_, ?_, (only_toNotReady s p).mono (by constructor <;> simp)⟩
  · simp [toNotReady, leaveIdle, setDuty, setPendingAction, onDuty]
  · simp [toNotReady, leaveIdle, setDuty, setPendingAction]

theorem toSignedOff_signedOff (s : State) (p : Position) : SignedOff s (s.toSignedOff p) p := by
  refine ⟨?_, ?_, (only_toSignedOff s p).mono (by constructor <;> simp)⟩ <;> simp [toSignedOff, leaveIdle]

theorem outOfService_spec (s : State) (p : Position) : OutOfService s (s.outOfService p) p := by
  unfold OutOfService outOfService
  cases s.dsu.agents[p].pendingAction
  case signOff => exact toSignedOff_signedOff s p
  all_goals exact toNotReady_stoodDown s p

/-- A call that the walk finds is in its record. -/
theorem call_of_profileWalk {p : Position} {t : Trunk} (h : s.profileWalk p = some t) : ∃ b, s.call t = some b := by
  unfold profileWalk at h
  split at h
  · cases h
  · obtain ⟨q, -, hq⟩ := List.exists_of_findSome?_eq_some h
    have queued : s.isQueued t = true := List.find?_some hq
    unfold isQueued at queued
    split at queued
    next b hb => exact ⟨b, hb⟩
    next => cases queued

theorem profileWalk_setPendingAction (s : State) (p : Position) (a : PendingAction) :
    (s.setPendingAction p a).profileWalk p = s.profileWalk p := by
  simp only [profileWalk, setPendingAction, setAgent, Fin.getElem_fin, Vector.getElem_set_self]
  rfl

theorem becomeReady_of_call {p : Position} {t : Trunk} (h : s.profileWalk p = some t) :
    s.becomeReady p = (s.setPendingAction p .none).ringForCall p t := by
  simp only [becomeReady, profileWalk_setPendingAction, h]

theorem becomeReady_of_none {p : Position} (h : s.profileWalk p = none) :
    s.becomeReady p =
      ((s.setPendingAction p .none).setDuty p (.ready s.now)).setIdleList (s.dsu.idleList.erase p ++ [p]) := by
  simp only [becomeReady, profileWalk_setPendingAction, h]
  rfl

theorem becomeReady_readied (s : State) (p : Position) : Readied s (s.becomeReady p) p := by
  unfold Readied
  simp only
  split
  next t hw =>
    rw [becomeReady_of_call hw]
    obtain ⟨b, hb⟩ := call_of_profileWalk hw
    exact ⟨b, hb, ringForCall_rung p (s := s.setPendingAction p .none) hb⟩
  next hw =>
    rw [becomeReady_of_none hw]
    refine ⟨?_, rfl, ?_⟩
    · simp [setPendingAction, setDuty, onDuty]
    · exact (((only_setAgent s p _).trans (only_setDuty _ p _)).trans (only_setIdleList _ _)).mono
        (by constructor <;> simp [Change.and])

theorem takePending_tookPending (s : State) (p : Position) : TookPending s (s.takePending p) p := by
  unfold TookPending takePending
  cases s.dsu.agents[p].pendingAction
  case notReady => exact toNotReady_stoodDown s p
  case signOff => exact toSignedOff_signedOff s p
  all_goals exact becomeReady_readied s p

theorem reportAgent_reported (s s0 : State) (p : Position) (cause : AgentCause) :
    AgentReported s (s.reportAgent s0 p cause) s0 p cause := by
  unfold AgentReported reportAgent
  simp only
  generalize s.dsu.agents[p] = is
  generalize s0.dsu.agents[p] = was
  cases hk : is.kind
  case signedOff | notReady | ready =>
    simp only [true_or, or_true, and_true]
    by_cases same : was.kind = is.kind
    · rw [hk] at same
      rw [if_neg (not_not.2 same.symm), if_pos same]
    · rw [hk] at same
      rw [if_pos (Ne.symm same), if_neg same]
      cases is.post <;> rfl
  all_goals simp

/-! ## Wrap-up -/

theorem smoothed_spec (old n : Nat) : Smoothed old (smoothed old n) n := by
  unfold Smoothed smoothed
  simp only
  split
  next up =>
    rcases Nat.lt_or_eq_of_le up with lt | eq
    · have sign : (16 * (n : Int) - old).sign = 1 := Int.sign_eq_one_of_pos (by omega)
      rw [sign]
      omega
    · have sign : (16 * (n : Int) - old).sign = 0 := by rw [Int.sign_eq_zero_iff_zero]; omega
      rw [sign]
      omega
  next down =>
    have sign : (16 * (n : Int) - old).sign = -1 := Int.sign_eq_neg_one_of_neg (by omega)
    rw [sign]
    omega

theorem endWrap_wrapEnded (s : State) (p : Position) (w : WrapFields) (b : EndedBy) (d : Destination) :
    WrapEnded s (s.endWrap p w b d) p w b d := by
  unfold WrapEnded endWrap
  simp only
  set ticks := elapsed w.start s.now
  refine ⟨(s.writeReport (.wrapEnd p w.queue ticks b)).sample w.queue (clamp16 (w.talk + ticks)), ⟨?_, ?_, ?_⟩, ?_⟩
  · simpa [sample, clamp16] using smoothed_spec (s.est.recs[w.queue]).aht16 (min (w.talk + ticks) 65535)
  · simp [sample]
  · exact ((only_writeReport s _).trans (only_setEst _ w.queue _)).mono (by constructor <;> simp [Change.and])
  · cases d
    · exact becomeReady_readied _ p
    · exact toNotReady_stoodDown _ p
    · exact toSignedOff_signedOff _ p

theorem openWrap_wrapOpened (s : State) (p : Position) (q : QueueNo) (talk : Nat) :
    WrapOpened s (s.openWrap p q talk) p q talk := by
  unfold WrapOpened openWrap
  simp only
  set w : WrapFields :=
    ⟨q, s.now, deadline s.now (s.queueItems q).wrapTime, deadline s.now (s.queueItems q).wrapMin, 0, clamp16 talk⟩
  have destination : expiryDestination (s.setDuty p (.wrapup w)).dsu.agents[p] = expiryDestination s.dsu.agents[p] := by
    simp [setDuty, expiryDestination]
  split
  · rw [← destination]
    exact endWrap_wrapEnded (s.setDuty p (.wrapup w)) p w .expiry _
  · rfl

end Sys2Proof.Claims
end

section
/-! PROOF. What the operations on calls do, in the terms of the statements: the end of a call, its place in a list, its return;
then the two filters of the lines. -/

namespace Sys2Proof.Claims

open Machine State

variable {s u v : State}

/-! ## The junctor and the slot of a call -/

/-- Whether a junctor was freed is seen in the junctors, the holdoff order, the clock and the items alone. -/
theorem freed_congr {s' : State} {j : Option Junctor} (h : Freed s u j) (hj : v.sps.junctors = u.sps.junctors)
    (hh : v.sps.holdoffOrder = u.sps.holdoffOrder) (kj : s'.sps.junctors = s.sps.junctors)
    (kh : s'.sps.holdoffOrder = s.sps.holdoffOrder) (kc : s'.now = s.now) (ki : s'.items = s.items) : Freed s' v j := by
  unfold Freed at h ⊢
  rwa [hj, hh, kj, kh, kc, ki]

theorem freeJunctor_freed (s : State) (j : Junctor) : Freed s (s.freeJunctor j) (some j) := by
  simp only [Freed]
  split
  next hb => simp only [freeJunctor, hb]; simp
  next hf => simp [freeJunctor, hf]
  next hh => simp [freeJunctor, hh]

theorem freeOverflow_freed (s : State) (p : CallPhase) : Freed s (s.freeOverflow p) p.junctor := by
  cases p
  case offered o x j => exact freeJunctor_freed (s.setSlot o none) j
  case lentAlerting x j d => exact freeJunctor_freed s j
  case lentTalking x j a => exact freeJunctor_freed s j
  all_goals rfl

theorem freeOverflow_slot (s : State) (p : CallPhase) : ∀ o ∈ p.slot, (s.freeOverflow p).ofu.slots[o.val] = none := by
  cases p <;> simp [CallPhase.slot, freeOverflow]

theorem only_freeJunctor (s : State) (j : Junctor) : Only { junctors := [j], holdoffOrder := true } s (s.freeJunctor j) := by
  unfold freeJunctor
  split
  · exact (only_setJunctor s j _).trans (only_setHoldoffOrder _ _)
  · exact (Only.refl s).mono (by constructor <;> simp)

theorem only_freeOverflow (s : State) (p : CallPhase) :
    Only { slots := p.slot.toList, junctors := p.junctor.toList, holdoffOrder := true } s (s.freeOverflow p) := by
  cases p
  case offered o x j => exact (only_setSlot s o none).trans (only_freeJunctor _ j)
  case lentAlerting x j d => exact (only_freeJunctor s j).mono (by constructor <;> simp [CallPhase.junctor])
  case lentTalking x j a => exact (only_freeJunctor s j).mono (by constructor <;> simp [CallPhase.junctor])
  all_goals exact (Only.refl s).mono (by constructor <;> simp)

/-! ## The end of a call -/

theorem only_clearTrunk (s : State) (t : Trunk) : Only { orders := [.clear t], trunks := [t] } s (s.clearTrunk t) :=
  (only_issue s _).trans (only_setTrunkSup _ t _)

theorem endCall_eq {t : Trunk} {b : CallBody} (h : s.call t = some b) :
    s.endCall t =
      let u := (((s.clearTrunk t).freeOverflow b.phase).removeCall b.queue t).removeEntry t
      (u.setCall t ⟨u.cqm.calls[t].gen, none⟩).writeReport (s.callEndReport t b) := by
  simp only [endCall, h]

/-- A call ends, with the report that its phase calls for. -/
theorem endCall_ended {t : Trunk} {b : CallBody} (h : s.call t = some b) {outcome : CallOutcome} {waited talk : Nat}
    {party : Party} (hr : s.callEndReport t b =
      .callEnd t s.cqm.calls[t].gen b.queue outcome (min waited 65535) (min talk 65535) party b.recovered) :
    Ended s (s.endCall t) t b outcome waited talk party [] [.clear t] := by
  rw [endCall_eq h, hr]
  refine ⟨?_, ?_, ?_, ?_, fun o ho => ?_, ?_, ?_⟩
  · simp [clearTrunk, removeEntry, removeCall]
  · simp [clearTrunk, removeEntry, removeCall]
  · simp [clearTrunk]
  · simp [clearTrunk, removeEntry]
  · have freed := freeOverflow_slot (s.clearTrunk t) b.phase o ho
    simpa using freed
  · exact freed_congr (freeOverflow_freed (s.clearTrunk t) b.phase) (by simp) (by simp) (by simp) (by simp) (by simp [now])
      (by simp [items])
  · exact ((((((only_clearTrunk s t).trans (only_freeOverflow _ b.phase)).trans (only_removeCall _ b.queue t)).trans
      (only_removeEntry _ t)).trans (only_setCall _ t _)).trans (only_writeReport _ _)).mono
        (by constructor <;> simp [Change.and])

/-- A frame handed on before the call ends. -/
theorem Ended.after_give {t : Trunk} {b : CallBody} {outcome : CallOutcome} {waited talk : Nat} {party : Party} {x : Station}
    {p : Payload} {frames : List (Station × Payload)} {orders : List Order}
    (h : Ended (s.give x p) v t b outcome waited talk party frames orders) :
    Ended s v t b outcome waited talk party ((x, p) :: frames) orders := by
  obtain ⟨hc, hl, ht, hw, hs, hf, ho⟩ := h
  simp only [give_keeps, Fin.getElem_fin] at hc hl ht hw ho
  refine ⟨hc, hl, ht, hw, hs, ?_, ?_⟩
  · exact freed_congr hf rfl rfl (by simp) (by simp) (by simp [now]) (by simp [items])
  · exact ((only_give s x p).trans ho).mono (by constructor <;> simp [Change.and])

/-- An order issued before the call ends. -/
theorem Ended.after_issue {t : Trunk} {b : CallBody} {outcome : CallOutcome} {waited talk : Nat} {party : Party} {o : Order}
    {frames : List (Station × Payload)} {orders : List Order}
    (h : Ended (s.issue o) v t b outcome waited talk party frames orders) :
    Ended s v t b outcome waited talk party frames (o :: orders) := by
  obtain ⟨hc, hl, ht, hw, hs, hf, ho⟩ := h
  simp only [issue_keeps, Fin.getElem_fin] at hc hl ht hw ho
  refine ⟨hc, hl, ht, hw, hs, ?_, ?_⟩
  · exact freed_congr hf rfl rfl (by simp) (by simp) (by simp [now]) (by simp [items])
  · exact ((only_issue s o).trans ho).mono (by constructor <;> simp [Change.and])

/-! ## A place in a list -/

/-- What stands ahead depends on the priorities, the arrivals and the clock. -/
theorem standsAhead_congr (hn : v.now = u.now)
    (hc : ∀ t, (v.call t).map (fun b => (b.priority, b.arrival)) = (u.call t).map (fun b => (b.priority, b.arrival)))
    (a b : Trunk) : v.standsAhead a b = u.standsAhead a b := by
  have ha := hc a
  have hb := hc b
  cases hua : u.call a with
  | none =>
    have hva : v.call a = none := by simpa [hua] using ha
    simp only [standsAhead, hua, hva]
  | some x =>
    obtain ⟨x', hva, hpx, hax⟩ : ∃ x', v.call a = some x' ∧ x'.priority = x.priority ∧ x'.arrival = x.arrival := by
      simpa [hua] using ha
    cases hub : u.call b with
    | none =>
      have hvb : v.call b = none := by simpa [hub] using hb
      simp only [standsAhead, hua, hva, hub, hvb]
    | some y =>
      obtain ⟨y', hvb, hpy, hay⟩ : ∃ y', v.call b = some y' ∧ y'.priority = y.priority ∧ y'.arrival = y.arrival := by
        simpa [hub] using hb
      simp only [standsAhead, hua, hva, hub, hvb, ahead, hpx, hax, hpy, hay, hn]

theorem takeWhile_insert {α : Type} (p : α → Bool) (l : List α) (a : α) :
    ∃ n ≤ l.length, l.takeWhile (fun x => !p x) ++ a :: l.dropWhile (fun x => !p x) = l.take n ++ a :: l.drop n ∧
      (∀ x ∈ l.take n, p x = false) ∧ ∀ x ∈ l[n]?, p x = true := by
  induction l with
  | nil => exact ⟨0, le_rfl, rfl, by simp, by simp⟩
  | cons x l ih =>
    cases hx : p x with
    | true => exact ⟨0, Nat.zero_le _, by simp [hx], by simp, by simpa using hx⟩
    | false =>
      obtain ⟨n, hn, he, hb, ha⟩ := ih
      refine ⟨n + 1, Nat.succ_le_succ hn, by simpa [hx] using he, ?_, by simpa using ha⟩
      simpa [hx] using hb

theorem inserted_of {q : QueueNo} {t : Trunk} (hl : u.cqm.lists[q] = s.cqm.lists[q])
    (hv : v.cqm.lists[q] = (u.insertCall q t).cqm.lists[q]) (ha : ∀ x, v.standsAhead t x = u.standsAhead t x) :
    Inserted s v q t := by
  obtain ⟨n, hn, he, hb, hs⟩ := takeWhile_insert (u.standsAhead t) u.cqm.lists[q] t
  unfold Inserted
  rw [← hl, hv]
  refine ⟨n, hn, ?_, fun x hx => (ha x).trans (hb x hx), fun x hx => (ha x).trans (hs x hx)⟩
  simpa [insertCall] using he

/-- A new body with the same priority and arrival changes no precedence. -/
theorem modifyCall_standsAhead (s : State) (t : Trunk) (f : CallBody → CallBody)
    (hf : ∀ b, (f b).priority = b.priority ∧ (f b).arrival = b.arrival) (a b : Trunk) :
    (s.modifyCall t f).standsAhead a b = s.standsAhead a b := by
  refine standsAhead_congr (u := s) (v := s.modifyCall t f) rfl (fun x => ?_) a b
  unfold call
  by_cases hx : x = t
  · subst hx
    cases hb : s.cqm.calls[x.val].body <;> simp [hb, hf]
  · simp [getElem_set_other _ _ hx]

/-! ## The return of a call to its queue -/

/-- A call that is put back at its place: QUEUED, on its programme's music, out of the waiting list. -/
theorem requeue_places {q : QueueNo} {t : Trunk} {b : CallBody} (h : s.call t = some b) :
    let m := ((s.insertCall q t).removeEntry t).sourceToMusic t
    m.cqm.calls[t.val] =
        ⟨s.cqm.calls[t.val].gen, some { b with source := some (musicChannel b.programme), waiting := false }⟩ ∧
      Inserted s m q t ∧ m.htu.waiting = s.htu.waiting.filter (fun e => e.trunk ≠ t) ∧
      Only { calls := [t], lists := [q], waiting := true } s m := by
  have body : s.cqm.calls[t.val].body = some b := h
  refine ⟨?_, inserted_of rfl ?_ fun x => ?_, ?_, ?_⟩
  · simp [sourceToMusic, removeEntry, insertCall, body]
  · simp [sourceToMusic, removeEntry]
  · simp only [sourceToMusic, removeEntry]
    rw [modifyCall_standsAhead _ _ _ (by simp), modifyCall_standsAhead _ _ _ (by simp)]
    exact standsAhead_congr rfl (fun _ => rfl) t x
  · simp [sourceToMusic, removeEntry]
  · exact (((only_insertCall s q t).trans (only_removeEntry _ t)).trans (only_modifyCall _ t _)).mono
      (by constructor <;> simp [Change.and])

theorem inserted_congr {q : QueueNo} {t : Trunk} (h : Inserted u v q t) (hl : u.cqm.lists[q] = s.cqm.lists[q]) :
    Inserted s v q t := by
  unfold Inserted at h ⊢
  rwa [← hl]

/-- A ringing or lent call comes back (R31 to R33): a lent call that was answered with the recovery mark. -/
theorem returnCall_returned {t : Trunk} {b : CallBody} (h : s.call t = some b)
    (hp : (∃ p, b.phase = .alerting p) ∨ (∃ x j d, b.phase = .lentAlerting x j d) ∨ ∃ x j a, b.phase = .lentTalking x j a) :
    Returned s (s.returnCall t) t b := by
  have body : s.cqm.calls[t.val].body = some b := h
  have no_slot : b.phase.slot = none := by
    obtain ⟨p, hp⟩ | ⟨x, j, d, hp⟩ | ⟨x, j, a, hp⟩ := hp <;> rw [hp] <;> rfl
  have placed (f : CallBody → CallBody) (hq : (f b).queue = b.queue) (hpr : (f b).programme = b.programme)
      (hf : { f b with source := some (musicChannel (f b).programme), waiting := false } =
        { b with
          phase := .queued
          priority := if b.phase.answer.isSome then 3 else b.priority
          recovered := b.phase.answer.isSome || b.recovered
          source := some (musicChannel b.programme)
          waiting := false }) :
      Returned s (((s.freeOverflow b.phase).modifyCall t f).requeue b.queue t) t b := by
    have new : ((s.freeOverflow b.phase).modifyCall t f).call t = some (f b) := by
      simp [State.call, body]
    obtain ⟨hc, hi, hw, ho⟩ := requeue_places (q := b.queue) new
    refine ⟨_, ⟨?_, ?_, ?_, ?_, ?_⟩, matchCall_matched _ t⟩
    · rw [← hf]
      simpa using hc
    · exact inserted_congr hi (by simp)
    · exact freed_congr (freeOverflow_freed s b.phase) (by simp) (by simp) rfl rfl rfl rfl
    · simpa using hw
    · exact (((only_freeOverflow s b.phase).trans (only_modifyCall _ t f)).trans ho).mono
        (by constructor <;> simp [Change.and, no_slot])
  obtain ⟨p, hp⟩ | ⟨x, j, d, hp⟩ | ⟨x, j, a, hp⟩ := hp
  · have e : s.returnCall t = ((s.freeOverflow b.phase).setPhase t .queued).requeue b.queue t := by
      simp only [returnCall, h, hp]
    rw [e]
    exact placed _ rfl rfl (by simp [hp, CallPhase.answer])
  · have e : s.returnCall t = ((s.freeOverflow b.phase).setPhase t .queued).requeue b.queue t := by
      simp only [returnCall, h, hp]
    rw [e]
    exact placed _ rfl rfl (by simp [hp, CallPhase.answer])
  · have e : s.returnCall t = ((s.freeOverflow b.phase).modifyCall t fun c =>
        { c with phase := .queued, priority := 3, recovered := true }).requeue b.queue t := by
      simp only [returnCall, h, hp]
    rw [e]
    exact placed _ rfl rfl (by simp [hp, CallPhase.answer])

/-! ## A ring given up -/

theorem issue_call (s : State) (o : Order) (t : Trunk) : (s.issue o).call t = s.call t := by simp [State.call]

theorem outOfService_call (s : State) (p : Position) (t : Trunk) : (s.outOfService p).call t = s.call t := by
  simp [State.call]

theorem reportAgent_call (s s0 : State) (p : Position) (c : AgentCause) (t : Trunk) :
    (s.reportAgent s0 p c).call t = s.call t := by
  simp [State.call]

theorem bounceGuest_eq {g : GuestNo} {r : GuestRec} (h : s.ofu.guests[g] = some r) (c : BounceCause) :
    s.bounceGuest g c = (s.give r.origin (.bounce r.tag c)).setGuest g none := by
  simp only [bounceGuest, h]

/-- A ring is given up (R30, R31, R54): the agent goes out of service, and the call comes back or the guest bounces. -/
theorem giveUp_givenUp (s s0 : State) (p : Position) {bound : Bound} (cause : AgentCause) (bounce : BounceCause)
    (hc : ∀ t, bound = .call t → ∃ b ∈ s.call t, b.phase = .alerting p) (hg : ∀ g, bound = .guest g → s.ofu.guests[g] ≠ none) :
    GivenUp s (s.giveUp s0 p bound cause bounce) s0 p bound cause bounce := by
  refine ⟨_, _, outOfService_spec _ p, reportAgent_reported _ s0 p cause, ?_⟩
  cases bound with
  | call t =>
    obtain ⟨b, hb, hp⟩ := hc t rfl
    refine ⟨b, hb, returnCall_returned ?_ (.inl ⟨p, hp⟩)⟩
    rw [reportAgent_call, outOfService_call, issue_call]
    exact hb
  | guest g =>
    obtain ⟨r, hr⟩ := Option.ne_none_iff_exists'.1 (hg g rfl)
    refine ⟨r, hr, bounceGuest_eq ?_ bounce⟩
    simpa using hr

end Sys2Proof.Claims

namespace Sys2Proof.Proofs

open Machine Claims

/-- A caller release in every phase of the record (R34 to R36, R39). -/
theorem callerRelease_spec (m s0 : State) (t : Trunk) {b : CallBody} (h : m.call t = some b) :
    let v := m.callerRelease s0 t
    let tag : Tag := ⟨t, m.cqm.calls[t].gen⟩
    let whole := elapsed b.arrival m.now
    match b.phase with
    | .queued => Ended m v t b .abandoned whole 0 .none [] [.clear t]
    | .offered _ x _ => Ended m v t b .abandoned whole 0 (.peer x) [(x, .withdraw tag)] [.clear t]
    | .alerting p =>
      ∃ n k, Ended m n t b .abandoned whole 0 (.agent p) [] [.stopRing p, .clear t] ∧ TookPending n k p ∧
        AgentReported k v s0 p .callGone
    | .talking p a =>
      ∃ n k, Ended m n t b .answeredLocal (elapsed b.arrival a) (elapsed a m.now) (.agent p) [] [.clear t] ∧
        WrapOpened n k p b.queue (elapsed a m.now) ∧ AgentReported k v s0 p .wrapEnd
    | .lentAlerting x _ _ => Ended m v t b .abandoned whole 0 (.peer x) [(x, .release tag .callerGone)] [.clear t]
    | .lentTalking x _ a =>
      Ended m v t b .answeredPeer (elapsed b.arrival a) (elapsed a m.now) (.peer x) [(x, .release tag .callerGone)]
        [.clear t] := by
  have given (x : Station) (c : Payload) : (m.give x c).call t = some b := by simpa [State.call] using h
  unfold State.callerRelease
  simp only [h]
  cases hp : b.phase with
  | queued => exact endCall_ended h (by simp [State.callEndReport, hp, clamp16])
  | offered o x j =>
    exact (endCall_ended (given _ _) (by simp [State.callEndReport, hp, clamp16, State.now])).after_give
  | alerting p =>
    refine ⟨_, _, (endCall_ended ?_ ?_).after_issue, takePending_tookPending _ p, reportAgent_reported _ s0 p _⟩
    · rw [issue_call, h]
    · simp [State.callEndReport, hp, clamp16, State.now]
  | talking p a =>
    exact ⟨_, _, endCall_ended h (by simp [State.callEndReport, hp, clamp16]), openWrap_wrapOpened _ p _ _,
      reportAgent_reported _ s0 p _⟩
  | lentAlerting x j d =>
    exact (endCall_ended (given _ _) (by simp [State.callEndReport, hp, clamp16, State.now])).after_give
  | lentTalking x j a =>
    exact (endCall_ended (given _ _) (by simp [State.callEndReport, hp, clamp16, State.now])).after_give

theorem disconnectReached_of {s : State} {t : Trunk} {a : Stamp} (ha : s.lsi.trunks[t].filterStart = some a) :
    s.disconnectReached t = decide (s.items.disconnectFilter ≤ elapsed a s.now) := by
  rw [State.disconnectReached, ha]

theorem headsetReached_of {s : State} {p : Position} {a : Stamp} (ha : s.lsi.positions[p].filterStart = some a) :
    s.headsetReached p = decide (s.items.headsetFilter ≤ elapsed a s.now) := by
  rw [State.headsetReached, ha]

/-- Settles O24: the caller release in each phase of the record, by the rules of the call and of its agent. -/
theorem disconnectFilterExpires : Obligations.DisconnectFilterExpires := by
  intro s t m tag
  refine ⟨fun a ha reached => ⟨m.callerRelease s t, ?_, ?_⟩, fun early => ?_⟩
  · have due : s.disconnectReached t = true := (disconnectReached_of ha).trans (decide_eq_true reached)
    exact congrArg _ (if_pos due)
  · cases hc : s.call t with
    | none => simp only [State.callerRelease, show m.call t = none from hc]
    | some b => exact callerRelease_spec m s t hc
  · have idle : ¬s.disconnectReached t = true := by
      cases ha : s.lsi.trunks[t].filterStart with
      | none => simp only [State.disconnectReached, ha, Bool.false_eq_true, not_false_eq_true]
      | some a => simpa [disconnectReached_of ha] using early a ha
    exact congrArg _ (if_neg idle)

/-- The headset loss in every state of the agent (TABLE 3-3); `u` is the part with the filter ended. -/
theorem headsetLoss_spec (u s0 : State) (p : Position)
    (ringing : ∀ t d, u.duty p = some (.alerting (.call t) d) → ∃ b ∈ u.call t, b.phase = .alerting p)
    (bound : ∀ g d, u.duty p = some (.alerting (.guest g) d) ∨ u.duty p = some (.reserved g) → u.ofu.guests[g] ≠ none) :
    let a := u.dsu.agents[p]
    let m := u.setAgent p { a with headset := .absent }
    let v := u.headsetLoss s0 p
    match u.duty p with
    | none | some .notReady => v = m
    | some (.ready _) => ∃ n, StoodDown m n p ∧ AgentReported n v s0 p .headsetLoss
    | some (.reserved g) =>
      ∃ r ∈ u.ofu.guests[g], ∃ n k, OutOfService m n p ∧ AgentReported n k s0 p .headsetLoss ∧
        v = (k.give r.origin (.bounce r.tag .agentLost)).setGuest g none
    | some (.alerting bound _) => GivenUp m v s0 p bound .headsetLoss .agentLost
    | some (.talking _) | some (.wrapup _) =>
      v = m.setAgent p
        { a with
          headset := .absent
          pendingAction := if a.pendingAction = .signOff then .signOff else .notReady } := by
  intro a m v
  have pending (x : PendingAction) : State.lossPending x = if x = .signOff then .signOff else .notReady := by cases x <;> rfl
  have kept : m.setPendingAction p (State.lossPending a.pendingAction) = m.setAgent p
      { a with headset := .absent, pendingAction := if a.pendingAction = .signOff then .signOff else .notReady } := by
    simp [State.setPendingAction, m, pending]
  cases hd : u.duty p with
  | none => simp only [v, State.headsetLoss, hd]; rfl
  | some d =>
    cases d with
    | notReady => simp only [v, State.headsetLoss, hd]; rfl
    | ready since =>
      have e : v = (m.toNotReady p).reportAgent s0 p .headsetLoss := by simp only [v, State.headsetLoss, hd]; rfl
      rw [e]
      exact ⟨_, toNotReady_stoodDown m p, reportAgent_reported _ s0 p _⟩
    | reserved g =>
      have e : v = ((m.outOfService p).reportAgent s0 p .headsetLoss).bounceGuest g .agentLost := by
        simp only [v, State.headsetLoss, hd]; rfl
      rw [e]
      obtain ⟨r, hr⟩ := Option.ne_none_iff_exists'.1 (bound g 0 (.inr hd))
      exact ⟨r, hr, _, _, outOfService_spec m p, reportAgent_reported _ s0 p _, bounceGuest_eq (by simpa [m] using hr) _⟩
    | alerting b d =>
      have e : v = m.giveUp s0 p b .headsetLoss .agentLost := by simp only [v, State.headsetLoss, hd]; rfl
      rw [e]
      exact giveUp_givenUp m s0 p _ _ (fun t e => ringing t d (e ▸ hd)) fun g e => bound g d (.inl (e ▸ hd))
    | talking b => rw [← kept]; simp only [v, State.headsetLoss, hd]; rfl
    | wrapup w => rw [← kept]; simp only [v, State.headsetLoss, hd]; rfl

/-- Settles O25: the loss in each duty of the agent; a ringing or reserved one gives up its call by `giveUp_givenUp`. -/
theorem headsetFilterExpires : Obligations.HeadsetFilterExpires := by
  intro s p a m
  refine ⟨fun f hf reached ringing bound => ⟨s.headsetExpiry p, ?_, ?_⟩, fun early => ?_⟩
  · have due : s.headsetReached p = true := (headsetReached_of hf).trans (decide_eq_true reached)
    exact congrArg _ (if_pos due)
  · exact headsetLoss_spec (s.setPositionSup p _) s p ringing bound
  · have idle : ¬s.headsetReached p = true := by
      cases hf : s.lsi.positions[p].filterStart with
      | none => simp only [State.headsetReached, hf, Bool.false_eq_true, not_false_eq_true]
      | some f => simpa [headsetReached_of hf] using early f hf
    exact congrArg _ (if_neg idle)

end Sys2Proof.Proofs
end

section
/-! PROOF. The reports of the scanner, the end of the start sweep, and an admitted seizure. -/

namespace Sys2Proof.Machine

namespace State

variable (s : State)

/-! ## A trunk's lines do not matter to the match attempt, the start check and the grant -/

variable (t : Trunk) (x : TrunkSup)

theorem setTrunkSup_issue (o : Order) : (s.setTrunkSup t x).issue o = (s.issue o).setTrunkSup t x := by
  have orders : (s.setTrunkSup t x).lsi.orders = s.lsi.orders := rfl
  have mode : (s.setTrunkSup t x).running = s.running := rfl
  simp only [issue, orders, mode]
  split
  · rfl
  · split <;> rfl

theorem setTrunkSup_writeReport (r : Report) : (s.setTrunkSup t x).writeReport r = (s.writeReport r).setTrunkSup t x := by
  have fifo : (s.setTrunkSup t x).mpi.fifo = s.mpi.fifo := rfl
  simp only [writeReport, fifo]
  split <;> rfl

theorem setTrunkSup_ringForCall (p : Position) (c : Trunk) :
    (s.setTrunkSup t x).ringForCall p c = (s.ringForCall p c).setTrunkSup t x := by
  have call : (s.setTrunkSup t x).call c = s.call c := rfl
  cases hc : s.call c with
  | none => simp only [ringForCall, call, hc]
  | some b =>
    have ring : (s.setTrunkSup t x).ringAgent p (.call c) = (s.ringAgent p (.call c)).setTrunkSup t x :=
      setTrunkSup_issue ((s.leaveIdle p).setDuty p _) t x (.ring p)
    simp only [ringForCall, call, hc, ring]
    rfl

theorem setTrunkSup_chooseAgent (q : QueueNo) :
    (s.setTrunkSup t x).chooseAgent q = (s.chooseAgent q).map fun a => (a.1, a.2.setTrunkSup t x) := by
  have policy : (s.setTrunkSup t x).queueItems q = s.queueItems q := rfl
  have idle : (s.setTrunkSup t x).idle q = s.idle q := rfl
  have list : (s.setTrunkSup t x).dsu = s.dsu := rfl
  simp only [chooseAgent, policy, idle, list]
  split <;> rw [Option.map_map] <;> rfl

theorem setTrunkSup_matchCall (c : Trunk) : (s.setTrunkSup t x).matchCall c = (s.matchCall c).setTrunkSup t x := by
  have call : (s.setTrunkSup t x).call c = s.call c := rfl
  cases hc : s.call c with
  | none => simp only [matchCall, call, hc]
  | some b =>
    cases ha : s.chooseAgent b.queue with
    | none => simp only [matchCall, call, hc, setTrunkSup_chooseAgent, ha, Option.map_none]
    | some a => simp only [matchCall, call, hc, setTrunkSup_chooseAgent, ha, Option.map_some, setTrunkSup_ringForCall]

theorem setTrunkSup_refuseClip (k : Clip) : (s.setTrunkSup t x).refuseClip k = (s.refuseClip k).setTrunkSup t x := by
  have fold (l : List Trunk) (u : State) :
      l.foldl (fun u t => u.modifyCall t fun b => { b with waiting := false, nextDue := u.freshDue b.queue }) (u.setTrunkSup t x) =
        (l.foldl (fun u t => u.modifyCall t fun b => { b with waiting := false, nextDue := u.freshDue b.queue })
          u).setTrunkSup t x := by
    induction l generalizing u with
    | nil => rfl
    | cons c l ih => exact ih (u.modifyCall c fun b => { b with waiting := false, nextDue := u.freshDue b.queue })
  exact fold _ (s.dropEntries k)

theorem setTrunkSup_startCheck (n : Nat) : (s.setTrunkSup t x).startCheck n = (s.startCheck n).setTrunkSup t x := by
  induction n generalizing s with
  | zero => rfl
  | succ n ih =>
    have startable : (s.setTrunkSup t x).startable = s.startable := rfl
    have idle : (s.setTrunkSup t x).idleAnnouncement = s.idleAnnouncement := rfl
    have started (c : Channel) (k : Clip) :
        (s.setTrunkSup t x).startAnnouncement c k = (s.startAnnouncement c k).setTrunkSup t x := by
      have entry : (s.setTrunkSup t x).clipEntry k = s.clipEntry k := rfl
      have fault : (s.setTrunkSup t x).storeFault c k .invalidClip = (s.storeFault c k .invalidClip).setTrunkSup t x :=
        setTrunkSup_writeReport (s.setChannel c _) t x _
      simp only [startAnnouncement, entry, fault, setTrunkSup_refuseClip]
      split <;> rfl
    simp only [startCheck, startable, idle, started]
    split
    · exact ih _
    · rfl

theorem setTrunkSup_grant : (s.setTrunkSup t x).grant = s.grant.setTrunkSup t x := by
  have pbc : (s.setTrunkSup t x).pbc = s.pbc := rfl
  cases hp : s.pbc.port with
  | some f => simp only [grant, pbc, hp]
  | none =>
    cases hc : (List.finRange 6).find? fun c => s.pbc.channels[c].requests with
    | none => simp only [grant, pbc, hp, hc]
    | some c =>
      cases hr : s.pbc.channels[c].state.run <;> simp only [grant, pbc, hp, hc, hr]
      rfl

end State
end Sys2Proof.Machine

namespace Sys2Proof.Proofs

open Machine Claims

/-! ## An admitted seizure -/

/-- The record of an admitted seizure (R19, R115). -/
def admitted (s : State) (e : ServiceEntry) : CallBody where
  phase := .queued
  queue := e.queue
  priority := e.priority
  programme := e.programme
  arrival := s.now
  recovered := false
  source := some (musicChannel e.programme)
  nextDue := s.freshDue e.queue
  waiting := false

/-- The record in its list, before the match attempt. -/
def enqueued (s : State) (t : Trunk) (e : ServiceEntry) : State :=
  (s.setCall t ⟨s.cqm.calls[t].gen + 1, some (admitted s e)⟩).insertCall e.queue t

/-- The seizure's record, its place, its hold and its loop; then the match attempt, the start check and the grant. -/
theorem admitSeize_loopSeized (s : State) (t : Trunk) (e : ServiceEntry) :
    (s.admitSeize t e).loopSeized t =
      match (s.queueItems e.queue).initialClip with
      | none => ((enqueued s t e).setTrunkSup t (seized s.lsi.trunks[t])).matchCall t
      | some k =>
        (((((enqueued s t e).joinWaiting t k).setTrunkSup t (seized s.lsi.trunks[t])).matchCall t).startCheck 35).grant := by
  have loop (u : State) (h : u.lsi.trunks = s.lsi.trunks) : u.loopSeized t = u.setTrunkSup t (seized s.lsi.trunks[t]) := by
    rw [State.loopSeized, h]
    rfl
  unfold State.admitSeize
  cases (s.queueItems e.queue).initialClip with
  | none =>
    simp only [State.setTrunkSup_matchCall]
    exact loop _ (by simp)
  | some k =>
    simp only [State.setTrunkSup_matchCall, State.setTrunkSup_startCheck, State.setTrunkSup_grant]
    exact loop _ (by simp)

theorem enqueued_inserted (s : State) (t : Trunk) (e : ServiceEntry) : Inserted s (enqueued s t e) e.queue t :=
  inserted_of (u := s.setCall t ⟨s.cqm.calls[t].gen + 1, some (admitted s e)⟩) rfl rfl
    fun x => standsAhead_congr rfl (fun _ => rfl) t x

theorem only_enqueued (s : State) (t : Trunk) (e : ServiceEntry) : Only { calls := [t], lists := [e.queue] } s (enqueued s t e) :=
  (only_setCall s t _).trans (only_insertCall _ e.queue t)

/-- Settles O22: the record is placed, its hold opened, then matched; each stage says what it alone changes. -/
theorem seizuresAreAdmitted : Obligations.SeizuresAreAdmitted := by
  rintro s t k ⟨run, opened⟩ e items free valid depth
  have taken : s.takeCharRun (.seize t k) = (s.admitSeize t e).loopSeized t := by
    have room : ¬(s.queueItems (s.mpi.image.services[k]).queue).depthLimit ≤
        s.cqm.lists[(s.mpi.image.services[k]).queue].length := Nat.not_le.2 depth
    have is_valid : (s.mpi.image.services[k]).valid = true := valid
    simp only [State.takeCharRun, State.takeSeize, free, is_valid, if_neg room, Bool.not_true, Bool.false_eq_true, if_false]
    rfl
  have row : exec (.seize (byte t.val) (byte k.val)) s = .next (((s.admitSeize t e).loopSeized t).close s) := by
    rw [exec_seize opened, scanComplete_seize, takeScan_run run, taken]
  rw [row, admitSeize_loopSeized]
  have placed := enqueued_inserted s t e
  have due : s.freshDue e.queue = if items.annInterval = 0 then .never else .at (deadline s.now items.annInterval) := rfl
  cases hk : (s.queueItems e.queue).initialClip with
  | none =>
    refine ⟨(enqueued s t e).setTrunkSup t (seized s.lsi.trunks[t]), _, ⟨?_, placed, ?_, ?_, ?_⟩, matchCall_matched _ t, ?_⟩
    · simp [enqueued, State.insertCall, admitted, due]
    · simp [enqueued]
    · simp [enqueued]
    · exact ((only_enqueued s t e).trans (only_setTrunkSup _ t _)).mono (by constructor <;> simp [Change.and])
    · simp
  | some clip =>
    refine ⟨((enqueued s t e).joinWaiting t clip).setTrunkSup t (seized s.lsi.trunks[t]), _, ⟨?_, ?_, ?_, ?_, ?_⟩,
      matchCall_matched _ t, ?_⟩
    · simp [enqueued, State.insertCall, State.joinWaiting, admitted, due]
    · refine inserted_of (u := s.setCall t ⟨s.cqm.calls[t].gen + 1, some (admitted s e)⟩) rfl ?_ fun x => ?_
      · simp [enqueued, State.joinWaiting]
      · have joined := modifyCall_standsAhead ((enqueued s t e).setWaiting (s.htu.waiting ++ [⟨t, clip⟩])) t
          (fun b => { b with waiting := true }) (by simp) t x
        exact (standsAhead_congr rfl (fun _ => rfl) t x).trans
          (joined.trans (standsAhead_congr rfl (fun _ => rfl) t x))
    · simp [enqueued]
    · simp [enqueued, State.joinWaiting]
    · exact (((only_enqueued s t e).trans (only_joinWaiting _ t clip)).trans (only_setTrunkSup _ t _)).mono
        (by constructor <;> simp [Change.and])
    · simp

end Sys2Proof.Proofs
end

section
/-! PROOF. The reports of the scanner and the end of the start sweep. -/

namespace Sys2Proof.Proofs

open Machine Claims

/-! ## A loop report (R9, TABLE 1-8) -/

theorem loopTaken_eq (x : TrunkSup) (free : Bool) (r : LoopState) (now : Stamp) :
    State.loopTaken x free r now =
      if x.raw = r then { x with reported := true }
      else if free then ⟨r, r, x.filterStart, true⟩
      else
        match r with
        | .opened =>
          ⟨.opened, x.filtered, if x.filtered = .closed ∧ x.filterStart = none then some now else x.filterStart, true⟩
        | .closed => ⟨.closed, if x.filterStart = none then .closed else x.filtered, none, true⟩ := by
  obtain ⟨raw, filtered, start, reported⟩ := x
  unfold State.loopTaken
  split
  · rfl
  · split
    · rfl
    · cases r <;> cases filtered <;> cases start <;> rfl

theorem takeLoop_eq (s : State) (r : LoopState) (t : Trunk) :
    s.takeLoop r t = s.setTrunkSup t
      (if s.lsi.unreported ∧ s.lsi.trunks[t].reported = false then ⟨r, r, none, true⟩
        else State.loopTaken s.lsi.trunks[t] (s.call t).isNone r s.now) := by
  simp only [State.takeLoop, Bool.and_eq_true, Bool.not_eq_true']
  split <;> rfl

/-! ## A headset report (R11, TABLE 1-9, R55) -/

/-- The position after a headset report (TABLE 1-9). -/
def headsetTaken (x : PositionSup) (first : Prop) [Decidable first] (r : HeadsetState) (now : Stamp) : PositionSup :=
  if first then ⟨r, r, none, true⟩
  else if x.raw = r then { x with reported := true }
  else
    match r with
    | .absent =>
      ⟨.absent, x.filtered, if x.filtered = .present ∧ x.filterStart = none then some now else x.filterStart, true⟩
    | .present => ⟨.present, if x.filterStart = none then .present else x.filtered, none, true⟩

/-- Whether the filtered headset becomes PRESENT by a report. -/
abbrev headsetComesBack (x : PositionSup) (first : Prop) (r : HeadsetState) : Prop :=
  r = .present ∧ (first ∨ (x.raw ≠ .present ∧ x.filterStart = none))

/-- A headset report writes the position, and the agent's flag where the headset is back. -/
theorem takeHeadset_eq (s : State) (r : HeadsetState) (p : Position) {first : Prop} [Decidable first]
    (hf : (s.lsi.unreported && !s.lsi.positions[p].reported) = true ↔ first) :
    s.takeHeadset r p =
      let u := s.setPositionSup p (headsetTaken s.lsi.positions[p] first r s.now)
      if headsetComesBack s.lsi.positions[p] first r then u.headsetReturn p else u := by
  by_cases is_first : first
  · simp only [State.takeHeadset, hf, headsetTaken, headsetComesBack, is_first, if_true, true_or, and_true]
    cases r <;> rfl
  · simp only [State.takeHeadset, hf, headsetTaken, headsetComesBack, is_first, if_false, false_or]
    generalize s.lsi.positions[p] = x
    obtain ⟨raw, filtered, start, reported⟩ := x
    by_cases same : raw = r
    · subst same
      simp +contextual
    · cases r with
      | absent =>
        simp only [same, if_false, reduceCtorEq, false_and]
        cases filtered <;> cases start <;> rfl
      | present =>
        simp only [same, if_false, true_and, not_false_eq_true, ne_eq]
        cases start <;> rfl

theorem only_headsetReturn (s : State) (p : Position) : Only { agents := [p] } s (s.headsetReturn p) := only_setAgent s p _

/-! ## The end of the start sweep (R16) -/

/-- How many marks are clear. -/
def lateMarks (l : Lsi) : Nat :=
  (List.finRange 32).countP (fun t : Trunk => !l.trunks[t].reported) +
    (List.finRange 24).countP fun p : Position => !l.positions[p].reported

theorem unreported_iff (l : Lsi) : l.unreported = true ↔ 0 < lateMarks l := by
  simp only [Lsi.unreported, lateMarks, Bool.or_eq_true, List.any_eq_true, Nat.add_pos_iff_pos_or_pos, List.countP_pos_iff]

theorem only_endSweep (s : State) :
    Only { trunks := List.finRange 32, positions := List.finRange 24, scanErrors := true } s s.endSweep := by
  simp [Only, State.endSweep]

theorem endSweep_spec (s : State) (run : s.running = true) (now : s.now = 2) (late : 0 < lateMarks s.lsi) :
    ∃ v, exec .startSweepEnd s = .next (v.close s) ∧
      (∀ t : Trunk, v.lsi.trunks[t] = { s.lsi.trunks[t] with reported := true }) ∧
      (∀ p : Position, v.lsi.positions[p] = { s.lsi.positions[p] with reported := true }) ∧
      v.lsi.scanErrors = min (s.lsi.scanErrors + lateMarks s.lsi) 65535 ∧
      Only { trunks := List.finRange 32, positions := List.finRange 24, scanErrors := true } s v := by
  refine ⟨s.endSweep, ?_, fun t => by simp [State.endSweep], fun p => by simp [State.endSweep], rfl, only_endSweep s⟩
  have due : (s.running && s.sweepReached) = true := by
    simp [State.sweepReached, run, now, (unreported_iff s.lsi).2 late]
  exact congrArg _ (if_pos due)

/-- Settles O23: the loop and headset reports case by case, and the end of the sweep as one write of all marks. -/
theorem scannerReportsAndSweepAreTaken : Obligations.ScannerReportsAndSweepAreTaken := by
  refine ⟨⟨fun s r t ⟨run, opened⟩ => ?_, fun s r b p ⟨run, opened⟩ names => ?_⟩, fun s => ⟨endSweep_spec s, fun idle => ?_⟩⟩
  · refine ⟨s.takeLoop r t, ?_, ?_, ?_⟩
    · rw [exec_loop opened, scanComplete_loop, takeScan_run run]
      rfl
    · simp only [takeLoop_eq, loopTaken_eq, Option.isNone_iff_eq_none]
      exact Vector.getElem_set_self t.isLt
    · rw [takeLoop_eq]
      exact only_setTrunkSup s t _
  · have shape := takeHeadset_eq s r p (first := s.lsi.unreported ∧ s.lsi.positions[p].reported = false) (by simp)
    refine ⟨s.takeHeadset r p, ?_, ?_, ?_, ?_⟩
    · rw [exec_headset opened, scanComplete_headset r names, takeScan_run run]
      rfl
    all_goals
      rw [shape]
      by_cases back : headsetComesBack s.lsi.positions[p] (s.lsi.unreported ∧ s.lsi.positions[p].reported = false) r
    · rw [if_pos back]
      exact Vector.getElem_set_self p.isLt
    · rw [if_neg back]
      exact Vector.getElem_set_self p.isLt
    · rw [if_pos back, if_pos back]
      exact Vector.getElem_set_self p.isLt
    · rw [if_neg back, if_neg back]
      rfl
    · rw [if_pos back]
      exact (only_setPositionSup s p _).trans (only_headsetReturn _ p)
    · rw [if_neg back]
      exact (only_setPositionSup s p _).mono (by constructor <;> simp)
  · have not_due : ¬(s.running && s.sweepReached) = true := by
      simp only [Bool.and_eq_true, State.sweepReached, beq_iff_eq, unreported_iff]
      rintro ⟨run, some_late, now⟩
      rcases idle with stop | other | none_late
      · exact absurd run (by simp [stop])
      · exact other now
      · exact some_late.ne' none_late
    exact congrArg _ (if_neg not_due)

end Sys2Proof.Proofs
end

section
/-! PROOF. START: the order of the offending items, and what the start writes, block by block. -/

namespace Sys2Proof.Machine

/-! ## The offending items (R187) -/

/-- The items that break a relation of R187, by their numbers. -/
def Image.Offends (i : Image) (n : Nat) : Prop :=
  (n = 6 ∧ i.station.lentLimit ≤ i.station.ringLimit + i.station.connectLimit) ∨
  (n = 8 ∧ i.station.presenceLimit < 2 * i.station.availPeriod) ∨
  (∃ m : Programme, n = 16 + 2 * m.val ∧ i.clips[i.music[m].clip].valid = false) ∨
  ∃ q : QueueNo, n = 35 + 16 * q.val ∧ i.queues[q].wrapTime < i.queues[q].wrapMin

theorem mem_ite_singleton {p : Prop} [Decidable p] {a n : Nat} : n ∈ (if p then [a] else []) ↔ n = a ∧ p := by
  split <;> simp [*]

theorem Image.mem_offences (i : Image) (n : Nat) : n ∈ i.offences ↔ i.Offends n := by
  simp only [Image.offences, Image.Offends, List.mem_append, mem_ite_singleton, List.mem_map, List.mem_filter,
    List.mem_finRange, true_and, Bool.not_eq_true', decide_eq_true_eq, or_assoc]
  refine or_congr Iff.rfl (or_congr Iff.rfl (or_congr ?_ ?_)) <;>
    exact exists_congr fun a => ⟨fun ⟨h, e⟩ => ⟨e.symm, h⟩, fun ⟨e, h⟩ => ⟨h, e.symm⟩⟩

/-- The offending items stand in ascending order. -/
theorem Image.offences_ascend (i : Image) : i.offences.Pairwise (· < ·) := by
  have ascending {n : Nat} (p : Fin n → Bool) (a b : Nat) (hb : 0 < b) :
      (((List.finRange n).filter p).map fun c => a + b * c.val).Pairwise (· < ·) := by
    rw [List.pairwise_map]
    refine (List.pairwise_lt_finRange n |>.filter p).imp fun h => ?_
    exact Nat.add_lt_add_left (Nat.mul_lt_mul_of_pos_left h hb) a
  have single (p : Prop) [Decidable p] (a : Nat) : (if p then [a] else []).Pairwise (· < ·) := by
    split <;> simp
  unfold Image.offences
  rw [List.pairwise_append, List.pairwise_append, List.pairwise_append]
  refine ⟨⟨⟨single _ 6, single _ 8, ?_⟩, ascending _ 16 2 (by decide), ?_⟩, ascending _ 35 16 (by decide), ?_⟩
  · simp only [mem_ite_singleton]
    omega
  · simp only [List.mem_append, mem_ite_singleton, List.mem_map]
    rintro a (⟨rfl, -⟩ | ⟨rfl, -⟩) b ⟨c, -, rfl⟩ <;> omega
  · simp only [List.mem_append, mem_ite_singleton, List.mem_map]
    rintro a ((⟨rfl, -⟩ | ⟨rfl, -⟩) | ⟨c, -, rfl⟩) b ⟨d, -, rfl⟩ <;> omega

/-- The first offending item is the lowest. -/
theorem Image.offences_head {i : Image} {n : Nat} (h : i.Offends n) (low : ∀ k < n, ¬i.Offends k) :
    ∃ rest, i.offences = n :: rest := by
  have mem : n ∈ i.offences := (i.mem_offences n).2 h
  have ascend := i.offences_ascend
  have only_these (k : Nat) (hk : k ∈ i.offences) : n ≤ k := not_lt.1 fun lt => low k lt ((i.mem_offences k).1 hk)
  cases e : i.offences with
  | nil => rw [e] at mem; cases mem
  | cons a rest =>
    rw [e] at mem ascend only_these
    have first : n ≤ a := only_these a List.mem_cons_self
    rcases List.mem_cons.1 mem with rfl | later
    · exact ⟨rest, rfl⟩
    · exact absurd (List.rel_of_pairwise_cons ascend later) (Nat.not_lt.2 first)

theorem Image.offences_nil {i : Image} (h : ∀ n, ¬i.Offends n) : i.offences = [] :=
  List.eq_nil_iff_forall_not_mem.2 fun n hn => h n ((i.mem_offences n).1 hn)

/-! ## Elements written one after another -/

section Folds

variable {α ι : Type} {n : Nat} (g : ι → Fin n) (f : ι → α → α)

/-- Each of the elements that a list names is written once, from what stood there. -/
def setEach (v : Vector α n) (l : List ι) : Vector α n := l.foldl (fun v i => v.set (g i) (f i v[g i])) v

theorem setEach_other (v : Vector α n) (l : List ι) {j : Fin n} (h : ∀ i ∈ l, g i ≠ j) : (setEach g f v l)[j] = v[j] := by
  induction l generalizing v with
  | nil => rfl
  | cons i l ih =>
    refine (ih _ fun k hk => h k (List.mem_cons_of_mem _ hk)).trans ?_
    exact Claims.getElem_set_other v _ (h i List.mem_cons_self).symm

theorem setEach_get (v : Vector α n) (l : List ι) (hl : (l.map g).Nodup) {i : ι} (h : i ∈ l) {j : Fin n} (hj : g i = j) :
    (setEach g f v l)[j] = f i v[j] := by
  subst hj
  induction l generalizing v with
  | nil => cases h
  | cons k l ih =>
    obtain ⟨fresh, nodup⟩ := List.nodup_cons.1 hl
    rcases List.mem_cons.1 h with rfl | later
    · refine (setEach_other g f _ l fun m hm e => fresh ?_).trans (Vector.getElem_set_self (g i).isLt)
      exact e ▸ List.mem_map_of_mem hm
    · refine (ih _ nodup later).trans (congrArg _ ?_)
      refine Claims.getElem_set_other v _ fun e => fresh ?_
      exact e ▸ List.mem_map_of_mem later

end Folds

namespace State

variable (s : State)

/-! ## The blocks at START (R188) -/

/-- Orders that all find room. -/
theorem issues_room (l : List Order) (h : s.lsi.orders.length + l.length ≤ 64) :
    l.foldl issue s = s.setOrders (s.lsi.orders ++ l) := by
  induction l generalizing s with
  | nil => rw [List.append_nil]; rfl
  | cons o l ih =>
    have room : s.lsi.orders.length < 64 := by simp at h; omega
    have one : s.issue o = s.setOrders (s.lsi.orders ++ [o]) := if_pos room
    rw [List.foldl_cons, one, ih _ (by simp at h ⊢; omega)]
    simp [setOrders]

/-- The 57 orders of the start sweep (R15). -/
def sweepOrders : List Order := (List.finRange 32).map Order.clear ++ (List.finRange 24).map Order.stopRing ++ [Order.scanAll]

theorem startLines_eq :
    s.startLines = { s with lsi := { s.lsi with
      trunks := s.lsi.trunks.map fun x => { x with reported := false }
      positions := s.lsi.positions.map fun x => { x with reported := false }
      orders := s.lsi.orders.take 1 ++ sweepOrders } } := by
  unfold startLines
  extract_lets _ u
  have room : u.lsi.orders.length + sweepOrders.length ≤ 64 := by
    have one : u.lsi.orders.length ≤ 1 := List.length_take_le _ _
    have all : sweepOrders.length = 57 := by decide
    omega
  exact u.issues_room sweepOrders room

/-- The record of a queue that is seeded (R84). -/
def seeded (q : QueueNo) (r : EstRec) : EstRec := { r with aht16 := (s.queueItems q).ahtSeed * 16, pendingFlag := true }

theorem startEstimates_eq :
    s.startEstimates =
      { s with est := { s.est with recs := setEach id s.seeded s.est.recs (List.finRange 8) } } := by
  have fold (l : List QueueNo) (u : State) :
      l.foldl (fun u q => u.setEst q { u.est.recs[q] with aht16 := (s.queueItems q).ahtSeed * 16, pendingFlag := true }) u =
        { u with est := { u.est with recs := setEach id s.seeded u.est.recs l } } := by
    induction l generalizing u with
    | nil => rfl
    | cons q l ih => exact ih _
  exact fold _ s

/-- The record of a music channel that loads its clip (R101). -/
def loaded (i : Image) (m : Programme) (r : ChannelRec) : ChannelRec :=
  let k := i.music[m].clip
  let e := i.clips[k]
  { r with state := .loading ⟨k, e.page, e.offset, e.length, [], 0, false⟩, startNumber := r.startNumber + 1 }

theorem startMusic_eq :
    s.startMusic =
      grant { s with pbc := { s.pbc with
        channels := setEach musicChannel (loaded s.mpi.image) s.pbc.channels (List.finRange 4) } } := by
  have fold (l : List Programme) (u : State) (h : u.mpi.image = s.mpi.image) :
      l.foldl (fun u m => u.loadChannel (musicChannel m) s.mpi.image.music[m].clip) u =
        { u with pbc := { u.pbc with channels := setEach musicChannel (loaded s.mpi.image) u.pbc.channels l } } := by
    induction l generalizing u with
    | nil => rfl
    | cons m l ih =>
      rw [List.foldl_cons, ih _ (by simpa using h)]
      simp only [loadChannel, clipEntry, h]
      rfl
  unfold startMusic
  rw [fold _ s rfl]

/-- The part at START before the port is granted and a notice asked for. -/
def started : State :=
  { s with
    mpi := { s.mpi with mode := .run }
    clk := ⟨0, 0, 0⟩
    pbc := { s.pbc with
      channels := setEach musicChannel (loaded s.mpi.image) s.pbc.channels (List.finRange 4)
      blockFrameCount := 0
      boundariesDue := 0 }
    plc := { s.plc with onBus := if s.plc.onBus = .none then .none else .passedOver }
    est := { s.est with recs := setEach id s.seeded s.est.recs (List.finRange 8) }
    lsi := { s.lsi with
      trunks := s.lsi.trunks.map fun x => { x with reported := false }
      positions := s.lsi.positions.map fun x => { x with reported := false }
      orders := s.lsi.orders.take 1 ++ sweepOrders } }

theorem enterRun_eq :
    s.enterRun = (s.started.grant.requestNotice).setPeriod (some (deadline 0 s.mpi.image.station.availPeriod)) := by
  unfold enterRun startNotices
  rw [startLines_eq, startEstimates_eq, startReceiving, startMusic_eq]
  change s.started.grant.requestNotice.setPeriod (some (deadline s.started.grant.clk.tickCount
    s.started.grant.mpi.image.station.availPeriod)) = _
  rw [(grant_keeps s.started).1]
  simp only [grant_keeps]
  rfl

/-! ## The first division (R84, R89) -/

theorem staffedCount_congr {s u : State} (hd : u.dsu = s.dsu) (hi : u.mpi.image = s.mpi.image) (q : QueueNo) :
    u.staffedCount q = s.staffedCount q := by
  have staffed_eq : u.staffed q = s.staffed q := by
    funext p
    simp only [staffed, skilled, profileQueues, hd, hi]
  rw [staffedCount, staffedCount, staffed_eq]

/-- The EST at the close of an event that leaves the staffed counts and makes Q0 pending, with no division in flight. -/
theorem close_begins_first {s u : State} (hd : u.dsu = s.dsu) (hi : u.mpi.image = s.mpi.image) (hf : u.est.inFlight = none)
    (h0 : u.est.recs[(0 : QueueNo)].pendingFlag = true) :
    (u.close s).est.inFlight = some ⟨0, u.est.recs[(0 : QueueNo)].aht16, u.staffedCount 0⟩ := by
  have marks (l : List QueueNo) : l.foldl (fun v q => if u.staffedCount q = s.staffedCount q then v
      else v.setEst q { v.est.recs[q] with pendingFlag := true }) u = u := by
    induction l with
    | nil => rfl
    | cons q l ih => rw [List.foldl_cons, if_pos (staffedCount_congr hd hi q), ih]
  have marked : u.markStaffing s = u := marks _
  have stale : u.abandonStale = u := by simp only [abandonStale, hf]
  have first : (List.finRange 8).find? (fun q => u.est.recs[q].pendingFlag) = some 0 := by
    rw [List.finRange_succ]
    exact List.find?_cons_of_pos h0
  have est : (u.close s).est = (u.closeEst s).est := by simp [close]
  rw [est, closeEst, marked, stale, beginDivision, hf]
  simp only [first]
  rfl

end State
end Sys2Proof.Machine

namespace Sys2Proof.Proofs

open Machine Claims

/-- START in CONFIG without data: whether a relation is broken decides (R187). -/
theorem exec_start_offends {s : State} (stop : s.running = false) {n : Nat} {rest : List Nat}
    (h : s.mpi.image.offences = n :: rest) : exec (.start []) s = .next (s.respond .badValue (bytes2 n)) := by
  change Host.Outcome.next (s.commandStart []) = _
  simp [State.commandStart, stop, h]

theorem exec_start_sound {s : State} (stop : s.running = false) (h : s.mpi.image.offences = []) :
    exec (.start []) s = .next ((s.event State.enterRun).respond .ok []) := by
  change Host.Outcome.next (s.commandStart []) = _
  simp [State.commandStart, stop, h]

/-- What the start writes, and the first division. -/
theorem start_taken (s : State) (stop : s.running = false) (sound : ∀ n, ¬s.mpi.image.Offends n) :
    exec (.start []) s = .next ((s.enterRun.close s).setResponse (some [0])) :=
  exec_start_sound stop (Image.offences_nil sound)

theorem started_channel (s : State) (c : Channel) :
    s.started.pbc.channels[c] =
      if 2 ≤ c.val then State.loaded s.mpi.image (programmeOf c) s.pbc.channels[c] else s.pbc.channels[c] := by
  split
  next music =>
    have back : musicChannel (programmeOf c) = c := Fin.ext (Nat.sub_add_cancel music)
    have nodup : ((List.finRange 4).map musicChannel).Nodup := by decide
    exact setEach_get musicChannel (State.loaded s.mpi.image) s.pbc.channels (List.finRange 4) nodup
      (List.mem_finRange (programmeOf c)) back
  next announcement =>
    refine setEach_other musicChannel (State.loaded s.mpi.image) s.pbc.channels (List.finRange 4) fun m _ e => ?_
    exact announcement (e ▸ Nat.le_add_left 2 m.val)

theorem started_estimate (s : State) (q : QueueNo) : s.started.est.recs[q] = s.seeded q s.est.recs[q] :=
  setEach_get id s.seeded s.est.recs (List.finRange 8) (by simpa using List.nodup_finRange 8) (List.mem_finRange q)
    rfl

/-- Settles O55: the branches of `commandStart`, the start written out as `started`, and the close that begins the division of
Q0. -/
theorem startIsTakenOrRefused : Obligations.StartIsTakenOrRefused := by
  intro s answers i offends
  refine ⟨fun data h => ?_, fun run => ?_, fun stop n h low => ?_, fun stop sound => ?_⟩
  · have some_data : data.isEmpty = false := by simpa using h
    simp only [answers, exec, execStart, State.commandStart, some_data, Bool.not_false, if_true]
    rfl
  · simp only [answers, exec, execStart, State.commandStart, run, if_true]
    rfl
  · obtain ⟨rest, e⟩ := Image.offences_head (i := i) h low
    exact exec_start_offends stop e
  · refine ⟨s.started, s.enterRun, start_taken s stop sound, s.enterRun_eq, started_channel s, started_estimate s, ?_,
      fun idle => ?_⟩
    · have orders : s.started.lsi.orders = s.lsi.orders.take 1 ++ (List.finRange 32).map Order.clear ++
          (List.finRange 24).map Order.stopRing ++ [.scanAll] := by
        simp only [State.started, State.sweepOrders, List.append_assoc]
      rw [← orders]
      rfl
    · have est : s.enterRun.est = s.started.est := by rw [State.enterRun_eq]; simp
      have dsu : s.enterRun.dsu = s.dsu := by rw [State.enterRun_eq]; simp [State.started]
      have image : s.enterRun.mpi.image = s.mpi.image := by rw [State.enterRun_eq]; simp [State.started]
      have first := started_estimate s 0
      rw [State.close_begins_first dsu image (by rw [est]; exact idle) (by rw [est, first]; rfl), est, first,
        State.staffedCount_congr dsu image]
      rfl

end Sys2Proof.Proofs
end

section
/-! PROOF. A block boundary: what a channel takes, who hears its end or joins the waiting list, and the channels in order. -/

namespace Sys2Proof.Machine

namespace State

/-! ## The hold of many calls at once -/

/-- The part with other call records and another waiting list. -/
def withHold (s : State) (calls : Vector CallRec 32) (waiting : List WaitEntry) : State :=
  { s with cqm := { s.cqm with calls := calls }, htu := ⟨waiting⟩ }

variable (s : State) (c : Channel)

/-- Who hears the announcement of a channel end: back to the music, with a fresh next-due (R117). -/
def hearsEnd (b : CallBody) : CallBody :=
  if b.source = some c then { b with source := some (musicChannel b.programme), nextDue := s.freshDue b.queue } else b

theorem returnListener_withHold (calls : Vector CallRec 32) (w : List WaitEntry) (t : Trunk) :
    (s.withHold calls w).returnListener c t =
      s.withHold (calls.set t ⟨calls[t].gen, calls[t].body.map (s.hearsEnd c)⟩) w := by
  have call : (s.withHold calls w).call t = calls[t].body := rfl
  have kept : calls.set t calls[t] = calls := Vector.set_getElem_self t.isLt
  rw [returnListener, call]
  cases hr : calls[t] with
  | mk gen body =>
    rw [hr] at call kept
    cases body with
    | none => exact congrArg (s.withHold · w) kept.symm
    | some b =>
      by_cases hears : b.source = some c
      · simp only [hears, if_true, hearsEnd, modifyCall, call, Option.map_some]
        rw [show (s.withHold calls w).cqm.calls[t] = calls[t] from rfl, hr]
        rfl
      · simp only [hears, if_false, hearsEnd, Option.map_some]
        exact congrArg (s.withHold · w) kept.symm

theorem endAnnouncement_eq :
    s.endAnnouncement c =
      s.withHold (setEach id (fun _ r => ⟨r.gen, r.body.map (s.hearsEnd c)⟩) s.cqm.calls (List.finRange 32))
        s.htu.waiting := by
  have fold (l : List Trunk) (calls : Vector CallRec 32) :
      l.foldl (fun u t => u.returnListener c t) (s.withHold calls s.htu.waiting) =
        s.withHold (setEach id (fun _ r => ⟨r.gen, r.body.map (s.hearsEnd c)⟩) calls l) s.htu.waiting := by
    induction l generalizing calls with
    | nil => rfl
    | cons t l ih => rw [List.foldl_cons, returnListener_withHold, ih]; rfl
  exact fold _ s.cqm.calls

/-- Whether a call joins the waiting list at a segment boundary of its channel (R117). -/
def takesUp (b : CallBody) : Bool :=
  (match b.phase with
    | .queued | .offered _ _ _ => true
    | .alerting _ | .talking _ _ | .lentAlerting _ _ _ | .lentTalking _ _ _ => false) &&
    b.source == some c && !b.waiting && b.nextDue == .due && (s.queueItems b.queue).bandBase.isSome

/-- The entry that a call adds. -/
def entriesOf (t : Trunk) (r : CallRec) : List WaitEntry :=
  match r.body with
  | none => []
  | some b =>
    if s.takesUp c b then ((s.queueItems b.queue).bandBase.map fun base => ⟨t, s.bandClip t b.queue base⟩).toList else []

/-- The record of a call at a segment boundary. -/
def heldUp (r : CallRec) : CallRec := ⟨r.gen, r.body.map fun b => if s.takesUp c b then { b with waiting := true } else b⟩

theorem takeUp_eq {t : Trunk} {b : CallBody} (h : s.call t = some b) :
    s.takeUp c t =
      if s.takesUp c b then
        match (s.queueItems b.queue).bandBase with
        | some base => s.joinWaiting t (s.bandClip t b.queue base)
        | none => s
      else s := by
  have needs_base : s.takesUp c b = true → (s.queueItems b.queue).bandBase.isSome = true := by
    simp only [takesUp, Bool.and_eq_true]
    exact And.right
  unfold takeUp
  rw [h]
  simp only
  cases hb : (s.queueItems b.queue).bandBase with
  | none =>
    rw [hb] at needs_base
    simp only [ite_self]
    split <;> rfl
  | some base => cases hp : b.phase <;> simp [takesUp, hp, hb]

theorem joinWaiting_withHold (calls : Vector CallRec 32) (w : List WaitEntry) (t : Trunk) (k : Clip) :
    (s.withHold calls w).joinWaiting t k =
      s.withHold (calls.set t ⟨calls[t].gen, calls[t].body.map fun b => { b with waiting := true }⟩) (w ++ [⟨t, k⟩]) :=
  rfl

theorem takeUp_withHold (calls : Vector CallRec 32) (w : List WaitEntry) (t : Trunk) :
    (s.withHold calls w).takeUp c t = s.withHold (calls.set t (s.heldUp c calls[t])) (w ++ s.entriesOf c t calls[t]) := by
  have call : (s.withHold calls w).call t = calls[t].body := rfl
  have kept : calls.set t calls[t] = calls := Vector.set_getElem_self t.isLt
  cases hr : calls[t] with
  | mk gen body =>
    rw [hr] at call kept
    cases body with
    | none =>
      rw [takeUp, call]
      simp only [entriesOf, List.append_nil]
      exact congrArg (s.withHold · w) kept.symm
    | some b =>
      rw [takeUp_eq _ c call]
      have same : (s.withHold calls w).takesUp c b = s.takesUp c b := rfl
      have items : (s.withHold calls w).queueItems b.queue = s.queueItems b.queue := rfl
      rw [same, items]
      cases joins : s.takesUp c b with
      | false =>
        simp only [entriesOf, heldUp, joins, Option.map_some, Bool.false_eq_true, if_false, List.append_nil]
        exact congrArg (s.withHold · w) kept.symm
      | true =>
        cases hb : (s.queueItems b.queue).bandBase with
        | none => simp [takesUp, hb] at joins
        | some base =>
          simp only [entriesOf, heldUp, joins, hb, Option.map_some, if_true, Option.toList_some, joinWaiting_withHold, hr]
          rfl

theorem segmentBoundary_eq :
    s.segmentBoundary c =
      s.withHold (setEach id (fun _ => s.heldUp c) s.cqm.calls (List.finRange 32))
        (s.htu.waiting ++ (List.finRange 32).flatMap fun t => s.entriesOf c t s.cqm.calls[t]) := by
  have fold (l : List Trunk) (hl : l.Nodup) (calls : Vector CallRec 32) (w : List WaitEntry) :
      l.foldl (fun u t => u.takeUp c t) (s.withHold calls w) =
        s.withHold (setEach id (fun _ => s.heldUp c) calls l) (w ++ l.flatMap fun t => s.entriesOf c t calls[t]) := by
    induction l generalizing calls w with
    | nil => rw [List.flatMap_nil, List.append_nil]; rfl
    | cons t l ih =>
      obtain ⟨fresh, nodup⟩ := List.nodup_cons.1 hl
      have others : (l.flatMap fun u => s.entriesOf c u (calls.set t (s.heldUp c calls[t]))[u]) =
          l.flatMap fun u => s.entriesOf c u calls[u] :=
        List.flatMap_congr fun u hu =>
          congrArg _ (Claims.getElem_set_other calls _ fun e => fresh (e ▸ hu))
      rw [List.foldl_cons, takeUp_withHold, ih nodup, others, List.flatMap_cons, List.append_assoc]
      rfl
  exact fold _ (List.nodup_finRange 32) s.cqm.calls s.htu.waiting

end State
end Sys2Proof.Machine
end

section
/-! PROOF. Each channel takes a block boundary as BlockBoundariesAreTaken says, and the channels take it one after another. -/

namespace Sys2Proof.Claims

open Machine State

variable {s v : State} {c : Channel} {x : ClipRun} {b : Option Playing}

/-! ## The channel itself (TABLE 7-5) -/

theorem takeNext_eq (r : ChannelRec) (x : ClipRun) : takeNext r x = nextPlayed r x := rfl

theorem atBoundary_music (h : s.pbc.channels[c].state = .playing x b) (hc : 2 ≤ c.val) :
    let seg := s.mpi.image.music[programmeOf c].segBlocks
    AtBoundary s c (takeNext s.pbc.channels[c] { x with segment := segmentAfter seg x.segment b })
      (raisesSegment seg x.segment b) false := by
  unfold AtBoundary
  simp only [h, takeNext_eq, if_neg (Nat.not_lt.2 hc)]
  cases b with
  | none => simp [raisesSegment, segmentAfter]
  | some p => cases p <;> simp [raisesSegment, segmentAfter]

theorem atBoundary_announcement (h : s.pbc.channels[c].state = .playing x b) (hc : c.val < 2) :
    AtBoundary s c
      (if endsAnnouncement b then { s.pbc.channels[c] with state := .idle } else takeNext s.pbc.channels[c] x) false
      (endsAnnouncement b) := by
  unfold AtBoundary
  simp only [h, takeNext_eq, if_pos hc]
  cases b with
  | none => simp [endsAnnouncement]
  | some p => cases p <;> simp +contextual [endsAnnouncement]

/-! ## The calls that join the waiting list -/

theorem needs_base {k : CallBody} (h : s.takesUp c k = true) : ∃ base, (s.queueItems k.queue).bandBase = some base := by
  simp only [takesUp, Bool.and_eq_true] at h
  exact Option.isSome_iff_exists.1 h.2

theorem entriesOf_trunks (s : State) (c : Channel) (t : Trunk) (r : CallRec) :
    (s.entriesOf c t r).map (·.trunk) = if r.body.any (s.takesUp c) then [t] else [] := by
  obtain ⟨gen, body⟩ := r
  cases body with
  | none => rfl
  | some k =>
    cases h : s.takesUp c k with
    | false => simp [entriesOf, h]
    | true =>
      obtain ⟨base, hb⟩ := needs_base h
      simp [entriesOf, h, hb]

theorem entries_trunks (s : State) (c : Channel) (l : List Trunk) :
    (l.flatMap fun t => s.entriesOf c t s.cqm.calls[t]).map (·.trunk) = l.filter fun t => (s.call t).any (s.takesUp c) := by
  induction l with
  | nil => rfl
  | cons t l ih =>
    rw [List.flatMap_cons, List.map_append, ih, entriesOf_trunks, List.filter_cons]
    change (if (s.call t).any (s.takesUp c) then [t] else []) ++ _ = _
    split <;> rfl

theorem entries_clip {l : List Trunk} {e : WaitEntry} (he : e ∈ l.flatMap fun t => s.entriesOf c t s.cqm.calls[t]) {k : CallBody}
    (hk : s.call e.trunk = some k) :
    (s.queueItems k.queue).bandBase.map (fun base => min (base.val + s.band k.queue (s.queuePosition k.queue e.trunk)) 31) =
      some e.clip.val := by
  obtain ⟨t, -, ht⟩ := List.mem_flatMap.1 he
  unfold entriesOf at ht
  split at ht
  · cases ht
  next k' hk' =>
    split at ht
    next joins =>
      obtain ⟨base, hb⟩ := needs_base joins
      rw [hb, Option.map_some, Option.toList_some, List.mem_singleton] at ht
      subst ht
      have same : k = k' := Option.some.inj (hk.symm.trans hk')
      rw [same, hb]
      rfl
    next => cases ht

/-! ## The start check (R119) -/

/-- Where entries were added, or the announcement ended, and nowhere else. -/
theorem wantsStartCheck_iff {joined : List WaitEntry} (hw : v.htu.waiting = s.htu.waiting ++ joined)
    (hv : ∀ k, k ≠ c → v.pbc.channels[k] = s.pbc.channels[k]) (hs : s.pbc.channels[c].state ≠ .idle) :
    v.wantsStartCheck s = true ↔
      (v.htu.waiting ≠ s.htu.waiting ∨ (c.val < 2 ∧ v.pbc.channels[c].state = .idle)) := by
  have longer : s.htu.waiting.length < v.htu.waiting.length ↔ v.htu.waiting ≠ s.htu.waiting := by
    rw [hw, List.length_append, Ne, List.append_right_eq_self, ← List.length_eq_zero_iff]
    omega
  have freed : (∃ k ∈ announcementChannels, v.pbc.channels[k].state = .idle ∧ s.pbc.channels[k].state ≠ .idle) ↔
      c.val < 2 ∧ v.pbc.channels[c].state = .idle := by
    constructor
    · rintro ⟨k, hk, idle, busy⟩
      have same : k = c := by
        by_contra other
        exact busy (hv k other ▸ idle)
      subst same
      refine ⟨?_, idle⟩
      simp only [announcementChannels, List.mem_cons, List.not_mem_nil, or_false] at hk
      rcases hk with rfl | rfl <;> decide
    · rintro ⟨hc, idle⟩
      have announcement : c ∈ announcementChannels := by
        simp only [announcementChannels, List.mem_cons, List.not_mem_nil, or_false, Fin.ext_iff]
        exact Nat.le_one_iff_eq_zero_or_eq_one.1 (Nat.le_of_lt_succ hc)
      exact ⟨c, announcement, idle, hs⟩
  simp only [wantsStartCheck, Bool.or_eq_true, decide_eq_true_eq, List.any_eq_true, Bool.and_eq_true, beq_iff_eq, bne_iff_ne,
    longer, freed]

/-! ## What the boundary leaves of the rest -/

theorem only_withHold (s : State) (calls : Vector CallRec 32) (w : List WaitEntry) :
    Only { calls := List.finRange 32, waiting := true } s (s.withHold calls w) := by
  simp [Only, withHold]

/-- Every call record written from what stood there. -/
theorem setEach_trunks (f : CallRec → CallRec) (calls : Vector CallRec 32) (t : Trunk) :
    (setEach id (fun _ => f) calls (List.finRange 32))[t] = f calls[t] :=
  setEach_get (i := t) id (fun _ => f) calls (List.finRange 32) (by simpa using List.nodup_finRange 32)
    (List.mem_finRange t) rfl

/-- What a call makes of a boundary of its channel. -/
def held (s : State) (c : Channel) (segment ended : Bool) (k : CallBody) : CallBody :=
  if ended && k.source == some c then
    { k with
      source := some (musicChannel k.programme)
      nextDue := if (s.queueItems k.queue).annInterval = 0 then .never
        else .at (deadline s.now (s.queueItems k.queue).annInterval) }
  else if segment && s.takesUp c k then { k with waiting := true }
  else k

theorem held_segment (s : State) (c : Channel) :
    held s c true false = fun k => if s.takesUp c k then { k with waiting := true } else k := rfl

theorem held_ended (s : State) (c : Channel) : held s c false true = s.hearsEnd c := by
  funext k
  simp [held, hearsEnd, freshDue]

theorem held_nothing (s : State) (c : Channel) : held s c false false = id := rfl

section Taken

variable (h : s.pbc.channels[c].state = .playing x b) {after : ChannelRec}
include h

/-- What a boundary that a channel takes comes to: the channel, the calls, the waiting list, and nothing else. -/
theorem boundaryTaken_of {segment ended : Bool} {joined : List WaitEntry} (taken : AtBoundary s c after segment ended)
    (hv : s.boundaryOf c = v) (channels : v.pbc.channels = (s.setChannel c after).pbc.channels)
    (calls : ∀ t : Trunk, v.cqm.calls[t] = ⟨s.cqm.calls[t].gen, (s.call t).map (held s c segment ended)⟩)
    (waiting : v.htu.waiting = s.htu.waiting ++ joined)
    (trunks : joined.map (·.trunk) = (List.finRange 32).filter fun t => (s.call t).any fun k => segment && s.takesUp c k)
    (clips : ∀ e ∈ joined, ∀ k ∈ s.call e.trunk, (s.queueItems k.queue).bandBase.map
      (fun base => min (base.val + s.band k.queue (s.queuePosition k.queue e.trunk)) 31) = some e.clip.val)
    (only : Only { channels := [c], calls := List.finRange 32, waiting := true } s v) :
    BoundaryTaken c s (s.takeBoundary c) := by
  have busy : s.pbc.channels[c].state ≠ .idle := by rw [h]; exact ChannelState.noConfusion
  have itself : v.pbc.channels[c] = after := by
    rw [channels]
    exact Vector.getElem_set_self c.isLt
  have others (k : Channel) (hk : k ≠ c) : v.pbc.channels[k] = s.pbc.channels[k] := by
    rw [channels]
    exact getElem_set_other s.pbc.channels after hk
  have work : s.takeBoundary c =
      (if v.htu.waiting ≠ s.htu.waiting ∨ (c.val < 2 ∧ v.pbc.channels[c].state = .idle) then v.startCheck 35
        else v).grant.close s := by
    rw [takeBoundary, h]
    simp only
    rw [event, boundaryWork, hv]
    exact congrArg (fun w : State => w.grant.close s) (if_congr (wantsStartCheck_iff waiting others busy) rfl rfl)
  have joins (k : CallBody) : (segment && s.takesUp c k) = ((match k.phase with
      | .queued | .offered _ _ _ => true
      | .alerting _ | .talking _ _ | .lentAlerting _ _ _ | .lentTalking _ _ _ => false) &&
        segment && k.source == some c && !k.waiting && k.nextDue == .due && (s.queueItems k.queue).bandBase.isSome) := by
    cases segment
    · simp
    · cases hp : k.phase <;> simp [takesUp, hp]
  have calls' (t : Trunk) := calls t
  unfold held at calls'
  simp only [joins] at calls' trunks
  unfold BoundaryTaken
  rw [h]
  exact ⟨after, segment, ended, v, taken, itself, calls', ⟨joined, waiting, trunks, clips⟩, only, work⟩

/-- A boundary at which the channel does no more than go on. -/
theorem boundaryTaken_goes_on (taken : AtBoundary s c after false false) (hv : s.boundaryOf c = s.setChannel c after) :
    BoundaryTaken c s (s.takeBoundary c) := by
  refine boundaryTaken_of h (joined := []) taken hv rfl (fun t => ?_) (List.append_nil _).symm ?_ (by simp) ?_
  · rw [held_nothing, Option.map_id]
    rfl
  · simp
  · exact (only_setChannel s c after).mono (by constructor <;> simp)

/-- A segment boundary: calls join the waiting list. -/
theorem boundaryTaken_segment (taken : AtBoundary s c after true false)
    (hv : s.boundaryOf c = (s.setChannel c after).segmentBoundary c) : BoundaryTaken c s (s.takeBoundary c) := by
  rw [segmentBoundary_eq] at hv
  refine boundaryTaken_of h taken hv rfl (fun t => ?_) rfl ?_ (fun e he k hk => ?_) ?_
  · rw [held_segment]
    exact setEach_trunks (s.heldUp c) s.cqm.calls t
  · exact entries_trunks s c _
  · exact entries_clip (s := s) he hk
  · exact ((only_setChannel s c after).trans (only_withHold _ _ _)).mono (by constructor <;> simp [Change.and])

/-- The end of an announcement: those who heard it return to the music. -/
theorem boundaryTaken_ended (taken : AtBoundary s c after false true)
    (hv : s.boundaryOf c = (s.setChannel c after).endAnnouncement c) : BoundaryTaken c s (s.takeBoundary c) := by
  rw [endAnnouncement_eq] at hv
  refine boundaryTaken_of h (joined := []) taken hv rfl (fun t => ?_) (List.append_nil _).symm ?_ (by simp) ?_
  · rw [held_ended]
    exact setEach_trunks (fun r => ⟨r.gen, r.body.map (s.hearsEnd c)⟩) s.cqm.calls t
  · simp
  · exact ((only_setChannel s c after).trans (only_withHold _ _ _)).mono (by constructor <;> simp [Change.and])

/-- A channel that plays takes the boundary as its block says. -/
theorem boundaryTaken_playing : BoundaryTaken c s (s.takeBoundary c) := by
  by_cases music : 2 ≤ c.val
  · have is_music : isMusic c = true := decide_eq_true music
    have taken := atBoundary_music h music
    simp only at taken
    cases raised : raisesSegment s.mpi.image.music[programmeOf c].segBlocks x.segment b <;> rw [raised] at taken
    · exact boundaryTaken_goes_on h taken (by simp only [boundaryOf, channelBoundary, h, is_music, raised]; rfl)
    · exact boundaryTaken_segment h taken (by simp only [boundaryOf, channelBoundary, h, is_music, raised]; rfl)
  · have no_music : isMusic c = false := decide_eq_false music
    have taken := atBoundary_announcement h (Nat.lt_of_not_le music)
    cases ends : endsAnnouncement b <;> rw [ends] at taken
    · exact boundaryTaken_goes_on h taken (by simp only [boundaryOf, channelBoundary, h, no_music, ends]; rfl)
    · exact boundaryTaken_ended h taken (by simp only [boundaryOf, channelBoundary, h, no_music, ends]; rfl)

end Taken

/-- One channel takes the boundary. -/
theorem takeBoundary_taken (s : State) (c : Channel) : BoundaryTaken c s (s.takeBoundary c) := by
  cases h : s.pbc.channels[c].state with
  | idle =>
    unfold BoundaryTaken takeBoundary
    rw [h]
  | loading x =>
    unfold BoundaryTaken takeBoundary
    rw [h]
  | playing x b => exact boundaryTaken_playing h

theorem chain_foldl {α : Type} {act : α → State → State → Prop} {f : State → α → State} (hf : ∀ s a, act a s (f s a))
    (l : List α) (s : State) : Chain act l s (l.foldl f s) := by
  induction l generalizing s with
  | nil => rfl
  | cons a l ih => exact ⟨f s a, hf s a, ih _⟩

theorem eraseDups_of_nodup {l : List Channel} (h : l.Nodup) : l.eraseDups = l := by
  induction l with
  | nil => rfl
  | cons a l ih =>
    obtain ⟨fresh, nodup⟩ := List.nodup_cons.1 h
    have all_kept : l.filter (fun b => !b == a) = l := by
      refine List.filter_eq_self.2 fun b hb => ?_
      simpa using fun e : b = a => fresh (e ▸ hb)
    rw [List.eraseDups_cons, all_kept, ih nodup]

end Sys2Proof.Claims

namespace Sys2Proof.Proofs

open Machine Claims

/-- Settles O40: the pulses are counted, and the channels take the boundary one after another. -/
theorem blockBoundariesAreTaken : Obligations.BlockBoundariesAreTaken := by
  intro s order fits
  have nodup : order.Nodup := of_decide_eq_true fits
  refine ⟨fun stop => ?_, fun run => ⟨_, exec_blockBoundary run order, ?_⟩⟩
  · change Host.Outcome.next (if s.running then s.blockBoundary order else s) = _
    rw [stop]
    rfl
  · rw [State.blockBoundary, State.boundaryOrder, eraseDups_of_nodup nodup, State.countPulses_eq]
    exact chain_foldl takeBoundary_taken _ _

end Sys2Proof.Proofs
end

section
/-! PROOF. Every step leaves the part settled (EveryStepSettles): the close of an event settles it whatever the event did, and
what is done with no close writes nothing that the settled state depends on. -/

namespace Sys2Proof.Machine

variable {s u : State}

theorem settled_iff (s : State) :
    s.settled = true ↔ s.dividerBusy = true ∧ s.divisionFresh = true ∧ s.linkWaits = true ∧ s.sps.map = s.connections ∧
      s.mpi.attn = s.attnLevel := by
  simp only [State.settled, Bool.and_eq_true, beq_iff_eq, and_assoc]

/-! ## The close of an event -/

theorem beginDivision_dividerBusy (s : State) : s.beginDivision.dividerBusy = true := by
  unfold State.beginDivision
  split
  next d h => simp [State.dividerBusy, h]
  next h =>
    split
    next none_pending => simpa [State.dividerBusy, h] using none_pending
    next => rfl

/-- A division that begins takes its snapshot now. -/
theorem beginDivision_divisionFresh (h : s.divisionFresh = true) : s.beginDivision.divisionFresh = true := by
  unfold State.beginDivision
  split
  next => exact h
  next =>
    split
    next => exact h
    next q _ =>
      have staffing (v : State) (x : EstRec) (d : Option Division) :
          ((v.setEst q x).setInFlight d).staffedCount q = v.staffedCount q := rfl
      simp [State.divisionFresh, staffing]

theorem abandonStale_divisionFresh (s : State) : s.abandonStale.divisionFresh = true := by
  unfold State.abandonStale
  split
  next h => simp [State.divisionFresh, h]
  next d h =>
    simp only
    split
    next same => simpa [State.divisionFresh, h] using same
    next => rfl

theorem closeEst_busy_fresh (s before : State) :
    (s.closeEst before).dividerBusy = true ∧ (s.closeEst before).divisionFresh = true :=
  ⟨beginDivision_dividerBusy _, beginDivision_divisionFresh (abandonStale_divisionFresh _)⟩

/-- Whether the divider is busy and its division fresh is seen in the estimates, the agents and the image. -/
theorem busy_fresh_congr (he : u.est = s.est) (hd : u.dsu = s.dsu) (hi : u.mpi.image = s.mpi.image) :
    u.dividerBusy = s.dividerBusy ∧ u.divisionFresh = s.divisionFresh := by
  simp only [State.dividerBusy, State.divisionFresh, he, State.staffedCount_congr hd hi, and_self]

/-- Either an attempt has begun, or none may. -/
theorem beginAttempt_linkWaits (s : State) : s.beginAttempt.linkWaits = true := by
  unfold State.beginAttempt
  split
  next go =>
    split
    next none_begins => simp [State.linkWaits, none_begins]
    next i hi =>
      split
      next none_there => simp [State.linkWaits, hi, none_there]
      next e he =>
        split
        next => simp [State.linkWaits]
        next busy => simp [State.linkWaits, hi, he, Nat.lt_of_not_le busy]
  next stays =>
    rw [Bool.and_eq_true, not_and_or, Bool.not_eq_true, Bool.not_eq_true] at stays
    rcases stays with stop | under_way
    · simp [State.linkWaits, stop]
    · have attempt : s.plc.attempt.isSome = true := by simpa [Option.isNone_eq_false_iff] using under_way
      simp [State.linkWaits, attempt]

/-- The connection map that the records call for is seen in the calls, the agents, the guests, the junctors and the station. -/
theorem connections_congr (hc : u.cqm = s.cqm) (hd : u.dsu = s.dsu) (ho : u.ofu = s.ofu)
    (hj : u.sps.junctors = s.sps.junctors) (hx : u.mpi.station = s.mpi.station) : u.connections = s.connections := by
  have call (t : Trunk) : u.call t = s.call t := by simp only [State.call, hc]
  have duty (p : Position) : u.duty p = s.duty p := by simp only [State.duty, hd]
  have trunks : u.trunkSource = s.trunkSource := funext fun t => by simp only [State.trunkSource, call, hx]
  have positions : u.positionSource = s.positionSource := funext fun p => by simp only [State.positionSource, duty, ho]
  have forward : u.forwardSource = s.forwardSource := funext fun j => by simp only [State.forwardSource, call, hj]
  have returns : u.returnSource = s.returnSource := funext fun g => by simp only [State.returnSource, ho]
  simp only [State.connections, trunks, positions, forward, returns]

/-- The level of ATTN is seen in the mode, the image and the FIFO. -/
theorem attnLevel_congr (hm : u.mpi.mode = s.mpi.mode) (hi : u.mpi.image = s.mpi.image) (hf : u.mpi.fifo = s.mpi.fifo) :
    u.attnLevel = s.attnLevel := by
  simp only [State.attnLevel, State.running, State.items, hm, hi, hf]

/-- Whether the link waits is seen in its record, the clock, the mode and the station. -/
theorem linkWaits_congr (hp : u.plc = s.plc) (hk : u.clk.tickCount = s.clk.tickCount) (hm : u.mpi.mode = s.mpi.mode)
    (hx : u.mpi.station = s.mpi.station) : u.linkWaits = s.linkWaits := by
  have run : u.running = s.running := by simp only [State.running, hm]
  have held : u.noticeHeld = s.noticeHeld := by unfold State.noticeHeld State.now; rw [hp, hk]
  have place : u.beginPlace = s.beginPlace := by simp only [State.beginPlace, hp, held]
  have needed (e : TxEntry) : u.idleNeeded e = s.idleNeeded e := by simp only [State.idleNeeded, hx]
  simp only [State.linkWaits, run, place, needed, hp]

/-- What `refresh` writes, the settled state asks for, and nothing else of it reads what `refresh` writes. -/
theorem refresh_settled (hb : s.dividerBusy = true) (hf : s.divisionFresh = true) (hl : s.linkWaits = true) :
    s.refresh.settled = true := by
  obtain ⟨busy, fresh⟩ := busy_fresh_congr (u := s.refresh) (s := s) (by simp) (by simp) (by simp)
  have link : s.refresh.linkWaits = s.linkWaits := linkWaits_congr (by simp) (by simp) (by simp) (by simp)
  have paths : s.refresh.connections = s.connections := connections_congr (by simp) (by simp) (by simp) (by simp) (by simp)
  have level : s.refresh.attnLevel = s.attnLevel := attnLevel_congr (by simp) (by simp) (by simp)
  refine (settled_iff _).2 ⟨busy.trans hb, fresh.trans hf, link.trans hl, ?_, ?_⟩
  · rw [paths]; rfl
  · rw [level]; rfl

theorem close_settled (s before : State) : (s.close before).settled = true := by
  unfold State.close
  set asked := (s.closeEst before).askOnCrossing before with hasked
  obtain ⟨busy, fresh⟩ := closeEst_busy_fresh s before
  obtain ⟨eb, ef⟩ := busy_fresh_congr (u := asked.beginAttempt) (s := s.closeEst before) (by simp [hasked]) (by simp [hasked])
    (by simp [hasked])
  exact refresh_settled (eb.trans busy) (ef.trans fresh) (beginAttempt_linkWaits _)

theorem event_settled (s : State) (f : State → State) : (s.event f).settled = true := close_settled _ s

/-! ## What has no close -/

/-- The pieces of the state that the settled state depends on. -/
def settledView (s : State) :=
  (s.est, s.dsu, s.cqm, s.ofu, s.clk.tickCount, s.plc, (s.sps.map, s.sps.junctors),
    (s.mpi.mode, s.mpi.station, s.mpi.image, s.mpi.fifo, s.mpi.attn))

theorem settled_congr (h : settledView u = settledView s) : u.settled = s.settled := by
  simp only [settledView, Prod.mk.injEq] at h
  obtain ⟨he, hd, hc, ho, hk, hp, ⟨hm, hj⟩, hmode, hx, hi, hf, ha⟩ := h
  obtain ⟨busy, fresh⟩ := busy_fresh_congr he hd hi
  have link : u.linkWaits = s.linkWaits := linkWaits_congr hp hk hmode hx
  have paths : u.connections = s.connections := connections_congr hc hd ho hj hx
  have level : u.attnLevel = s.attnLevel := attnLevel_congr hmode hi hf
  simp only [State.settled, busy, fresh, link, paths, level, hm, ha]

theorem settled_same (hs : s.settled = true) (h : settledView u = settledView s) : u.settled = true :=
  (settled_congr h).trans hs

theorem respond_settled (h : s.settled = true) (c : StatusCode) (d : List Byte) : (s.respond c d).settled = true :=
  settled_same h rfl

/-- A quiet CONFIG is settled, whatever it does not fix. -/
theorem Rest.settled (r : Rest) : r.state.settled = true := by
  refine (settled_iff _).2 ⟨?_, rfl, rfl, ?_, rfl⟩
  · simp [State.dividerBusy, Rest.state, State.reset, Est.reset]
  · have call (t : Trunk) : r.state.call t = none := by simp [State.call, Rest.state, State.reset, Cqm.reset]
    have duty (p : Position) : r.state.duty p = none := by simp [State.duty, Rest.state, State.reset, Dsu.reset]
    have junctor (j : Junctor) : r.state.sps.junctors[j] = .free := by simp [Rest.state, State.reset, Sps.reset]
    have guest (g : GuestNo) : r.state.ofu.guests[g] = none := by simp [Rest.state, State.reset, Ofu.reset]
    have trunks : r.state.trunkSource = fun _ => none := by funext t; simp only [State.trunkSource, call]
    have positions : r.state.positionSource = fun _ => none := by funext p; simp only [State.positionSource, duty]
    have forward : r.state.forwardSource = fun _ => none := by funext j; simp only [State.forwardSource, junctor]
    have returns : r.state.returnSource = fun _ => none := by funext g; simp only [State.returnSource, guest]
    simp only [State.connections, trunks, positions, forward, returns]
    rfl

/-- In CONFIG a state that CONFIG's quiet allows is settled. -/
theorem settled_of_quiet (h : s.configQuiet = true) (stop : s.running = false) : s.settled = true := by
  rcases (configQuiet_iff s).1 h with run | ⟨r, rfl⟩
  · simp [stop] at run
  · exact r.settled

theorem configIdle_of_quiet (h : s.configQuiet = true) : s.configIdle = true := by
  rcases (configQuiet_iff s).1 h with run | ⟨r, rfl⟩
  · simp [State.configIdle, run]
  · simp [State.configIdle, Rest.state, State.reset, Est.reset]

/-! ## Every command -/

/-- The bytes that a row of the scan link brings (TABLE 13-3). -/
def scanned : Instr → Option (List Byte)
  | .seize t k => some [0x10, t, k]
  | .loop r t => some [loopCode r, t]
  | .headset r b => some [headsetCode r, b]
  | .scanByteUndecodable l => some l
  | .signOnKey b => some [keyCode .signOn, b]
  | .readyKey b => some [keyCode .ready, b]
  | .notReadyKey b => some [keyCode .notReady, b]
  | .signOffKey b => some [keyCode .signOff, b]
  | .answerKey b => some [keyCode .answer, b]
  | .releaseKey b => some [keyCode .release, b]
  | .moreTimeKey b => some [keyCode .moreTime, b]
  | _ => none

/-- What holds of a state, of its two resets and of what each kind of command makes of it holds after every command. -/
theorem nextOf_induct {P : State → Prop} (c : Instr) (stays : P s)
    (reset : ∀ x, c = .resetPin x → P (s.resetTo defaultImage x []))
    (tick : s.running = true → ∀ plan, P (s.tick plan)) (boundary : s.running = true → ∀ order, P (s.blockBoundary order))
    (scan : ∀ l, scanned c = some l → P (s.scanReceiveAll l)) (sent : P (s.setOrders s.lsi.orders.tail))
    (row : ∀ e, P (nextOf (Claims.rowOf e) s)) (fetch : ∀ l b, P (s.event (·.fetchDone l b)))
    (bus : ∀ sign, P (if s.running then s.event (·.busSeen sign) else s.busSeen sign))
    (lost : P (s.event (·.attemptLost))) (done : ∀ chars, P (s.event (·.attemptDone chars)))
    (frame : ∀ chars d e, P (s.frameReceived chars d e))
    (command : ∀ k d, (k = .restart → c = .restart d) → P (s.command k d))
    (transact : ∀ b, c = .transactionAbandoned b ∨ c = .unknownCommandCode b → P (s.transact b)) : P (nextOf c s) := by
  have guarded {b : Prop} [Decidable b] {v : State} (hv : b → P v) : P (if b then v else s) := by
    split
    next hb => exact hv hb
    next => exact stays
  cases c
  case resetPin straps => exact reset straps rfl
  case tick plan => exact guarded (tick · plan)
  case blockBoundary order => exact guarded (boundary · order)
  case seize | loop | headset | scanByteUndecodable | signOnKey | readyKey | notReadyKey | signOffKey | answerKey |
      releaseKey | moreTimeKey => exact scan _ rfl
  case orderSent => exact sent
  case disconnectFilterExpiry t => exact row (.disconnectFilter t)
  case headsetFilterExpiry p => exact row (.headsetFilter p)
  case startSweepEnd => exact row .sweepEnd
  case ringDeadline p => exact row (.ring p)
  case wrapExpiry p => exact row (.wrapExpiry p)
  case readyAtMin p => exact row (.readyAtMin p)
  case nextDueReached t => exact row (.nextDue t)
  case junctorHoldoffEnd => exact row .holdoffEnd
  case offerDeadline => exact row .offer
  case lentDeadline => exact row .lent
  case connectDeadline => exact row .connect
  case availPeriodExpiry => exact row .availPeriod
  case presenceTimeout => exact row .presence
  case availSpacingEnd => exact row .spacingEnd
  case divisionComplete => exact row .division
  case fetchComplete samples fault => exact guarded fun _ => fetch samples fault
  case attemptBegin sign =>
    simp only [nextOf, exec, execAttemptBegin]
    split
    next => exact stays
    next => exact bus sign
  case attemptLost => exact guarded fun _ => lost
  case attemptComplete =>
    cases attempt : s.plc.attempt <;> simp only [nextOf, exec, execAttemptComplete, attempt]
    · exact stays
    · exact done _
  case avail | offer | take | decline | connect | answered | bounce | releaseAgentDone | releaseCallerGone |
      releaseTooLate | withdraw | lengthErrorFrame => exact frame _ _ _
  case set d => exact command .set d nofun
  case start d => exact command .start d nofun
  case restart d => exact command .restart d fun _ => rfl
  case select d => exact command .select d nofun
  case readNext d => exact command .readNext d nofun
  case reportNext d => exact command .reportNext d nofun
  case status d => exact command .status d nofun
  case transactionAbandoned b => exact transact b (.inl rfl)
  case unknownCommandCode b => exact transact b (.inr rfl)

theorem ite_settled {b : Prop} [Decidable b] (h : s.settled = true) (hu : b → u.settled = true) :
    (if b then u else s).settled = true := by
  split
  next hb => exact hu hb
  next => exact h

theorem resetTo_settled (s : State) (m : Image) (x : Station) (o : List Order) : (s.resetTo m x o).settled = true :=
  Rest.settled ⟨o, [], s.plc.busIdle, s.plc.onBus, x, m, ⟨0, 0⟩, none, s.pending⟩

/-- A command of the maintenance port that is not refused writes what the settled state does not depend on, or resets, or is
an event; an image is written in CONFIG alone. -/
theorem command_settled (h : s.settled = true) (hq : s.configQuiet = true) (c : Command) (d : List Byte) :
    (s.command c d).settled = true := by
  have refused (c : StatusCode) (d : List Byte) := respond_settled h c d
  cases c
  case set =>
    change (s.commandSet d).settled = true
    unfold State.commandSet
    split
    · split
      · exact refused _ _
      · split
        · exact refused _ _
        · split
          · exact refused _ _
          next stop =>
            split
            · exact refused _ _
            · exact respond_settled (settled_of_quiet (setImage_quiet hq _) (by simpa [State.running] using stop)) _ _
    · exact refused _ _
  case start =>
    change (s.commandStart d).settled = true
    unfold State.commandStart
    split
    · exact refused _ _
    · split
      · exact refused _ _
      · split
        · exact refused _ _
        · exact respond_settled (event_settled s _) _ _
  case restart =>
    change (s.commandRestart d).settled = true
    unfold State.commandRestart
    split
    · exact respond_settled (resetTo_settled s _ _ _) _ _
    · exact refused _ _
  case select =>
    change (s.commandSelect d).settled = true
    unfold State.commandSelect
    split
    · split
      · exact refused _ _
      · split
        · exact settled_same h rfl
        · exact refused _ _
    · exact refused _ _
  case readNext =>
    change (s.commandReadNext d).settled = true
    unfold State.commandReadNext
    split
    · exact refused _ _
    · exact settled_same h rfl
  case reportNext =>
    change (s.commandReportNext d).settled = true
    unfold State.commandReportNext
    split
    · exact refused _ _
    · split
      · exact refused _ _
      next rest _ =>
        obtain ⟨hb, hf, hl, -, -⟩ := (settled_iff s).1 h
        obtain ⟨busy, fresh⟩ := busy_fresh_congr (u := s.setFifo rest) (s := s) rfl rfl rfl
        have link : (s.setFifo rest).linkWaits = s.linkWaits := linkWaits_congr rfl rfl rfl rfl
        exact respond_settled (refresh_settled (busy.trans hb) (fresh.trans hf) (link.trans hl)) _ _
  case status =>
    change (s.commandStatus d).settled = true
    unfold State.commandStatus
    split
    · exact refused _ _
    · exact settled_same h rfl

theorem transact_settled (h : s.settled = true) (hq : s.configQuiet = true) (b : List Byte) :
    (s.transact b).settled = true := by
  have unanswered : (s.setResponse none).settled = true := settled_same h rfl
  unfold State.transact
  split
  · exact unanswered
  · split
    · exact unanswered
    · split
      · exact respond_settled h _ _
      · split
        · exact respond_settled h _ _
        · exact command_settled h hq _ _

theorem scanReceiveAll_settled (h : s.settled = true) (l : List Byte) : (s.scanReceiveAll l).settled = true := by
  refine List.foldlRecOn (motive := fun v : State => v.settled = true) l State.scanReceive h fun v hv b _ => ?_
  have opened : (v.setScanOpen (scanByte v.lsi.scanOpen b).1).settled = true := settled_same hv rfl
  have issued (o : Order) : ((v.setScanOpen (scanByte v.lsi.scanOpen b).1).issue o).settled = true :=
    settled_same opened (by simp [settledView])
  change (State.takeScan _ _).settled = true
  unfold State.takeScan
  split
  · exact opened
  · exact ite_settled opened fun _ => settled_same opened rfl
  · split
    · exact event_settled _ _
    · unfold State.takeCharConfig
      split
      · exact issued _
      · exact issued _
      · exact opened
      · exact opened

/-- In RUN a frame that ends is an event; in CONFIG the bus does not matter. -/
theorem frameReceived_settled (hq : s.configQuiet = true) (c : List Byte) (d e : Bool) :
    (s.frameReceived c d e).settled = true := by
  have quiet := frameReceived_quiet hq c d e
  unfold State.frameReceived at quiet ⊢
  split
  next => exact event_settled _ _
  next stop =>
    rw [if_neg stop] at quiet
    exact settled_of_quiet quiet (by simpa [State.running] using stop)

theorem tickEvent_settled (h : s.settled = true) (e : TickEvent) : (s.tickEvent e).settled = true := by
  unfold State.tickEvent
  split
  · exact event_settled _ _
  · exact h

theorem nextOf_rowOf_settled (h : s.settled = true) (e : TickEvent) : (nextOf (Claims.rowOf e) s).settled = true := by
  by_cases run : s.running = true ∨ e ≠ .sweepEnd
  · rw [nextOf_rowOf s e run]
    exact tickEvent_settled h e
  · obtain ⟨stop, rfl⟩ := not_or.1 run |>.imp_right not_not.1
    have idle : nextOf (Claims.rowOf .sweepEnd) s = s := by
      simp [nextOf, Claims.rowOf, exec, execStartSweepEnd, stop]
    rwa [idle]

/-- The pulses alone leave a settled part settled, and each channel then takes the boundary as an event. -/
theorem blockBoundary_settled (h : s.settled = true) (order : List Channel) : (s.blockBoundary order).settled = true := by
  unfold State.blockBoundary
  refine List.foldlRecOn (motive := fun v : State => v.settled = true) _ _ ?_ fun v hv c _ => ?_
  · exact settled_same h (by simp [settledView, State.countPulses_eq])
  · rcases State.takeBoundary_cases v c with ⟨-, e⟩ | ⟨-, e⟩ <;> rw [e]
    · exact event_settled _ _
    · exact hv

theorem tick_settled (s : State) (plan : TickPlan) : (s.tick plan).settled = true := by
  unfold State.tick
  extract_lets _ worked
  exact tickEvent_settled (event_settled worked _) .spacingEnd

/-- In RUN what is seen on the bus is an event; in CONFIG it does not matter. -/
theorem busSeen_settled (hq : s.configQuiet = true) (sign : BusSign) :
    (if s.running then s.event (·.busSeen sign) else s.busSeen sign).settled = true := by
  split
  next => exact event_settled _ _
  next stop =>
    rcases (configQuiet_iff s).1 hq with run | ⟨r, rfl⟩
    · exact absurd run stop
    · cases sign with
      | idle n => exact Rest.settled { r with busIdle := n, onBus := if 2 ≤ n then .none else r.onBus }
      | startBit marked => exact Rest.settled { r with busIdle := 0, onBus := if marked then .begun else r.onBus }

theorem nextOf_settled (h : s.settled = true) (hq : s.configQuiet = true) (c : Instr) : (nextOf c s).settled = true :=
  nextOf_induct (P := fun v => v.settled = true) c h (fun x _ => resetTo_settled s _ x _) (fun _ plan => tick_settled s plan)
    (fun _ order => blockBoundary_settled h order) (fun l _ => scanReceiveAll_settled h l) (settled_same h rfl)
    (nextOf_rowOf_settled h) (fun _ _ => event_settled s _) (busSeen_settled hq) (event_settled s _) (fun _ => event_settled s _)
    (frameReceived_settled hq) (fun k d _ => command_settled h hq k d) fun b _ => transact_settled h hq b

end Sys2Proof.Machine

namespace Sys2Proof.Proofs

open Machine

/-- Settles O4: an event closes settled, and what is no event writes nothing that the settled state depends on; a quiet
CONFIG has nothing pending or in flight. -/
theorem everyStepSettles : Obligations.EveryStepSettles := by
  intro s u h hq e
  refine ⟨?_, configIdle_of_quiet (configStaysQuiet s u hq e)⟩
  rw [step_eq] at e
  cases e
  cases s.pending with
  | nil => exact h
  | cons c rest =>
    have taken : settledView { s with pending := rest } = settledView s := rfl
    refine nextOf_settled (settled_same h taken) ?_ c
    rw [configQuiet_iff] at hq ⊢
    refine hq.imp id ?_
    rintro ⟨r, rfl⟩
    exact ⟨{ r with pending := rest }, rfl⟩

end Sys2Proof.Proofs
end

section
/-! PROOF. How calls, lists, agents, junctors and offer slots name each other, as an abstract state of their links alone; what
an act on a call does to the links keeps the invariants of them. -/

namespace Sys2Proof.Machine

/-- The record stands in the list of its queue (R24). -/
def CallPhase.listed : CallPhase → Bool
  | .queued | .offered _ _ _ => true
  | .alerting _ | .talking _ _ | .lentAlerting _ _ _ | .lentTalking _ _ _ => false

/-- The local call that a duty binds the agent to (R41). -/
def Duty.localCall : Duty → Option Trunk
  | .alerting (.call t) _ | .talking (.call t) => some t
  | .alerting (.guest _) _ | .talking (.guest _) | .notReady | .ready _ | .reserved _ | .wrapup _ => none

/-- The queue and the phase of a record that is not FREE. -/
abbrev Standing := Option (QueueNo × CallPhase)

namespace Standing

/-- The queue in whose list the record stands. -/
def list (x : Standing) : Option QueueNo := x.bind fun y => if y.2.listed then some y.1 else none
/-- The agent that the record names. -/
def agent (x : Standing) : Option Position := x.bind (·.2.agent)
/-- The junctor that the record holds. -/
def junctor (x : Standing) : Option Junctor := x.bind (·.2.junctor)
/-- The slot in which the record is OFFERED, with its queue. -/
def offer (x : Standing) : Option (SlotNo × QueueNo) := x.bind fun y => y.2.slot.map (·, y.1)

@[simp] theorem list_none : list none = none := rfl
@[simp] theorem agent_none : agent none = none := rfl
@[simp] theorem junctor_none : junctor none = none := rfl
@[simp] theorem offer_none : offer none = none := rfl
@[simp] theorem list_some (q : QueueNo) (p : CallPhase) : list (some (q, p)) = if p.listed then some q else none := rfl
@[simp] theorem agent_some (q : QueueNo) (p : CallPhase) : agent (some (q, p)) = p.agent := rfl
@[simp] theorem junctor_some (q : QueueNo) (p : CallPhase) : junctor (some (q, p)) = p.junctor := rfl
@[simp] theorem offer_some (q : QueueNo) (p : CallPhase) : offer (some (q, p)) = p.slot.map (·, q) := rfl

end Standing

/-- What the invariants of the links read of a state. -/
structure Links where
  standing : Trunk → Standing
  lists : QueueNo → List Trunk
  /-- The local call that each agent is bound to. -/
  serves : Position → Option Trunk
  junctors : Junctor → JunctorRec
  freeOrder : List Junctor
  holdoffOrder : List Junctor
  slots : SlotNo → Option (Trunk × QueueNo)

/-- The invariants of the links. At level 0 the trunks of `F` are FREE; at level 1 the lists hold the records that stand in them
(R24) and every agent but `e` is named by the call that it is bound to (R41); at level 2 the orders of the junctors hold the
junctors of their kind (R135), and junctors and slots agree with the records (R135, R167). -/
structure Links.Sound (n : Nat) (F : Trunk → Prop) (e : Option Position) (k : Links) : Prop where
  free : ∀ t, F t → k.standing t = none
  lists : 1 ≤ n → ∀ q, (k.lists q).Nodup ∧ ∀ t, t ∈ k.lists q ↔ (k.standing t).list = some q
  agents : 1 ≤ n → ∀ p t, k.serves p = some t → e = some p ∨ (k.standing t).agent = some p
  orders : 2 ≤ n → k.freeOrder.Nodup ∧ k.holdoffOrder.Nodup ∧ ∀ j,
    (j ∈ k.freeOrder ↔ k.junctors j = .free) ∧ (j ∈ k.holdoffOrder ↔ ∃ u, k.junctors j = .holdoff u)
  junctors : 2 ≤ n → ∀ j t, k.junctors j = .bound t ↔ (k.standing t).junctor = some j
  slots : 2 ≤ n → ∀ o t q, k.slots o = some (t, q) ↔ (k.standing t).offer = some (o, q)

namespace Links

open Function (update)

/-- A BOUND junctor goes into HOLDOFF until `u` (R137). -/
def freeJunctor (k : Links) (u : Stamp) (j : Junctor) : Links :=
  match k.junctors j with
  | .bound _ => { k with junctors := update k.junctors j (.holdoff u), holdoffOrder := k.holdoffOrder ++ [j] }
  | .free | .holdoff _ => k

/-- What a phase holds in the overflow unit is freed. -/
def freed (k : Links) (u : Stamp) : CallPhase → Links
  | .offered o _ j => { k with slots := update k.slots o none }.freeJunctor u j
  | .lentAlerting _ j _ | .lentTalking _ j _ => k.freeJunctor u j
  | .queued | .alerting _ | .talking _ _ => k

/-- The record on `t` and the lists are written. -/
def place (k : Links) (t : Trunk) (x : Standing) (lists : QueueNo → List Trunk) : Links :=
  { k with standing := update k.standing t x, lists := lists }

section

variable {n : Nat} {F : Trunk → Prop} {e : Option Position} {k : Links} {t : Trunk} {q : QueueNo} {ph : CallPhase}
  {x : Standing} {p : Position}

/-- Lists that hold what they held of the other trunks, and `t` where its new record stands. -/
def Relisted (k : Links) (t : Trunk) (x : Standing) (lists : QueueNo → List Trunk) : Prop :=
  ∀ q, (lists q).Nodup ∧ ∀ u, u ∈ lists q ↔ if u = t then x.list = some q else u ∈ k.lists q

theorem Relisted.lists {lists : QueueNo → List Trunk} (h : k.Relisted t x lists)
    (hk : ∀ q, (k.lists q).Nodup ∧ ∀ t, t ∈ k.lists q ↔ (k.standing t).list = some q) (q : QueueNo) :
    (lists q).Nodup ∧ ∀ u, u ∈ lists q ↔ (update k.standing t x u).list = some q := by
  refine ⟨(h q).1, fun u => ((h q).2 u).trans ?_⟩
  by_cases hu : u = t
  · subst hu; simp
  · simpa [hu] using (hk q).2 u

/-- The record leaves the list of its queue, or stands in none. -/
theorem Relisted.erase (hk : ∀ q, (k.lists q).Nodup ∧ ∀ t, t ∈ k.lists q ↔ (k.standing t).list = some q)
    (ht : k.standing t = some (q, ph)) (hx : x.list = none) : k.Relisted t x (update k.lists q ((k.lists q).erase t)) := by
  intro r
  by_cases hr : r = q
  · subst hr
    refine ⟨by simpa using (hk r).1.erase t, fun u => ?_⟩
    by_cases hu : u = t
    · subst hu; simp [hx, (hk r).1.mem_erase_iff]
    · simp [hu, (hk r).1.mem_erase_iff]
  · refine ⟨by simpa [hr] using (hk r).1, fun u => ?_⟩
    by_cases hu : u = t
    · subst hu
      have elsewhere : u ∉ k.lists r := by
        rw [(hk r).2 u, ht, Standing.list_some]
        split <;> simp [Ne.symm hr]
      simp [hr, hx, elsewhere]
    · simp [hr, hu]

/-- The record stays where it stood. -/
theorem Relisted.stays (hk : ∀ q, (k.lists q).Nodup ∧ ∀ t, t ∈ k.lists q ↔ (k.standing t).list = some q)
    (hx : x.list = (k.standing t).list) : k.Relisted t x k.lists := by
  refine fun r => ⟨(hk r).1, fun u => ?_⟩
  by_cases hu : u = t
  · subst hu; simp [hx, (hk r).2 u]
  · simp [hu]

/-- The record joins the list of its queue. -/
theorem Relisted.insert {l : List Trunk} (hk : ∀ q, (k.lists q).Nodup ∧ ∀ t, t ∈ k.lists q ↔ (k.standing t).list = some q)
    (ht : (k.standing t).list = none) (hl : l.Perm (t :: k.lists q)) (hx : x.list = some q) :
    k.Relisted t x (update k.lists q l) := by
  have fresh (r : QueueNo) : t ∉ k.lists r := by simp [(hk r).2 t, ht]
  intro r
  by_cases hr : r = q
  · subst hr
    refine ⟨by simpa using hl.nodup_iff.2 (List.nodup_cons.2 ⟨fresh r, (hk r).1⟩), fun u => ?_⟩
    by_cases hu : u = t <;> simp [hl.mem_iff, hu, hx]
  · refine ⟨by simpa [hr] using (hk r).1, fun u => ?_⟩
    by_cases hu : u = t
    · subst hu; simp [hr, fresh, hx, Ne.symm hr]
    · simp [hr, hu]

/-- A junctor that is freed is BOUND no more; the others, and what else the links hold, stay. -/
theorem freeJunctor_eq (k : Links) (u : Stamp) (j : Junctor) (hb : ∃ t, k.junctors j = .bound t) :
    k.freeJunctor u j =
      { k with junctors := update k.junctors j (.holdoff u), holdoffOrder := k.holdoffOrder ++ [j] } := by
  obtain ⟨t, ht⟩ := hb
  simp only [freeJunctor, ht]

theorem freeJunctor_keeps (k : Links) (u : Stamp) (j : Junctor) :
    (k.freeJunctor u j).standing = k.standing ∧ (k.freeJunctor u j).lists = k.lists ∧
      (k.freeJunctor u j).serves = k.serves ∧ (k.freeJunctor u j).slots = k.slots ∧
      (k.freeJunctor u j).freeOrder = k.freeOrder := by
  unfold freeJunctor
  split <;> exact ⟨rfl, rfl, rfl, rfl, rfl⟩

@[simp] theorem freed_keeps (k : Links) (u : Stamp) (p : CallPhase) :
    (k.freed u p).standing = k.standing ∧ (k.freed u p).lists = k.lists ∧ (k.freed u p).serves = k.serves ∧
      (k.freed u p).freeOrder = k.freeOrder := by
  cases p <;> simp [freed, freeJunctor_keeps]

theorem freed_slots (k : Links) (u : Stamp) (p : CallPhase) :
    (k.freed u p).slots = match p.slot with | some o => update k.slots o none | none => k.slots := by
  cases p <;> simp [freed, freeJunctor_keeps, CallPhase.slot]

theorem freed_junctors (k : Links) (u : Stamp) (p : CallPhase) (hb : ∀ j, p.junctor = some j → ∃ t, k.junctors j = .bound t) :
    (k.freed u p).junctors = (match p.junctor with | some j => update k.junctors j (.holdoff u) | none => k.junctors) ∧
      (k.freed u p).holdoffOrder = k.holdoffOrder ++ p.junctor.toList := by
  cases p with
  | offered o x j =>
    have bound := hb j rfl
    simp [freed, freeJunctor_eq { k with slots := update k.slots o none } u j bound, CallPhase.junctor]
  | lentAlerting x j d => simp [freed, freeJunctor_eq k u j (hb j rfl), CallPhase.junctor]
  | lentTalking x j a => simp [freed, freeJunctor_eq k u j (hb j rfl), CallPhase.junctor]
  | _ => simp [freed, CallPhase.junctor]

namespace Sound

theorem but (h : k.Sound n F none) (p : Position) : k.Sound n F (some p) :=
  ⟨h.free, h.lists, fun hn a t ht => .inr ((h.agents hn a t ht).resolve_left (by simp)), h.orders, h.junctors, h.slots⟩

/-- The agent that stood out is bound to no local call now, or is named by it. -/
theorem bind {y : Option Trunk} (h : k.Sound n F (some p)) (hy : 1 ≤ n → ∀ t ∈ y, (k.standing t).agent = some p) :
    { k with serves := update k.serves p y }.Sound n F none := by
  refine ⟨h.free, h.lists, fun hn a t ht => .inr ?_, h.orders, h.junctors, h.slots⟩
  by_cases ha : a = p
  · subst ha
    exact hy hn t (by simpa using ht)
  · refine (h.agents hn a t (by simpa [ha] using ht)).resolve_left ?_
    simpa using Ne.symm ha

/-- What one record names does not change. -/
theorem alike {lists : QueueNo → List Trunk} (h : k.Sound n F e) (hF : F t → x = none)
    (hl : 1 ≤ n → k.Relisted t x lists) (ha : 1 ≤ n → ∀ p, k.serves p = some t → e = some p ∨ x.agent = some p)
    (hj : 2 ≤ n → x.junctor = (k.standing t).junctor) (ho : 2 ≤ n → x.offer = (k.standing t).offer) :
    (k.place t x lists).Sound n F e := by
  refine ⟨fun u hu => ?_, fun hn => (hl hn).lists (h.lists hn), fun hn p u hu => ?_, h.orders, fun hn j u => ?_,
    fun hn o u q => ?_⟩
  all_goals simp only [place] at *
  all_goals by_cases hut : u = t
  all_goals try subst hut
  · simpa using hF hu
  · simpa [hut] using h.free u hu
  · simpa using ha hn p hu
  · simpa [hut] using h.agents hn p u hu
  · simpa [hj hn] using h.junctors hn j u
  · simpa [hut] using h.junctors hn j u
  · simpa [ho hn] using h.slots hn o u q
  · simpa [hut] using h.slots hn o u q

/-- The record is written with no junctor and no slot, and what its phase held of them is freed (R29 to R33). -/
theorem released {lists : QueueNo → List Trunk} (h : k.Sound n F e) (u : Stamp) (ht : k.standing t = some (q, ph))
    (hl : 1 ≤ n → k.Relisted t x lists) (ha : 1 ≤ n → ∀ p, k.serves p = some t → e = some p) (hj : x.junctor = none)
    (ho : x.offer = none) : ((k.freed u ph).place t x lists).Sound n F e := by
  have held (hn : 2 ≤ n) : ∀ j, ph.junctor = some j → k.junctors j = .bound t := fun j hj => by
    simpa [ht, hj] using h.junctors hn j t
  have junctors (hn : 2 ≤ n) := freed_junctors k u ph fun j hj => ⟨t, held hn j hj⟩
  refine ⟨fun v hv => ?_, fun hn => ?_, fun hn p v hv => ?_, fun hn => ?_, fun hn j v => ?_, fun hn o v r => ?_⟩
  · have other : v ≠ t := by
      rintro rfl
      simp [h.free v hv] at ht
    simpa [place, other] using h.free v hv
  · simpa [place] using (hl hn).lists (h.lists hn)
  · by_cases hvt : v = t
    · subst hvt
      exact .inl (ha hn p (by simpa [place] using hv))
    · simpa [place, hvt] using h.agents hn p v (by simpa [place] using hv)
  · obtain ⟨free, holdoff, orders⟩ := h.orders hn
    obtain ⟨hjs, hho⟩ := junctors hn
    simp only [place, freed_keeps, hjs, hho]
    cases hp : ph.junctor with
    | none => simpa using ⟨free, holdoff, orders⟩
    | some j =>
      have bound := held hn j hp
      have no_order : j ∉ k.freeOrder ∧ j ∉ k.holdoffOrder := by simp [(orders j).1, (orders j).2, bound]
      refine ⟨free, List.nodup_append.2 ⟨holdoff, by simp, fun a ha b hb e => ?_⟩, fun i => ?_⟩
      · have same : b = j := by simpa using hb
        exact no_order.2 (same ▸ e ▸ ha)
      · by_cases hi : i = j
        · subst hi; simp [no_order.1]
        · simpa [hi] using orders i
  · obtain ⟨hjs, -⟩ := junctors hn
    simp only [place, freed_keeps, hjs]
    have old := h.junctors hn j v
    by_cases hvt : v = t
    · subst hvt
      simp only [Function.update_self, hj, reduceCtorEq, iff_false]
      rw [ht, Standing.junctor_some] at old
      cases hp : ph.junctor with
      | none => simpa [hp] using old
      | some i =>
        by_cases hji : j = i
        · subst hji; simp
        · simpa [hp, hji, Ne.symm hji] using old
    · simp only [Function.update_of_ne hvt]
      cases hp : ph.junctor with
      | none => exact old
      | some i =>
        by_cases hji : j = i
        · subst hji
          have bound := held hn j hp
          have not_v : (k.standing v).junctor ≠ some j := fun hv => by
            simpa [bound, Ne.symm hvt] using old.2 hv
          simp [not_v]
        · simpa [hji] using old
  · simp only [place, freed_keeps, freed_slots]
    have old := h.slots hn o v r
    have offered (i : SlotNo) (hi : ph.slot = some i) : k.slots i = some (t, q) := by
      simpa [ht, hi] using h.slots hn i t q
    by_cases hvt : v = t
    · subst hvt
      simp only [Function.update_self, ho, reduceCtorEq, iff_false]
      rw [ht, Standing.offer_some] at old
      cases hp : ph.slot with
      | none => simpa [hp] using old
      | some i =>
        by_cases hoi : o = i
        · subst hoi; simp
        · simpa [hp, hoi, Ne.symm hoi] using old
    · simp only [Function.update_of_ne hvt]
      cases hp : ph.slot with
      | none => exact old
      | some i =>
        by_cases hoi : o = i
        · subst hoi
          have not_v : (k.standing v).offer ≠ some (o, r) := fun hv => by
            simpa [offered o hp, Ne.symm hvt] using old.2 hv
          simp [not_v]
        · simpa [hoi] using old

/-- A QUEUED call is taken by an agent (R26, R59). -/
theorem ring (h : k.Sound n F (some p)) (ht : k.standing t = some (q, .queued)) {y : Option Trunk} (hy : ∀ u ∈ y, u = t) :
    { k.place t (some (q, .alerting p)) (update k.lists q ((k.lists q).erase t)) with
      serves := update k.serves p y }.Sound n F none := by
  have taken : (k.place t (some (q, .alerting p)) (update k.lists q ((k.lists q).erase t))).Sound n F (some p) := by
    refine h.alike (fun hF => ?_) (fun hn => Relisted.erase (h.lists hn) ht rfl) (fun hn a hs => .inl ?_)
      (fun hn => by rw [ht]; rfl) fun hn => by rw [ht]; rfl
    · simp [h.free t hF] at ht
    · simpa [ht, CallPhase.agent] using h.agents hn a t hs
  refine taken.bind fun hn u hu => ?_
  obtain rfl := hy u hu
  simp [place, CallPhase.agent]

/-- An OFFERED call is lent over its junctor, and its slot is free (R27). -/
theorem lend {o : SlotNo} {w : Station} {j : Junctor} {d : Stamp} (h : k.Sound n F e)
    (ht : k.standing t = some (q, .offered o w j)) (w' : Station) :
    { k.place t (some (q, .lentAlerting w' j d)) (update k.lists q ((k.lists q).erase t)) with
      slots := update k.slots o none }.Sound n F e := by
  have offered (hn : 2 ≤ n) : k.slots o = some (t, q) := by
    simpa [ht, CallPhase.slot] using h.slots hn o t q
  refine ⟨fun v hv => ?_, fun hn => ?_, fun hn p v hv => ?_, h.orders, fun hn i v => ?_, fun hn i v r => ?_⟩
  · have other : v ≠ t := by
      rintro rfl
      simp [h.free v hv] at ht
    simpa [place, other] using h.free v hv
  · exact (Relisted.erase (h.lists hn) ht rfl).lists (h.lists hn)
  · by_cases hvt : v = t
    · subst hvt
      simpa [ht, CallPhase.agent, place] using h.agents hn p v hv
    · simpa [place, hvt] using h.agents hn p v hv
  · have old := h.junctors hn i v
    by_cases hvt : v = t
    · subst hvt
      simpa [ht, place, CallPhase.junctor] using old
    · simpa [place, hvt] using old
  · have old := h.slots hn i v r
    by_cases hio : i = o
    · subst hio
      by_cases hvt : v = t
      · subst hvt; simp [place, CallPhase.slot]
      · have not_v : (k.standing v).offer ≠ some (i, r) := fun hv => by
          simpa [offered hn, Ne.symm hvt] using old.2 hv
        simp [place, hvt, not_v]
    · by_cases hvt : v = t
      · subst hvt
        simpa [ht, place, CallPhase.slot, hio, Ne.symm hio] using old
      · simpa [place, hvt, hio] using old

/-- A QUEUED call is offered in a FREE slot over the junctor at the head of the free order (R136, R170). -/
theorem offer {o : SlotNo} {j : Junctor} {r : QueueNo} (w : Station) (h : k.Sound n F e)
    (ht : k.standing t = some (q, .queued)) (hr : 2 ≤ n → r = q) (ho : k.slots o = none) (hj : k.freeOrder.head? = some j) :
    { k.place t (some (q, .offered o w j)) k.lists with
      slots := update k.slots o (some (t, r))
      junctors := update k.junctors j (.bound t)
      freeOrder := k.freeOrder.tail }.Sound n F e := by
  obtain ⟨rest, hrest⟩ : ∃ rest, k.freeOrder = j :: rest := by
    cases hf : k.freeOrder with
    | nil => simp [hf] at hj
    | cons i rest => exact ⟨rest, by simpa [hf] using hj⟩
  have free (hn : 2 ≤ n) : k.junctors j = .free := by
    simpa [hrest] using ((h.orders hn).2.2 j).1
  refine ⟨fun v hv => ?_, fun hn => ?_, fun hn p v hv => ?_, fun hn => ?_, fun hn i v => ?_, fun hn i v m => ?_⟩
  · have other : v ≠ t := by
      rintro rfl
      simp [h.free v hv] at ht
    simpa [place, other] using h.free v hv
  · exact (Relisted.stays (h.lists hn) (by simp [ht, CallPhase.listed])).lists (h.lists hn)
  · by_cases hvt : v = t
    · subst hvt
      simpa [ht, CallPhase.agent, place] using h.agents hn p v hv
    · simpa [place, hvt] using h.agents hn p v hv
  · obtain ⟨nodup, holdoff, orders⟩ := h.orders hn
    rw [hrest, List.nodup_cons] at nodup
    refine ⟨by simpa [hrest] using nodup.2, holdoff, fun i => ?_⟩
    by_cases hi : i = j
    · subst hi
      have no_holdoff : i ∉ k.holdoffOrder := by simp [(orders i).2, free hn]
      simp [place, hrest, nodup.1, no_holdoff]
    · simpa [place, hrest, hi] using orders i
  · have old := h.junctors hn i v
    by_cases hij : i = j
    · subst hij
      by_cases hvt : v = t
      · subst hvt; simp [place, CallPhase.junctor]
      · have not_v : (k.standing v).junctor ≠ some i := fun hv => by simpa [free hn] using old.2 hv
        simp [place, hvt, Ne.symm hvt, not_v]
    · by_cases hvt : v = t
      · subst hvt
        simpa [ht, place, CallPhase.junctor, hij, Ne.symm hij] using old
      · simpa [place, hvt, hij] using old
  · have old := h.slots hn i v m
    by_cases hio : i = o
    · subst hio
      by_cases hvt : v = t
      · subst hvt; simp [place, CallPhase.slot, hr hn]
      · have not_v : (k.standing v).offer ≠ some (i, m) := fun hv => by simpa [ho] using old.2 hv
        simp [place, hvt, Ne.symm hvt, not_v]
    · by_cases hvt : v = t
      · subst hvt
        simpa [ht, place, CallPhase.slot, hio, Ne.symm hio] using old
      · simpa [place, hvt, hio] using old

/-- Some of the HOLDOFF junctors become FREE, at the tail of the free order (R137). -/
theorem endHoldoffs (h : k.Sound n F e) (r : Junctor → Bool) (junctors : Junctor → JunctorRec)
    (hj : ∀ j, junctors j = if j ∈ k.holdoffOrder.filter r then .free else k.junctors j) :
    { k with
      junctors := junctors
      holdoffOrder := k.holdoffOrder.filter fun j => !r j
      freeOrder := k.freeOrder ++ k.holdoffOrder.filter r }.Sound n F e := by
  refine ⟨h.free, h.lists, h.agents, fun hn => ?_, fun hn j t => ?_, h.slots⟩
  · obtain ⟨free, holdoff, orders⟩ := h.orders hn
    refine ⟨?_, holdoff.filter _, fun j => ?_⟩
    · refine List.nodup_append.2 ⟨free, holdoff.filter _, fun i hi l hl => ?_⟩
      rintro rfl
      obtain ⟨u, hu⟩ := (orders i).2.1 (List.mem_of_mem_filter hl)
      simpa [hu] using (orders i).1.1 hi
    · have old := orders j
      simp only [hj, List.mem_append, List.mem_filter]
      by_cases held : j ∈ k.holdoffOrder
      · obtain ⟨u, hu⟩ := old.2.1 held
        cases hr : r j <;> simp [held, hu, old.1]
      · simpa [held] using old
  · have old := h.junctors hn j t
    rw [← old]
    simp only [hj]
    split
    next freed =>
      obtain ⟨u, hu⟩ := ((h.orders hn).2.2 j).2.1 (List.mem_of_mem_filter freed)
      simp [hu]
    next => rfl

end Sound
end
end Links
end Sys2Proof.Machine
end

section
/-! PROOF. The links of a state, what each setter and shared operation does to them, and the operations that leave them. -/

namespace Sys2Proof.Machine

open Function (update)

/-- The links of a state. -/
def State.links (s : State) : Links where
  standing t := (s.call t).map fun b => (b.queue, b.phase)
  lists q := s.cqm.lists[q]
  serves p := s.dsu.agents[p].post.bind (·.duty.localCall)
  junctors j := s.sps.junctors[j]
  freeOrder := s.sps.freeOrder
  holdoffOrder := s.sps.holdoffOrder
  slots o := s.ofu.slots[o].map fun d => (d.trunk, d.queue)

namespace State

variable (s : State)

theorem standing_of_call {s : State} {t : Trunk} {b : CallBody} (h : s.call t = some b) :
    s.links.standing t = some (b.queue, b.phase) := by
  simp [links, h]

theorem standing_of_free {s : State} {t : Trunk} (h : s.call t = none) : s.links.standing t = none := by
  simp [links, h]

/-- The links are seen in the calls and lists, the agents, the junctors with their orders, and the slots. -/
theorem links_congr {s u : State} (hc : u.cqm = s.cqm) (ha : u.dsu.agents = s.dsu.agents)
    (hj : u.sps.junctors = s.sps.junctors) (hf : u.sps.freeOrder = s.sps.freeOrder)
    (hh : u.sps.holdoffOrder = s.sps.holdoffOrder) (ho : u.ofu.slots = s.ofu.slots) : u.links = s.links := by
  simp only [links, call, hc, ha, hj, hf, hh, ho]

/-! ## The setters -/

theorem getElem_set_eq_update {α : Type} {n : Nat} (v : Vector α n) (i : Fin n) (x : α) :
    (fun j : Fin n => (v.set i x)[j]) = update (fun j : Fin n => v[j]) i x := by
  funext j
  by_cases h : j = i
  · subst h; simp
  · simp [h, Claims.getElem_set_other _ _ h]

theorem setCall_links (t : Trunk) (x : CallRec) :
    (s.setCall t x).links = s.links.place t (x.body.map fun b => (b.queue, b.phase)) s.links.lists := by
  have standing : (fun i : Trunk => (s.cqm.calls.set t x)[i].body.map fun b => (b.queue, b.phase)) =
      update (fun i : Trunk => s.cqm.calls[i].body.map fun b => (b.queue, b.phase)) t
        (x.body.map fun b => (b.queue, b.phase)) := by
    funext i
    by_cases h : i = t
    · subst h; simp
    · simp [h, Claims.getElem_set_other _ _ h]
  simp only [links, Links.place, call, setCall_fields]
  rw [standing]

theorem setList_links (q : QueueNo) (l : List Trunk) :
    (s.setList q l).links = { s.links with lists := update s.links.lists q l } := by
  simp only [links, call, setList_fields, getElem_set_eq_update]

theorem setAgent_links (p : Position) (a : AgentRec) :
    (s.setAgent p a).links = { s.links with serves := update s.links.serves p (a.post.bind (·.duty.localCall)) } := by
  have serves : (fun i : Position => (s.dsu.agents.set p a)[i].post.bind (·.duty.localCall)) =
      update (fun i : Position => s.dsu.agents[i].post.bind (·.duty.localCall)) p (a.post.bind (·.duty.localCall)) := by
    funext i
    by_cases h : i = p
    · subst h; simp
    · simp [h, Claims.getElem_set_other _ _ h]
  simp only [links, call, setAgent_fields]
  rw [serves]

/-- An agent's record with the same local call. -/
theorem setAgent_links_same {p : Position} {a : AgentRec} (h : a.post.bind (·.duty.localCall) = s.links.serves p) :
    (s.setAgent p a).links = s.links := by
  rw [setAgent_links, h, Function.update_eq_self]

theorem setJunctor_links (j : Junctor) (x : JunctorRec) :
    (s.setJunctor j x).links = { s.links with junctors := update s.links.junctors j x } := by
  simp only [links, call, setJunctor_fields, getElem_set_eq_update]

theorem setSlot_links (o : SlotNo) (x : Option OfferSlot) :
    (s.setSlot o x).links = { s.links with slots := update s.links.slots o (x.map fun d => (d.trunk, d.queue)) } := by
  have slots : (fun i : SlotNo => (s.ofu.slots.set o x)[i].map fun d => (d.trunk, d.queue)) =
      update (fun i : SlotNo => s.ofu.slots[i].map fun d => (d.trunk, d.queue)) o (x.map fun d => (d.trunk, d.queue)) := by
    funext i
    by_cases h : i = o
    · subst h; simp
    · simp [h, Claims.getElem_set_other _ _ h]
  simp only [links, call, setSlot_fields]
  rw [slots]

/-! ## The shared operations -/

@[simp] theorem issue_links (o : Order) : (s.issue o).links = s.links :=
  links_congr (by simp) (by simp) (by simp) (by simp) (by simp) (by simp)

@[simp] theorem writeReport_links (r : Report) : (s.writeReport r).links = s.links :=
  links_congr (by simp) (by simp) (by simp) (by simp) (by simp) (by simp)

@[simp] theorem give_links (x : Station) (p : Payload) : (s.give x p).links = s.links :=
  links_congr (by simp) (by simp) (by simp) (by simp) (by simp) (by simp)

@[simp] theorem requestNotice_links : s.requestNotice.links = s.links :=
  links_congr (by simp) (by simp) (by simp) (by simp) (by simp) (by simp)

@[simp] theorem reportAgent_links (before : State) (p : Position) (c : AgentCause) : (s.reportAgent before p c).links = s.links :=
  links_congr (by simp) (by simp) (by simp) (by simp) (by simp) (by simp)

@[simp] theorem close_links (before : State) : (s.close before).links = s.links :=
  links_congr (by simp) (by simp) (by simp) (by simp) (by simp) (by simp)

@[simp] theorem refresh_links : s.refresh.links = s.links :=
  links_congr (by simp) (by simp) (by simp) (by simp) (by simp) (by simp)

@[simp] theorem sample_links (q : QueueNo) (n : Nat) : (s.sample q n).links = s.links := rfl

@[simp] theorem setPlc_links (c : Plc) : (s.setPlc c).links = s.links := rfl

@[simp] theorem setPeer_links (x : Station) (e : PeerEntry) : (s.setPeer x e).links = s.links := rfl

@[simp] theorem setGuest_links (g : GuestNo) (x : Option GuestRec) : (s.setGuest g x).links = s.links := rfl

@[simp] theorem setChannel_links (c : Channel) (r : ChannelRec) : (s.setChannel c r).links = s.links := rfl

@[simp] theorem clearTrunk_links (t : Trunk) : (s.clearTrunk t).links = s.links := by
  change (s.issue (.clear t)).links = s.links
  simp

@[simp] theorem setPendingAction_links (p : Position) (a : PendingAction) : (s.setPendingAction p a).links = s.links :=
  s.setAgent_links_same rfl

theorem modifyCall_links (t : Trunk) (f : CallBody → CallBody) :
    (s.modifyCall t f).links = s.links.place t ((s.call t).map fun b => ((f b).queue, (f b).phase)) s.links.lists := by
  rw [modifyCall, setCall_links, Option.map_map]
  rfl

/-- A change of the hold fields. -/
theorem modifyCall_links_same {t : Trunk} {f : CallBody → CallBody} (hf : ∀ b, (f b).queue = b.queue ∧ (f b).phase = b.phase) :
    (s.modifyCall t f).links = s.links := by
  have stays : ((s.call t).map fun b => ((f b).queue, (f b).phase)) = s.links.standing t := by
    simp only [links, (hf _).1, (hf _).2]
  rw [modifyCall_links, stays, Links.place, Function.update_eq_self]

theorem setPhase_links (t : Trunk) (p : CallPhase) :
    (s.setPhase t p).links = s.links.place t ((s.links.standing t).map fun y => (y.1, p)) s.links.lists := by
  rw [setPhase, modifyCall_links, links, Option.map_map]
  rfl

@[simp] theorem removeEntry_links (t : Trunk) : (s.removeEntry t).links = s.links :=
  modifyCall_links_same (s.setWaiting (s.htu.waiting.filter fun e => e.trunk ≠ t)) fun _ => ⟨rfl, rfl⟩

@[simp] theorem joinWaiting_links (t : Trunk) (c : Clip) : (s.joinWaiting t c).links = s.links :=
  modifyCall_links_same (s.setWaiting (s.htu.waiting ++ [⟨t, c⟩])) fun _ => ⟨rfl, rfl⟩

@[simp] theorem sourceToMusic_links (t : Trunk) : (s.sourceToMusic t).links = s.links :=
  modifyCall_links_same s fun _ => ⟨rfl, rfl⟩

@[simp] theorem sourceToNone_links (t : Trunk) : (s.sourceToNone t).links = s.links :=
  modifyCall_links_same s fun _ => ⟨rfl, rfl⟩

theorem removeCall_links (q : QueueNo) (t : Trunk) :
    (s.removeCall q t).links = { s.links with lists := update s.links.lists q ((s.links.lists q).erase t) } :=
  s.setList_links q _

/-- The record is put into the list, wherever its keys place it. -/
theorem insertCall_links (q : QueueNo) (t : Trunk) :
    ∃ l, l.Perm (t :: s.links.lists q) ∧ (s.insertCall q t).links = { s.links with lists := update s.links.lists q l } := by
  refine ⟨_, ?_, s.setList_links q _⟩
  refine List.perm_middle.trans (List.Perm.of_eq ?_)
  rw [List.takeWhile_append_dropWhile]
  rfl

theorem freeJunctor_links (j : Junctor) :
    (s.freeJunctor j).links = s.links.freeJunctor (deadline s.now s.items.junctorHoldoff) j := by
  have held : s.links.junctors j = s.sps.junctors[j] := rfl
  unfold freeJunctor Links.freeJunctor
  cases hj : s.sps.junctors[j] with
  | bound t =>
    simp only [held, hj]
    have written := s.setJunctor_links j (.holdoff (deadline s.now s.items.junctorHoldoff))
    exact congrArg (fun k : Links => { k with holdoffOrder := k.holdoffOrder ++ [j] }) written
  | free => simp only [held, hj]
  | holdoff u => simp only [held, hj]

theorem freeOverflow_links (p : CallPhase) :
    (s.freeOverflow p).links = s.links.freed (deadline s.now s.items.junctorHoldoff) p := by
  cases p with
  | offered o x j =>
    have slot : (s.setSlot o none).links = { s.links with slots := update s.links.slots o none } := s.setSlot_links o none
    change ((s.setSlot o none).freeJunctor j).links = { s.links with slots := update s.links.slots o none }.freeJunctor _ j
    rw [← slot]
    exact freeJunctor_links (s.setSlot o none) j
  | lentAlerting x j d => exact s.freeJunctor_links j
  | lentTalking x j a => exact s.freeJunctor_links j
  | _ => rfl

/-! ## Playback -/

theorem foldl_links {α : Type} {f : State → α → State} (hf : ∀ v a, (f v a).links = v.links) (l : List α) :
    (l.foldl f s).links = s.links := by
  induction l generalizing s with
  | nil => rfl
  | cons a l ih => exact (ih (f s a)).trans (hf s a)

@[simp] theorem refuseClip_links (c : Clip) : (s.refuseClip c).links = s.links :=
  foldl_links (s.dropEntries c) (f := fun u t => u.modifyCall t fun b =>
    { b with waiting := false, nextDue := u.freshDue b.queue }) (fun v _ => v.modifyCall_links_same fun _ => ⟨rfl, rfl⟩) _

@[simp] theorem closeGate_links (c : Channel) (k : Clip) : (s.closeGate c k).links = s.links :=
  foldl_links (s.dropEntries k) (f := fun u t => u.modifyCall t fun b => { b with waiting := false, source := some c })
    (fun v _ => v.modifyCall_links_same fun _ => ⟨rfl, rfl⟩) _

@[simp] theorem startAnnouncement_links (c : Channel) (k : Clip) : (s.startAnnouncement c k).links = s.links := by
  unfold startAnnouncement
  split
  · rfl
  · simp [storeFault]

@[simp] theorem startCheck_links (n : Nat) : (s.startCheck n).links = s.links := by
  induction n generalizing s with
  | zero => rfl
  | succ n ih =>
    unfold startCheck
    split
    · rw [ih, startAnnouncement_links]
    · rfl

@[simp] theorem grant_links : s.grant.links = s.links :=
  links_congr (by simp) (by simp) (by simp) (by simp) (by simp) (by simp)

@[simp] theorem segmentBoundary_links (c : Channel) : (s.segmentBoundary c).links = s.links := by
  refine s.foldl_links (fun v t => ?_) _
  unfold takeUp
  split
  · rfl
  · split
    case h_1 | h_2 =>
      split
      · split
        · exact v.joinWaiting_links t _
        · rfl
      · rfl
    all_goals rfl

@[simp] theorem endAnnouncement_links (c : Channel) : (s.endAnnouncement c).links = s.links := by
  refine s.foldl_links (fun v t => ?_) _
  unfold returnListener
  split
  · split
    · exact v.modifyCall_links_same fun _ => ⟨rfl, rfl⟩
    · rfl
  · rfl

@[simp] theorem boundaryWork_links (c : Channel) : (s.boundaryWork c).links = s.links := by
  have channel : (s.channelBoundary c).1.links = s.links :=
    links_congr (by simp) (by simp) (by simp) (by simp) (by simp) (by simp)
  have boundary : (s.boundaryOf c).links = s.links := by
    rw [← channel]
    unfold boundaryOf
    split <;> rename_i e <;> rw [e] <;> simp
  rw [← boundary]
  unfold boundaryWork
  simp only
  split <;> simp

@[simp] theorem fetchDone_links (l : List Byte) (fault : Bool) : (s.fetchDone l fault).links = s.links := by
  have received (v : State) (c : Channel) (x : ClipRun) (a : Audio) : (v.receiveBlock c x a).links = v.links := by
    unfold receiveBlock
    simp only
    split
    · split <;> simp
    · rfl
    · rfl
  have free : (s.setPort none).links = s.links := rfl
  have fault (v : State) (c : Channel) (k : Clip) (e : StoreFaultCause) : (v.storeFault c k e).links = v.links := by
    simp [storeFault]
  unfold fetchDone
  split
  · rfl
  · simp only
    split
    · simp [free]
    · split
      · simp [free]
      · split <;> simp [received, fault, free]

end State

end Sys2Proof.Machine
end

section
/-! PROOF. Every operation of the calls, the agents and the overflow keeps the invariants of the links: each is put together from
the acts of `Links.Sound`. -/

namespace Sys2Proof.Machine

open Function (update)

/-- The links of the state have the invariants of the level. -/
def State.Sound (s : State) (n : Nat) (F : Trunk → Prop) (e : Option Position) : Prop := s.links.Sound n F e

namespace State.Sound

variable {n : Nat} {F : Trunk → Prop} {e : Option Position} {u v : State} {t : Trunk} {p : Position}

theorem same (h : u.Sound n F e) (k : v.links = u.links) : v.Sound n F e := by
  rwa [State.Sound, k]

theorem but (h : u.Sound n F none) (p : Position) : u.Sound n F (some p) := Links.Sound.but h p

theorem issue (h : u.Sound n F e) {o : Order} : (u.issue o).Sound n F e := h.same (by simp)

theorem writeReport (h : u.Sound n F e) {r : Report} : (u.writeReport r).Sound n F e := h.same (by simp)

theorem give (h : u.Sound n F e) {x : Station} {c : Payload} : (u.give x c).Sound n F e := h.same (by simp)

theorem requestNotice (h : u.Sound n F e) : u.requestNotice.Sound n F e := h.same (by simp)

theorem reportAgent (h : u.Sound n F e) {before : State} {c : AgentCause} : (u.reportAgent before p c).Sound n F e :=
  h.same (by simp)

theorem setGuest (h : u.Sound n F e) {g : GuestNo} {x : Option GuestRec} : (u.setGuest g x).Sound n F e := h.same rfl

theorem event (h : u.Sound n F e) {f : State → State} (hf : u.Sound n F e → (f u).Sound n F e) :
    (u.event f).Sound n F e :=
  (hf h).same (by simp [State.event])

theorem foldl {α : Type} {f : State → α → State} (l : List α) (h : u.Sound n F e)
    (hf : ∀ v a, v.Sound n F e → (f v a).Sound n F e) : (l.foldl f u).Sound n F e :=
  List.foldlRecOn (motive := fun v : State => v.Sound n F e) l f h fun v hv a _ => hf v a hv

/-! ## Agents -/

/-- An agent's record that is bound to no local call. -/
theorem setAgent (h : u.Sound n F (some p)) {a : AgentRec} (ha : a.post.bind (·.duty.localCall) = none) :
    (u.setAgent p a).Sound n F none := by
  rw [State.Sound, State.setAgent_links, ha]
  exact Links.Sound.bind h fun _ _ ht => by simp at ht

theorem setDuty (h : u.Sound n F (some p)) {d : Duty} (hd : d.localCall = none) : (u.setDuty p d).Sound n F none := by
  refine h.setAgent ?_
  cases u.dsu.agents[p].post <;> simp [hd]

theorem leaveIdle (h : u.Sound n F e) : (u.leaveIdle p).Sound n F e := h.same rfl

theorem setPendingAction (h : u.Sound n F e) {a : PendingAction} : (u.setPendingAction p a).Sound n F e := h.same (by simp)

theorem toNotReady (h : u.Sound n F (some p)) : (u.toNotReady p).Sound n F none := (h.leaveIdle.setDuty rfl).setPendingAction

theorem toSignedOff (h : u.Sound n F (some p)) : (u.toSignedOff p).Sound n F none := h.leaveIdle.setAgent rfl

theorem outOfService (h : u.Sound n F (some p)) : (u.outOfService p).Sound n F none := by
  unfold State.outOfService
  split
  · exact h.toSignedOff
  · exact h.toNotReady

/-- The agent is rung for a guest. -/
theorem ringAgent_guest (h : u.Sound n F (some p)) {g : GuestNo} : (u.ringAgent p (.guest g)).Sound n F none :=
  (h.leaveIdle.setDuty rfl).issue

/-! ## The match attempt and the walk -/


/-- What an agent rung for a call changes of the links. -/
theorem ringForCall_links {b : CallBody} (hc : u.call t = some b) :
    (u.ringForCall p t).links =
      { u.links.place t (some (b.queue, .alerting p)) (update u.links.lists b.queue ((u.links.lists b.queue).erase t)) with
        serves := update u.links.serves p (u.dsu.agents[p].post.bind fun _ => some t) } := by
  have rung : (u.ringAgent p (.call t)).links = { u.links with
      serves := update u.links.serves p (u.dsu.agents[p].post.bind fun _ => some t) } := by
    rw [State.ringAgent, State.issue_links, State.setDuty, State.setAgent_links, Option.bind_map]
    rfl
  rw [Claims.ringForCall_eq hc, State.sourceToMusic_links, State.removeEntry_links, State.setPhase_links,
    State.removeCall_links, rung]
  simp only [Links.place, State.standing_of_call hc, Option.map_some]

theorem ringForCall (h : u.Sound n F (some p)) {q : QueueNo} (ht : u.links.standing t = some (q, .queued)) :
    (u.ringForCall p t).Sound n F none := by
  cases hc : u.call t with
  | none => simp [State.standing_of_free hc] at ht
  | some b =>
    obtain ⟨rfl, -⟩ : b.queue = q ∧ b.phase = .queued := by simpa [State.standing_of_call hc] using ht
    rw [State.Sound, ringForCall_links hc]
    refine Links.Sound.ring h ht fun w hw => ?_
    obtain ⟨-, -, same⟩ := Option.bind_eq_some_iff.1 hw
    exact (Option.some.inj same).symm

theorem chooseAgent (h : u.Sound n F e) {q : QueueNo} (hv : u.chooseAgent q = some (p, v)) :
    v.Sound n F e ∧ v.links = u.links := by
  obtain ⟨-, rfl | rfl⟩ := State.chooseAgent_cases u hv
  · exact ⟨h, rfl⟩
  · exact ⟨h.same rfl, rfl⟩

theorem matchCall (h : u.Sound n F none) {q : QueueNo} (ht : u.links.standing t = some (q, .queued)) :
    (u.matchCall t).Sound n F none := by
  unfold State.matchCall
  split
  · exact h
  · split
    · exact h
    next p v hv =>
      obtain ⟨sound, links⟩ := h.chooseAgent hv
      exact (sound.but p).ringForCall (links ▸ ht)

theorem standing_of_isQueued (h : u.isQueued t = true) : ∃ q, u.links.standing t = some (q, .queued) := by
  unfold State.isQueued at h
  split at h
  next b hb => exact ⟨b.queue, by simpa [State.standing_of_call hb] using h⟩
  next => cases h

theorem standing_of_headEligible {q : QueueNo} (h : u.headEligible q = some t) : ∃ r, u.links.standing t = some (r, .queued) :=
  standing_of_isQueued (List.find?_some h)

theorem standing_of_profileWalk (h : u.profileWalk p = some t) : ∃ q, u.links.standing t = some (q, .queued) := by
  unfold State.profileWalk at h
  split at h
  · cases h
  · obtain ⟨q, -, hq⟩ := List.exists_of_findSome?_eq_some h
    exact standing_of_headEligible hq

theorem becomeReady (h : u.Sound n F (some p)) : (u.becomeReady p).Sound n F none := by
  have waits : (u.setPendingAction p .none).Sound n F (some p) := h.setPendingAction
  cases hw : u.profileWalk p with
  | none =>
    rw [Claims.becomeReady_of_none hw]
    exact (waits.setDuty (d := .ready u.now) rfl).same rfl
  | some t =>
    rw [Claims.becomeReady_of_call hw]
    obtain ⟨q, hq⟩ := standing_of_profileWalk hw
    exact waits.ringForCall (q := q) (by simpa using hq)

theorem takePending (h : u.Sound n F (some p)) : (u.takePending p).Sound n F none := by
  unfold State.takePending
  split
  · exact h.toNotReady
  · exact h.toSignedOff
  all_goals exact h.becomeReady

theorem endWrap (h : u.Sound n F (some p)) {w : WrapFields} {b : EndedBy} {d : Destination} :
    (u.endWrap p w b d).Sound n F none := by
  have k : ((u.writeReport (.wrapEnd p w.queue (elapsed w.start u.now) b)).sample w.queue
      (clamp16 (w.talk + elapsed w.start u.now))).Sound n F (some p) := h.same (by simp)
  cases d
  · exact k.becomeReady
  · exact k.toNotReady
  · exact k.toSignedOff

theorem openWrap (h : u.Sound n F (some p)) {q : QueueNo} {m : Nat} : (u.openWrap p q m).Sound n F none := by
  unfold State.openWrap
  simp only
  split
  · exact ((h.setDuty rfl).but p).endWrap
  · exact h.setDuty rfl

/-! ## The ends and the returns of calls -/

/-- What an ended call leaves of the links. -/
theorem endCall_links {b : CallBody} (h : u.call t = some b) :
    (u.endCall t).links = (u.links.freed (deadline u.now u.items.junctorHoldoff) b.phase).place t none
      (update u.links.lists b.queue ((u.links.lists b.queue).erase t)) := by
  have holdoff : deadline (u.clearTrunk t).now (u.clearTrunk t).items.junctorHoldoff = deadline u.now u.items.junctorHoldoff := by
    simp [State.now, State.items]
  obtain ⟨-, lists, -, -⟩ := Links.freed_keeps u.links (deadline u.now u.items.junctorHoldoff) b.phase
  rw [Claims.endCall_eq h]
  simp only [State.writeReport_links, State.setCall_links, State.removeEntry_links, State.removeCall_links,
    State.freeOverflow_links, State.clearTrunk_links, holdoff, lists]
  rfl

/-- A call ends; the agent that serves it, if one does, is the one that stands out. -/
theorem endCall (h : u.Sound n F e) (ha : 1 ≤ n → ∀ p, u.links.serves p = some t → e = some p) : (u.endCall t).Sound n F e := by
  cases hc : u.call t with
  | none => simpa only [State.endCall, hc] using h
  | some b =>
    have standing := State.standing_of_call hc
    rw [State.Sound, endCall_links hc]
    exact Links.Sound.released h _ standing (fun hn => Links.Relisted.erase (h.lists hn) standing rfl) ha rfl rfl

/-- No agent serves a call that names none. -/
theorem unserved (h : u.Sound n F e) (ht : (u.links.standing t).agent = none) :
    1 ≤ n → ∀ p, u.links.serves p = some t → e = some p := fun hn p hp =>
  (h.agents hn p t hp).resolve_right (by simp [ht])

theorem endCall_unserved (h : u.Sound n F e) (ht : (u.links.standing t).agent = none) : (u.endCall t).Sound n F e :=
  h.endCall (h.unserved ht)

/-- The agent that the record names may still serve it. -/
theorem endCall_served (h : u.Sound n F none) (ht : (u.links.standing t).agent = some p) :
    (u.endCall t).Sound n F (some p) :=
  (h.but p).endCall fun hn a ha => by
    have named := (h.agents hn a t ha).resolve_left (by simp)
    exact ht.symm.trans named

/-- A record that has been written as QUEUED, what it held of the overflow freed. -/
theorem released_links {b : CallBody} (hc : u.call t = some b) {f : CallBody → CallBody}
    (hf : ∀ b, (f b).queue = b.queue ∧ (f b).phase = .queued) :
    ((u.freeOverflow b.phase).modifyCall t f).links =
      (u.links.freed (deadline u.now u.items.junctorHoldoff) b.phase).place t (some (b.queue, .queued)) u.links.lists := by
  have same : (u.freeOverflow b.phase).call t = some b := by simpa [State.call] using hc
  obtain ⟨-, lists, -, -⟩ := Links.freed_keeps u.links (deadline u.now u.items.junctorHoldoff) b.phase
  rw [State.modifyCall_links, same, State.freeOverflow_links, Option.map_some, (hf b).1, (hf b).2, lists]

theorem failOffer_of_offered {b : CallBody} {o : SlotNo} {x : Station} {j : Junctor} (hc : u.call t = some b)
    (hp : b.phase = .offered o x j) : u.failOffer t = ((u.freeOverflow b.phase).setPhase t .queued).matchCall t := by
  obtain ⟨phase⟩ := b
  obtain rfl : phase = .offered o x j := hp
  simp only [State.failOffer, hc]

theorem failOffer (h : u.Sound n F none) : (u.failOffer t).Sound n F none := by
  by_cases offered : ∃ b, u.call t = some b ∧ ∃ o x j, b.phase = .offered o x j
  · obtain ⟨b, hc, o, x, j, hp⟩ := offered
    have standing := State.standing_of_call hc
    have queued : ((u.freeOverflow b.phase).setPhase t .queued).links = _ := released_links hc fun _ => ⟨rfl, rfl⟩
    have sound : ((u.freeOverflow b.phase).setPhase t .queued).Sound n F none := by
      rw [State.Sound, queued]
      refine Links.Sound.released h _ standing (fun hn => Links.Relisted.stays (h.lists hn) ?_)
        (h.unserved (by simp [standing, hp, CallPhase.agent])) rfl rfl
      simp [standing, hp, CallPhase.listed]
    rw [failOffer_of_offered hc hp]
    exact sound.matchCall (q := b.queue) (by simp [queued, Links.place])
  · unfold State.failOffer
    split
    next o x j _ _ _ _ _ _ _ _ hc => exact absurd ⟨_, hc, o, x, j, rfl⟩ offered
    next => exact h

/-- The record returns to its list, and is matched. -/
theorem requeue {b : CallBody} (h : u.Sound n F none) (hc : u.call t = some b) (hl : b.phase.listed = false)
    (ha : 1 ≤ n → ∀ p, u.links.serves p ≠ some t) {f : CallBody → CallBody}
    (hf : ∀ b, (f b).queue = b.queue ∧ (f b).phase = .queued) :
    (((u.freeOverflow b.phase).modifyCall t f).requeue b.queue t).Sound n F none := by
  have standing := State.standing_of_call hc
  have queued := released_links hc hf
  obtain ⟨l, perm, placed⟩ := State.insertCall_links ((u.freeOverflow b.phase).modifyCall t f) b.queue t
  rw [queued] at perm placed
  refine matchCall (q := b.queue) ?_ ?_
  · rw [State.Sound, State.sourceToMusic_links, State.removeEntry_links, placed]
    refine Links.Sound.released h _ standing (fun hn => Links.Relisted.insert (h.lists hn) ?_ perm rfl)
      (fun hn p hp => absurd hp (ha hn p)) rfl rfl
    simp [standing, hl]
  · simp [placed, Links.place]

/-- A call returns (R28 to R31), where no agent serves it any more. -/
theorem returnCall (h : u.Sound n F none) (ha : 1 ≤ n → ∀ p, u.links.serves p ≠ some t) : (u.returnCall t).Sound n F none := by
  unfold State.returnCall
  split
  · exact h
  next b hc =>
    split
    case h_1 p hp => exact h.requeue hc (by rw [hp]; rfl) ha fun _ => ⟨rfl, rfl⟩
    case h_2 x j d hp => exact h.requeue hc (by rw [hp]; rfl) ha fun _ => ⟨rfl, rfl⟩
    case h_3 x j a hp => exact h.requeue hc (by rw [hp]; rfl) ha fun _ => ⟨rfl, rfl⟩
    all_goals exact h

theorem returnCall_unserved (h : u.Sound n F none) (ht : (u.links.standing t).agent = none) :
    (u.returnCall t).Sound n F none :=
  h.returnCall fun hn p hp => by simpa using h.unserved ht hn p hp

theorem callerRelease (h : u.Sound n F none) {before : State} : (u.callerRelease before t).Sound n F none := by
  unfold State.callerRelease
  split
  · exact h
  next b hc =>
    have standing := State.standing_of_call hc
    have given (x : Station) (c : Payload) (hp : b.phase.agent = none) : ((u.give x c).endCall t).Sound n F none :=
      h.give.endCall_unserved (by simp [standing, hp])
    simp only
    split
    case h_1 hp => exact h.endCall_unserved (by simp [standing, hp, CallPhase.agent])
    case h_2 hp => exact given _ _ (by rw [hp]; rfl)
    case h_3 p hp =>
      exact (h.issue.endCall_served (p := p) (by simp [standing, hp, CallPhase.agent])).takePending.reportAgent
    case h_4 p a hp =>
      exact (h.endCall_served (p := p) (by simp [standing, hp, CallPhase.agent])).openWrap.reportAgent
    case h_5 hp => exact given _ _ (by rw [hp]; rfl)
    case h_6 hp => exact given _ _ (by rw [hp]; rfl)

/-! ## Guests and the loss of a peer -/

theorem freeGuest (h : u.Sound n F none) {g : GuestNo} : (u.freeGuest g).Sound n F none := by
  unfold State.freeGuest
  split
  · exact h
  next r _ =>
    have freed : (u.setGuest g none).Sound n F (some r.agent) := h.setGuest.but _
    simp only
    split
    · split
      · exact freed.openWrap
      · exact freed.openWrap
    · exact freed.issue.takePending
    · exact freed.takePending

theorem releaseGuest (h : u.Sound n F none) {before : State} {g : GuestNo} : (u.releaseGuest before g).Sound n F none := by
  unfold State.releaseGuest
  split
  · exact h
  · exact h.freeGuest.reportAgent

/-- The match attempt writes no other call. -/
theorem matchCall_standing {r : Trunk} (hr : r ≠ t) : (u.matchCall t).links.standing r = u.links.standing r := by
  unfold State.matchCall
  split
  · rfl
  next b hc =>
    split
    · rfl
    next p v hv =>
      have same : v.links = u.links ∧ v.call t = u.call t := by
        obtain ⟨-, rfl | rfl⟩ := State.chooseAgent_cases u hv <;> exact ⟨rfl, rfl⟩
      rw [ringForCall_links (same.2.trans hc)]
      simp [Links.place, hr, same.1]

theorem requeue_standing {b : CallBody} (hc : u.call t = some b) {f : CallBody → CallBody}
    (hf : ∀ b, (f b).queue = b.queue ∧ (f b).phase = .queued) {r : Trunk} (hr : r ≠ t) :
    (((u.freeOverflow b.phase).modifyCall t f).requeue b.queue t).links.standing r = u.links.standing r := by
  obtain ⟨l, -, placed⟩ := State.insertCall_links ((u.freeOverflow b.phase).modifyCall t f) b.queue t
  rw [released_links hc hf] at placed
  rw [State.requeue, matchCall_standing hr, State.sourceToMusic_links, State.removeEntry_links, placed]
  simp [Links.place, hr]

/-- The return of a call writes no other call. -/
theorem settleCall_standing {r : Trunk} (hr : r ≠ t) : (u.settleCall t).links.standing r = u.links.standing r := by
  unfold State.settleCall
  split
  next o x j q _ _ _ _ _ _ _ hc =>
    have queued : ((u.freeOverflow (.offered o x j)).setPhase t .queued).links = _ := released_links hc fun _ => ⟨rfl, rfl⟩
    rw [failOffer_of_offered hc rfl, matchCall_standing hr, queued]
    simp [Links.place, hr]
  next =>
    unfold State.returnCall
    split
    · rfl
    next b hc =>
      split
      case h_1 | h_2 => exact requeue_standing hc (f := fun c => { c with phase := .queued }) (fun _ => ⟨rfl, rfl⟩) hr
      case h_3 =>
        exact requeue_standing hc (f := fun c => { c with phase := .queued, priority := 3, recovered := true })
          (fun _ => ⟨rfl, rfl⟩) hr
      all_goals rfl

theorem settleCall (h : u.Sound n F none) (ht : (u.links.standing t).agent = none) : (u.settleCall t).Sound n F none := by
  unfold State.settleCall
  split
  · exact h.failOffer
  · exact h.returnCall_unserved ht

/-- A call that names a peer names no agent. -/
theorem agent_of_callNames {x : Station} (h : u.callNames x t = true) : (u.links.standing t).agent = none := by
  unfold State.callNames at h
  split at h
  next b hc =>
    rw [State.standing_of_call hc]
    cases hp : b.phase <;> simp_all [State.peerOf, CallPhase.agent]
  next => cases h

theorem settleCalls (l : List Trunk) (h : u.Sound n F none) (hl : l.Nodup) (ha : ∀ t ∈ l, (u.links.standing t).agent = none) :
    (l.foldl (fun v t => v.settleCall t) u).Sound n F none := by
  induction l generalizing u with
  | nil => exact h
  | cons t l ih =>
    obtain ⟨fresh, nodup⟩ := List.nodup_cons.1 hl
    refine ih (h.settleCall (ha t List.mem_cons_self)) nodup fun r hr => ?_
    rw [settleCall_standing fun e : r = t => fresh (e ▸ hr)]
    exact ha r (List.mem_cons_of_mem _ hr)

theorem losePeer (h : u.Sound n F none) {before : State} {x : Station} : (u.losePeer before x).Sound n F none :=
  (h.settleCalls _ ((List.nodup_finRange 32).filter _) fun _ ht => agent_of_callNames (List.mem_filter.1 ht).2).foldl _
    fun _ _ k => k.releaseGuest

/-! ## Keys and headset loss -/

theorem refuseKey (h : u.Sound n F e) : (u.refuseKey p).Sound n F e := h.issue

theorem keySignOn (h : u.Sound n F none) {f : ProfileNo} : (u.keySignOn p f).Sound n F none := by
  unfold State.keySignOn
  simp only
  split
  · exact h.refuseKey
  · split
    · exact ((h.but p).setAgent rfl).reportAgent
    · exact h.refuseKey

theorem keyReady (h : u.Sound n F none) : (u.keyReady p).Sound n F none := by
  unfold State.keyReady
  simp only
  split
  · split
    · exact (h.but p).becomeReady.reportAgent
    · exact h.refuseKey
  · split
    · exact h.refuseKey
    · split
      · exact (h.but p).endWrap.reportAgent
      · exact h.setPendingAction
  all_goals exact h.refuseKey

theorem keyNotReady (h : u.Sound n F none) : (u.keyNotReady p).Sound n F none := by
  unfold State.keyNotReady
  split
  · exact (h.but p).toNotReady.reportAgent
  · exact h.setPendingAction
  · exact h.setPendingAction
  · exact h.setPendingAction
  · exact (h.but p).endWrap.reportAgent
  all_goals exact h.refuseKey

theorem keySignOff (h : u.Sound n F none) : (u.keySignOff p).Sound n F none := by
  unfold State.keySignOff
  split
  · exact (h.but p).toSignedOff.reportAgent
  · exact (h.but p).toSignedOff.reportAgent
  · exact h.setPendingAction
  · exact h.setPendingAction
  · exact h.setPendingAction
  · exact h.setPendingAction
  · exact h.refuseKey

/-- The call that an agent's duty names. -/
theorem serves_of_duty {d : Duty} (h : u.duty p = some d) : u.links.serves p = d.localCall := by
  obtain ⟨post, hp, rfl⟩ := Option.map_eq_some_iff.1 h
  exact congrArg (·.bind (·.duty.localCall)) hp

/-- A record that names an agent stands in no list and holds nothing of the overflow. -/
theorem agent_alone {x : Standing} (h : x.agent = some p) : x.list = none ∧ x.junctor = none ∧ x.offer = none := by
  obtain ⟨⟨q, phase⟩, rfl, hp⟩ := Option.bind_eq_some_iff.1 h
  cases phase <;> simp_all [CallPhase.agent, CallPhase.listed, CallPhase.junctor, CallPhase.slot]

/-- An agent answers the call that it is rung for. -/
theorem answerCall (h : u.Sound n F none) {d : Stamp} (hd : u.duty p = some (.alerting (.call t) d)) :
    ((u.setDuty p (.talking (.call t))).setPhase t (.talking p u.now)).Sound n F none := by
  have serves : u.links.serves p = some t := serves_of_duty hd
  have same : (u.setDuty p (.talking (.call t))).links = u.links := by
    obtain ⟨post, hp, -⟩ := Option.map_eq_some_iff.1 hd
    refine State.setAgent_links_same u (serves.symm ▸ ?_)
    simp only [hp]
    rfl
  have named (hn : 1 ≤ n) : (u.links.standing t).agent = some p := (h.agents hn p t serves).resolve_left (by simp)
  have answered (hn : 1 ≤ n) :
      Standing.agent ((u.links.standing t).map fun y => (y.1, CallPhase.talking p u.now)) = some p := by
    obtain ⟨y, hy, -⟩ := Option.bind_eq_some_iff.1 (named hn)
    rw [hy]
    rfl
  rw [State.Sound, State.setPhase_links, same]
  refine Links.Sound.alike h (fun hF => by rw [h.free t hF]; rfl) (fun hn => Links.Relisted.stays (h.lists hn) ?_)
    (fun hn a ha => .inr ?_) (fun hn => ?_) fun hn => ?_
  · exact (agent_alone (answered hn)).1.trans (agent_alone (named hn)).1.symm
  · rw [answered hn, ← named hn]
    exact (h.agents hn a t ha).resolve_left (by simp)
  · have low : 1 ≤ n := (Nat.le_succ 1).trans hn
    exact (agent_alone (answered low)).2.1.trans (agent_alone (named low)).2.1.symm
  · have low : 1 ≤ n := (Nat.le_succ 1).trans hn
    exact (agent_alone (answered low)).2.2.trans (agent_alone (named low)).2.2.symm

theorem keyAnswer (h : u.Sound n F none) : (u.keyAnswer p).Sound n F none := by
  unfold State.keyAnswer
  split
  next hd => exact (h.answerCall hd).same (by simp)
  next g _ _ =>
    have talking : (u.setDuty p (.talking (.guest g))).Sound n F none := (h.but p).setDuty rfl
    unfold State.answerGuest
    split
    · exact talking
    · exact talking.setGuest.give
  all_goals exact h.refuseKey

theorem keyRelease (h : u.Sound n F none) : (u.keyRelease p).Sound n F none := by
  unfold State.keyRelease
  split
  next t hd =>
    have serves : u.links.serves p = some t := serves_of_duty hd
    unfold State.releaseCall
    split
    · exact h
    · have ended : (u.endCall t).Sound n F (some p) := (h.but p).endCall fun hn a ha => by
        have named := (h.agents hn p t serves).resolve_left (by simp)
        have other := (h.agents hn a t ha).resolve_left (by simp)
        exact named.symm.trans other
      exact ended.openWrap.reportAgent
  next =>
    unfold State.releaseByAgent
    split
    · exact h
    · exact h.give.freeGuest.reportAgent
  all_goals exact h.refuseKey

theorem keyMoreTime (h : u.Sound n F none) : (u.keyMoreTime p).Sound n F none := by
  unfold State.keyMoreTime
  split
  · split
    · exact ((h.but p).setDuty rfl).setPendingAction
    · exact h.refuseKey
  all_goals exact h.refuseKey

theorem bounceGuest (h : u.Sound n F e) {g : GuestNo} {c : BounceCause} : (u.bounceGuest g c).Sound n F e := by
  unfold State.bounceGuest
  split
  · exact h
  · exact h.give.setGuest

end State.Sound

end Sys2Proof.Machine
end

section
/-! PROOF. The invariants of the links after the deadlines, the keys, the scanner, the frames of the peers, the clock and the
maintenance port, and with them after every command. -/

namespace Sys2Proof.Machine

open Function (update)

namespace State.Sound

variable {n : Nat} {F : Trunk → Prop} {e : Option Position} {u v : State} {t : Trunk} {p : Position}

theorem outOfService_serves (s : State) (p : Position) : (s.outOfService p).links.serves = update s.links.serves p none := by
  have stands : (s.toNotReady p).links.serves = update s.links.serves p none := by
    rw [State.toNotReady, State.setPendingAction_links, State.setDuty, State.setAgent_links]
    change update s.links.serves p _ = _
    cases hp : (s.leaveIdle p).dsu.agents[p].post <;> rfl
  have leaves : (s.toSignedOff p).links.serves = update s.links.serves p none := by
    rw [State.toSignedOff, State.setAgent_links]
    rfl
  unfold State.outOfService
  split
  · exact leaves
  · exact stands

theorem giveUp (h : u.Sound n F none) {before : State} {bound : Bound} {c : AgentCause} {b : BounceCause}
    (hb : ∀ t, bound = .call t → u.links.serves p = some t) : (u.giveUp before p bound c b).Sound n F none := by
  have stopped : (((u.issue (.stopRing p)).outOfService p).reportAgent before p c).Sound n F none :=
    (h.issue.but p).outOfService.reportAgent
  cases bound with
  | guest g => exact stopped.bounceGuest
  | call t =>
    refine stopped.returnCall fun hn a ha => ?_
    rw [State.reportAgent_links, outOfService_serves, State.issue_links] at ha
    by_cases other : a = p
    · simp [other] at ha
    · rw [Function.update_of_ne other] at ha
      have named := (h.agents hn p t (hb t rfl)).resolve_left (by simp)
      have also := (h.agents hn a t ha).resolve_left (by simp)
      exact other (Option.some.inj (also.symm.trans named))

theorem headsetLoss (h : u.Sound n F none) {before : State} : (u.headsetLoss before p).Sound n F none := by
  have same : (u.setAgent p { u.dsu.agents[p] with headset := .absent }).links = u.links := State.setAgent_links_same u rfl
  have k : (u.setAgent p { u.dsu.agents[p] with headset := .absent }).Sound n F none := h.same same
  unfold State.headsetLoss
  simp only
  split
  · exact k
  · exact k
  · exact (k.but p).toNotReady.reportAgent
  · exact (k.but p).outOfService.reportAgent.bounceGuest
  next bound d hd =>
    refine k.giveUp fun t ht => ?_
    rw [same, serves_of_duty hd, ht]
    rfl
  · exact k.setPendingAction
  · exact k.setPendingAction

theorem ringExpiry (h : u.Sound n F none) : (u.ringExpiry p).Sound n F none := by
  unfold State.ringExpiry
  split
  next bound d hd =>
    refine h.giveUp fun t ht => ?_
    rw [serves_of_duty hd, ht]
    rfl
  next => exact h

theorem readyAtMin (h : u.Sound n F none) : (u.readyAtMin p).Sound n F none := by
  unfold State.readyAtMin
  split
  · exact (h.but p).endWrap.reportAgent
  · exact h

theorem wrapExpiry (h : u.Sound n F none) : (u.wrapExpiry p).Sound n F none := by
  unfold State.wrapExpiry
  split
  · exact (h.but p).endWrap.reportAgent
  · exact h

/-! ## The scanner -/

/-- An admitted seizure: a FREE record that the statement does not hold to be FREE becomes QUEUED. -/
theorem admitSeize (h : u.Sound n F none) (ht : u.call t = none) (hF : ¬F t) {s : ServiceEntry} :
    (u.admitSeize t s).Sound n F none := by
  unfold State.admitSeize
  extract_lets body w
  have free := State.standing_of_free ht
  have alone : (u.setCall t ⟨u.cqm.calls[t].gen + 1, some body⟩).links =
      u.links.place t (some (s.queue, .queued)) u.links.lists := State.setCall_links u t _
  obtain ⟨l, perm, placed⟩ := State.insertCall_links (u.setCall t ⟨u.cqm.calls[t].gen + 1, some body⟩) s.queue t
  rw [alone] at perm placed
  have sound : w.Sound n F none := by
    rw [State.Sound, placed]
    refine Links.Sound.alike (x := some (s.queue, .queued)) h (fun f => absurd f hF)
      (fun hn => Links.Relisted.insert (h.lists hn) (by rw [free]; rfl) perm rfl) (fun hn a ha => .inl ?_)
      (fun _ => by rw [free]; rfl) fun _ => by rw [free]; rfl
    simpa [free] using h.agents hn a t ha
  have queued : w.links.standing t = some (s.queue, .queued) := by
    rw [show w.links = _ from placed]
    simp [Links.place]
  split
  · exact sound.matchCall queued
  next k _ =>
    have joined : (w.joinWaiting t k).Sound n F none := sound.same (by simp)
    exact (joined.matchCall (q := s.queue) (by simpa using queued)).same (by simp)

theorem takeSeize (h : u.Sound n F none) (hF : ¬F t) {c : Fin 64} : (u.takeSeize t c).Sound n F none := by
  unfold State.takeSeize
  split
  · exact h.same rfl
  next hc =>
    simp only
    split
    · exact h.issue.same rfl
    · split
      · exact h.issue.writeReport.same rfl
      · exact (h.admitSeize hc hF).same rfl

theorem takeLoop (h : u.Sound n F e) {r : LoopState} : (u.takeLoop r t).Sound n F e := by
  unfold State.takeLoop
  simp only
  split <;> exact h.same rfl

theorem takeHeadset (h : u.Sound n F e) {r : HeadsetState} : (u.takeHeadset r p).Sound n F e := by
  have returned (v : State) (hv : v.links = u.links) : (v.headsetReturn p).Sound n F e :=
    (h.same hv).same (State.setAgent_links_same v rfl)
  unfold State.takeHeadset
  simp only
  split
  · cases r
    · exact h.same rfl
    · exact returned _ rfl
  · split
    · exact h.same rfl
    · cases r
      · simp only
        split <;> exact h.same rfl
      · simp only
        split
        · exact h.same rfl
        · exact returned _ rfl

/-- The characters of RUN; at level 0 a seizure of no trunk that is held to be FREE. -/
theorem takeCharRun (h : u.Sound n F none) (c : ScanChar) (hF : ∀ t k, c = .seize t k → ¬F t) :
    (u.takeCharRun c).Sound n F none := by
  unfold State.takeCharRun
  split
  · exact h.takeSeize (hF _ _ rfl)
  · exact h.takeLoop
  · exact h.takeHeadset
  · exact h.keySignOn
  · exact h.keyReady
  · exact h.keyNotReady
  · exact h.keySignOff
  · exact h.keyAnswer
  · exact h.keyRelease
  · exact h.keyMoreTime

theorem takeScan (h : u.Sound n F none) (r : ScanResult) (hF : ∀ t k, r = .char (.seize t k) → ¬F t) :
    (u.takeScan r).Sound n F none := by
  unfold State.takeScan
  split
  · exact h
  · split
    · exact h.same rfl
    · exact h
  next c =>
    split
    · exact h.event fun k => k.takeCharRun c fun t k e => hF t k (congrArg _ e)
    · unfold State.takeCharConfig
      split
      · exact h.issue
      · exact h.issue
      · exact h
      · exact h

theorem scanReceiveAll (h : u.Sound n F none) (hF : ∀ t, ¬F t) (l : List Byte) : (u.scanReceiveAll l).Sound n F none :=
  h.foldl l fun v b k => (k.same (v := v.setScanOpen (scanByte v.lsi.scanOpen b).1) rfl).takeScan _ fun t _ _ => hF t

theorem disconnectExpiry (h : u.Sound n F none) : (u.disconnectExpiry t).Sound n F none :=
  (h.same (v := u.setTrunkSup t _) rfl).callerRelease

theorem headsetExpiry (h : u.Sound n F none) : (u.headsetExpiry p).Sound n F none :=
  (h.same (v := u.setPositionSup p _) rfl).headsetLoss

/-! ## The overflow -/

theorem lendCall_of_offered {b : CallBody} {o : SlotNo} {y x : Station} {i j : Junctor} (hc : u.call t = some b)
    (hp : b.phase = .offered o y i) :
    u.lendCall t x j = ((((u.setSlot o none).removeCall b.queue t).setPhase t
      (.lentAlerting x j (deadline u.now u.items.lentLimit))).removeEntry t).sourceToNone t := by
  obtain ⟨phase⟩ := b
  obtain rfl : phase = .offered o y i := hp
  simp only [State.lendCall, hc]

theorem taggedCall_eq_some {tag : Tag} {b : CallBody} :
    u.taggedCall tag = some b ↔ u.cqm.calls[tag.trunk].gen = tag.gen ∧ u.call tag.trunk = some b := by
  simp [State.taggedCall]

/-- A TAKE matches the OFFERED record of its tag, peer and junctor (R171). -/
theorem takeMatches_iff {x : Station} {tag : Tag} {j : Junctor} : u.takeMatches x tag j = true ↔
    ∃ b o, u.taggedCall tag = some b ∧ b.phase = .offered o x j := by
  unfold State.takeMatches
  split
  next o y k _ _ _ _ _ _ _ _ hb => simp [hb]
  next other =>
    simp only [Bool.false_eq_true, false_iff, not_exists, not_and]
    rintro ⟨phase⟩ o hb rfl
    exact other _ _ _ _ _ _ _ _ _ _ _ hb

theorem lendCall (h : u.Sound n F none) {b : CallBody} {o : SlotNo} {x : Station} {j : Junctor} (hc : u.call t = some b)
    (hp : b.phase = .offered o x j) : (u.lendCall t x j).Sound n F none := by
  have standing : u.links.standing t = some (b.queue, .offered o x j) := hp ▸ State.standing_of_call hc
  rw [lendCall_of_offered hc hp, State.Sound, State.sourceToNone_links, State.removeEntry_links, State.setPhase_links,
    State.removeCall_links, State.setSlot_links]
  have lent := Links.Sound.lend (d := deadline u.now u.items.lentLimit) h standing x
  simpa only [Links.place, standing, Option.map_some, Option.map_none] using lent

theorem takeTake (h : u.Sound n F none) {x : Station} {tag : Tag} {j : Junctor} : (u.takeTake x tag j).Sound n F none := by
  unfold State.takeTake
  split
  next taken =>
    obtain ⟨b, o, hb, hp⟩ := takeMatches_iff.1 taken
    exact (h.lendCall (taggedCall_eq_some.1 hb).2 hp).give
  next => exact h.give

theorem modifyPeer (h : u.Sound n F e) {x : Station} {f : PeerData → PeerData} : (u.modifyPeer x f).Sound n F e := by
  unfold State.modifyPeer
  split
  · exact h.same rfl
  all_goals exact h

theorem takeDecline (h : u.Sound n F none) {x : Station} {tag : Tag} : (u.takeDecline x tag).Sound n F none := by
  unfold State.takeDecline
  split
  · split
    · exact (h.modifyPeer (x := x)).failOffer
    · exact h
  · exact h

theorem takeAnswered (h : u.Sound n F none) {x : Station} {tag : Tag} : (u.takeAnswered x tag).Sound n F none := by
  unfold State.takeAnswered
  split
  next y j d q _ _ _ _ _ _ _ hb =>
    split
    · have standing := State.standing_of_call (taggedCall_eq_some.1 hb).2
      rw [State.Sound, State.setPhase_links]
      refine Links.Sound.alike h (fun hF => by rw [h.free _ hF]; rfl)
        (fun hn => Links.Relisted.stays (h.lists hn) (by rw [standing]; rfl)) (fun hn a ha => .inl ?_)
        (fun _ => by rw [standing]; rfl) fun _ => by rw [standing]; rfl
      exact h.unserved (by rw [standing]; rfl) hn a ha
    · exact h.give
  next => exact h.give

theorem takeBounce (h : u.Sound n F none) {x : Station} {tag : Tag} : (u.takeBounce x tag).Sound n F none := by
  unfold State.takeBounce
  split
  next hb =>
    split
    · exact h.returnCall_unserved (by rw [State.standing_of_call (taggedCall_eq_some.1 hb).2]; rfl)
    · exact h
  next => exact h

theorem takeAgentDone (h : u.Sound n F none) {x : Station} {tag : Tag} : (u.takeAgentDone x tag).Sound n F none := by
  unfold State.takeAgentDone
  split
  next hb =>
    split
    · exact h.endCall_unserved (by rw [State.standing_of_call (taggedCall_eq_some.1 hb).2]; rfl)
    · exact h
  next => exact h

theorem takeOffer (h : u.Sound n F none) {x : Station} {o : OfferData} : (u.takeOffer x o).Sound n F none := by
  unfold State.takeOffer
  extract_lets stale w v
  clear_value stale
  have hw : w.Sound n F none := by
    unfold w
    split
    · exact h.freeGuest
    · exact h
  have hv : v.Sound n F none := by
    unfold v
    split
    · exact hw.give
    · unfold State.hostOffer
      split
      next g p m _ chosen =>
        exact ((((hw.chooseAgent chosen).1.leaveIdle (p := p)).but p).setDuty (d := .reserved g) rfl).setGuest.give
      next => exact hw
  split
  · exact hv.reportAgent
  · exact hv

theorem takeConnect (h : u.Sound n F none) {x : Station} {tag : Tag} {j : Junctor} : (u.takeConnect x tag j).Sound n F none := by
  unfold State.takeConnect
  split
  · exact h.give
  next g _ =>
    have displaced := h.foldl (f := fun v i => v.releaseGuest u i)
      ((List.finRange 16).filter fun i => i != g && u.guestHolds x j i) fun _ _ k => k.releaseGuest
    unfold State.connectGuest
    dsimp only
    split
    · exact displaced
    next r _ => exact (displaced.setGuest.but r.agent).ringAgent_guest

theorem takeWithdraw (h : u.Sound n F none) {x : Station} {tag : Tag} : (u.takeWithdraw x tag).Sound n F none := by
  unfold State.takeWithdraw
  split
  · exact h
  · exact h.releaseGuest

theorem offerExpiry (h : u.Sound n F none) {o : SlotNo} : (u.offerExpiry o).Sound n F none := by
  unfold State.offerExpiry
  split
  · exact h.failOffer
  · exact h

theorem lentExpiry (h : u.Sound n F none) : (u.lentExpiry t).Sound n F none := by
  unfold State.lentExpiry
  split
  next hc => exact h.give.returnCall_unserved (by rw [State.give_links, State.standing_of_call hc]; rfl)
  next => exact h

theorem connectExpiry (h : u.Sound n F none) {g : GuestNo} : (u.connectExpiry g).Sound n F none := by
  unfold State.connectExpiry
  split
  · exact h
  · exact h.give.freeGuest.reportAgent

/-- What an offer changes of the links. -/
theorem makeOffer_links {b : CallBody} {q : QueueNo} {o : SlotNo} {j : Junctor} {x : Station} (hc : u.call t = some b) :
    (u.makeOffer q t b o j x).links =
      { u.links.place t (some (b.queue, .offered o x j)) u.links.lists with
        slots := update u.links.slots o (some (t, q))
        junctors := update u.links.junctors j (.bound t)
        freeOrder := u.links.freeOrder.tail } := by
  have lowered (v : State) : (v.lowerView x q).links = v.links := by
    unfold State.lowerView State.modifyPeer
    split <;> rfl
  have taken : (((u.setSlot o (some ⟨t, q, deadline u.now u.items.offerLimit⟩)).setFreeOrder
      u.sps.freeOrder.tail).setJunctor j (.bound t)).links =
        { u.links with
          slots := update u.links.slots o (some (t, q))
          junctors := update u.links.junctors j (.bound t)
          freeOrder := u.links.freeOrder.tail } := by
    rw [State.setJunctor_links]
    have slot := State.setSlot_links u o (some ⟨t, q, deadline u.now u.items.offerLimit⟩)
    exact congrArg (fun k : Links => { k with
      junctors := update u.links.junctors j (.bound t), freeOrder := u.links.freeOrder.tail }) slot
  simp only [State.makeOffer, lowered, State.give_links, State.setPhase_links, taken]
  simp only [Links.place, State.standing_of_call hc, Option.map_some]

theorem scanQueue (h : u.Sound n F none) {q : QueueNo} : (u.scanQueue q).Sound n F none := by
  unfold State.scanQueue
  split
  · exact h
  · split
    · exact h
    next t head =>
      split
      next b o j x hc ho hj _ =>
        split
        · obtain ⟨r, standing⟩ := standing_of_headEligible head
          have own : b.queue = r := by simpa [State.standing_of_call hc] using congrArg (Option.map Prod.fst) standing
          have listed (hn : 1 ≤ n) : q = r := by
            have there := ((h.lists hn q).2 t).1 (List.mem_of_find?_eq_some head)
            simpa [standing, CallPhase.listed] using there.symm
          have vacant : u.links.slots o = none := by
            have found := List.find?_some ho
            exact congrArg (Option.map fun d : OfferSlot => (d.trunk, d.queue)) (Option.isNone_iff_eq_none.1 found)
          rw [State.Sound, makeOffer_links hc, own]
          exact Links.Sound.offer x h standing (fun hn => listed ((Nat.le_succ 1).trans hn)) vacant hj
        · exact h
      next => exact h

theorem offerScan (h : u.Sound n F none) : u.offerScan.Sound n F none := h.foldl _ fun _ _ k => k.scanQueue

/-! ## Peers, the link and the clock -/

theorem takeNotice (h : u.Sound n F none) {x : Station} {c : Notice} : (u.takeNotice x c).Sound n F none := by
  unfold State.takeNotice
  extract_lets was restart w v
  clear_value was
  have hw : w.Sound n F none := by
    have lost : (if restart then u.losePeer u x else u).Sound n F none := by
      split
      · exact h.losePeer
      · exact h
    exact lost.same rfl
  have hv : v.Sound n F none := by
    unfold v
    split
    · exact hw.writeReport
    · split
      · exact hw
      · exact hw.writeReport
      · exact hw.writeReport
  exact hv.foldl _ fun _ _ k => k.releaseGuest

theorem presenceExpiry (h : u.Sound n F none) {x : Station} : (u.presenceExpiry x).Sound n F none := by
  unfold State.presenceExpiry
  split
  · exact (h.losePeer.same (v := (u.losePeer u x).setPeer x _) rfl).writeReport
  · exact h
  · exact h

theorem periodExpiry (h : u.Sound n F e) : u.periodExpiry.Sound n F e := h.requestNotice.same rfl

theorem failDropped (h : u.Sound n F none) {f : Frame} : (u.failDropped f).Sound n F none := by
  unfold State.failDropped
  split
  · split
    · exact h.failOffer
    · exact h
  · exact h

theorem attemptLost (h : u.Sound n F none) : u.attemptLost.Sound n F none := by
  unfold State.attemptLost
  extract_lets _ w
  have hw : w.Sound n F none := h.same rfl
  split
  · exact hw
  next entry _ =>
    extract_lets v z
    have hv : v.Sound n F none := by
      unfold v
      split
      · exact hw
      · exact hw.same rfl
    split
    · exact hv
    · unfold State.tellDropped
      have told : (z.setPlc { z.plc with contentionDrop := satUp 65535 z.plc.contentionDrop }).Sound n F none := hv.same rfl
      split
      · exact told.requestNotice
      · exact told.failDropped

theorem attemptDone (h : u.Sound n F e) {c : List Byte} : (u.attemptDone c).Sound n F e := by
  unfold State.attemptDone
  extract_lets _ _ v _ w
  have hv : v.Sound n F e := h.same rfl
  split
  · exact hv
  · split
    · exact hv
    · have hw : w.Sound n F e := hv.same rfl
      split
      · exact hw.requestNotice
      · exact hw

theorem deliver (h : u.Sound n F none) {x : Station} {c : Payload} : (u.deliver x c).Sound n F none := by
  unfold State.deliver
  split
  · exact h.takeNotice
  · exact h.takeOffer
  · exact h.takeTake
  · exact h.takeDecline
  · exact h.takeConnect
  · exact h.takeAnswered
  · exact h.takeBounce
  · exact h.takeAgentDone
  all_goals exact h.takeWithdraw

theorem frameReceived (h : u.Sound n F none) (c : List Byte) (d b : Bool) : (u.frameReceived c d b).Sound n F none := by
  have ends : (u.frameEnds b).Sound n F none := h.same rfl
  unfold State.frameReceived
  split
  · refine h.event fun _ => ?_
    simp only
    split
    · exact ends
    · unfold State.takeRx
      split
      · exact ends
      · exact ends
      · exact ends.same rfl
      · exact ends.same rfl
      · exact ends.same rfl
      · exact ends.deliver
  · exact ends

theorem becomeDue (h : u.Sound n F e) : (u.becomeDue t).Sound n F e :=
  h.same (State.modifyCall_links_same u fun _ => ⟨rfl, rfl⟩)

theorem endHoldoffs (h : u.Sound n F e) : u.endHoldoffs.Sound n F e := by
  have written (l : List Junctor) (v : State) : (l.foldl (fun v j => v.setJunctor j .free) v).links =
      { v.links with junctors := fun j => if j ∈ l then .free else v.links.junctors j } := by
    induction l generalizing v with
    | nil => simp
    | cons i l ih =>
      rw [List.foldl_cons, ih, State.setJunctor_links]
      refine congrArg (fun f => { v.links with junctors := f }) (funext fun j => ?_)
      by_cases hj : j = i <;> simp [hj]
  have ended := Links.Sound.endHoldoffs h u.holdoffReached _ fun _ => rfl
  have all := written (u.sps.holdoffOrder.filter u.holdoffReached) u
  refine State.Sound.same (u := u.endHoldoffs) ?_ rfl
  rw [State.Sound, State.endHoldoffs]
  exact cast (congrArg (Links.Sound n F e) (congrArg (fun k : Links => { k with
    holdoffOrder := u.sps.holdoffOrder.filter fun j => !u.holdoffReached j
    freeOrder := u.sps.freeOrder ++ u.sps.holdoffOrder.filter u.holdoffReached }) all).symm) ended

/-- Whatever deadline the tick takes keeps the links sound. -/
theorem tickWork {d : TickEvent} {f : State → State} (h : u.Sound n F none) (hf : u.tickWork d = some f) :
    (f u).Sound n F none := by
  cases d <;> simp only [State.tickWork, Option.map_eq_some_iff, Option.ite_none_right_eq_some, Option.some.injEq] at hf
  case presence => obtain ⟨x, -, rfl⟩ := hf; exact h.presenceExpiry
  case offer => obtain ⟨o, -, rfl⟩ := hf; exact h.offerExpiry
  case lent => obtain ⟨t, -, rfl⟩ := hf; exact h.lentExpiry
  case connect => obtain ⟨g, -, rfl⟩ := hf; exact h.connectExpiry
  all_goals obtain ⟨-, rfl⟩ := hf
  case disconnectFilter => exact h.disconnectExpiry
  case headsetFilter => exact h.headsetExpiry
  case sweepEnd => exact h.same rfl
  case ring => exact h.ringExpiry
  case readyAtMin => exact h.readyAtMin
  case wrapExpiry => exact h.wrapExpiry
  case nextDue => exact h.becomeDue
  case holdoffEnd => exact h.endHoldoffs
  case availPeriod => exact h.periodExpiry
  case spacingEnd => exact h
  case division =>
    exact h.same (State.links_congr (by simp) (by simp) (by simp) (by simp) (by simp) (by simp))

theorem tickEvent (h : u.Sound n F none) {d : TickEvent} : (u.tickEvent d).Sound n F none := by
  unfold State.tickEvent
  split
  next hf => exact h.event fun k => k.tickWork hf
  next => exact h

theorem tickEvents (h : u.Sound n F none) (l : List TickEvent) : (u.tickEvents l).Sound n F none :=
  h.foldl l fun _ _ k => k.tickEvent

theorem countPulses (h : u.Sound n F e) (m : Nat) : (u.countPulses m).Sound n F e := by
  rw [State.countPulses_eq]
  exact h.same rfl

theorem tick (h : u.Sound n F none) (plan : TickPlan) : (u.tick plan).Sound n F none := by
  unfold State.tick
  extract_lets ready worked
  have hr : ready.Sound n F none := (h.tickEvents defaultTick).tickEvents _
  clear_value ready
  have ha : ready.advance.Sound n F none := by
    rw [State.advance_eq]
    exact hr.same rfl
  have hw : worked.Sound n F none := (ha.tickEvents plan.first).tickEvents (restOfTick plan)
  exact (hw.event fun k => k.offerScan).tickEvent

theorem blockBoundary (h : u.Sound n F none) (order : List Channel) : (u.blockBoundary order).Sound n F none := by
  unfold State.blockBoundary
  extract_lets w
  have counted : w.Sound n F none := h.countPulses _
  clear_value w
  have due : (w.setBoundariesDue (w.pbc.boundariesDue - 1)).Sound n F none := counted.same rfl
  refine due.foldl _ fun v c k => ?_
  rcases State.takeBoundary_cases v c with ⟨-, hb⟩ | ⟨-, hb⟩ <;> rw [hb]
  · exact k.event fun k => k.same (by simp)
  · exact k

/-! ## The maintenance port -/

theorem respond (h : u.Sound n F e) {c : StatusCode} {d : List Byte} : (u.respond c d).Sound n F e := h.same rfl

theorem enterRun_links (s : State) : s.enterRun.links = s.links := by
  have lines (v : State) : v.startLines.links = v.links := by
    unfold State.startLines
    extract_lets _ w
    exact State.foldl_links w (f := State.issue) (fun v o => v.issue_links o) _
  have estimates (v : State) : v.startEstimates.links = v.links := State.foldl_links v (f := fun u q => u.setEst q
    { u.est.recs[q] with aht16 := (v.queueItems q).ahtSeed * 16, pendingFlag := true }) (fun _ _ => rfl) _
  have music (v : State) : v.startMusic.links = v.links := (State.grant_links _).trans (State.foldl_links v
    (f := fun u m => u.loadChannel (musicChannel m) v.mpi.image.music[m].clip) (fun _ _ => rfl) _)
  have receiving (v : State) : v.startReceiving.links = v.links := rfl
  have notices (v : State) : v.startNotices.links = v.links := v.requestNotice_links
  rw [State.enterRun, notices, music, receiving, estimates, lines]
  rfl

/-- The links after a reset. -/
theorem resetTo (s : State) (m : Image) (x : Station) (o : List Order) : (s.resetTo m x o).Sound n F none := by
  have standing (t : Trunk) : (s.resetTo m x o).links.standing t = none := by
    simp [State.links, State.resetTo, State.reset, Cqm.reset, State.call]
  have list (q : QueueNo) : (s.resetTo m x o).links.lists q = [] := by
    simp [State.links, State.resetTo, State.reset, Cqm.reset]
  have serves (p : Position) : (s.resetTo m x o).links.serves p = none := by
    simp [State.links, State.resetTo, State.reset, Dsu.reset]
  have junctor (j : Junctor) : (s.resetTo m x o).links.junctors j = .free := by
    simp [State.links, State.resetTo, State.reset, Sps.reset]
  have slot (o' : SlotNo) : (s.resetTo m x o).links.slots o' = none := by
    simp [State.links, State.resetTo, State.reset, Ofu.reset]
  have free : (s.resetTo m x o).links.freeOrder = [0, 1, 2, 3, 4, 5, 6, 7] := rfl
  have holdoff : (s.resetTo m x o).links.holdoffOrder = [] := rfl
  refine ⟨fun t _ => standing t, fun _ q => ?_, fun _ p t hp => ?_, fun _ => ?_, fun _ j t => ?_, fun _ i t q => ?_⟩
  · simp [standing, list]
  · simp [serves] at hp
  · rw [free, holdoff]
    refine ⟨by decide, List.nodup_nil, fun j => ?_⟩
    rw [junctor]
    exact ⟨iff_of_true (by revert j; decide) rfl, by simp⟩
  · simp [standing, junctor]
  · simp [standing, slot]

theorem command (h : u.Sound n F none) (c : Command) (d : List Byte) : (u.command c d).Sound n F none := by
  cases c
  case set =>
    change (u.commandSet d).Sound n F none
    unfold State.commandSet
    split
    · split
      · exact h.respond
      · split
        · exact h.respond
        · split
          · exact h.respond
          · split
            · exact h.respond
            · exact h.same rfl
    · exact h.respond
  case start =>
    change (u.commandStart d).Sound n F none
    unfold State.commandStart
    split
    · exact h.respond
    · split
      · exact h.respond
      · split
        · exact h.respond
        · exact (h.event fun k => k.same (enterRun_links u)).respond
  case restart =>
    change (u.commandRestart d).Sound n F none
    unfold State.commandRestart
    split
    · exact (resetTo u _ _ _).respond
    · exact h.respond
  case select =>
    change (u.commandSelect d).Sound n F none
    unfold State.commandSelect
    split
    · split
      · exact h.respond
      · split
        · exact h.same rfl
        · exact h.respond
    · exact h.respond
  case readNext =>
    change (u.commandReadNext d).Sound n F none
    unfold State.commandReadNext
    split
    · exact h.respond
    · exact h.same rfl
  case reportNext =>
    change (u.commandReportNext d).Sound n F none
    unfold State.commandReportNext
    split
    · exact h.respond
    · split
      · exact h.respond
      next rest _ =>
        have taken : (u.setFifo rest).Sound n F none := h.same rfl
        exact (taken.same (State.refresh_links _)).respond
  case status =>
    change (u.commandStatus d).Sound n F none
    unfold State.commandStatus
    split
    · exact h.respond
    · exact h.same rfl

theorem transact (h : u.Sound n F none) (b : List Byte) : (u.transact b).Sound n F none := by
  unfold State.transact
  split
  · exact h.same rfl
  · split
    · exact h.same rfl
    · split
      · exact h.respond
      · split
        · exact h.respond
        · exact h.command _ _

theorem nextOf_rowOf (h : u.Sound n F none) (d : TickEvent) : (nextOf (Claims.rowOf d) u).Sound n F none := by
  by_cases run : u.running = true ∨ d ≠ .sweepEnd
  · rw [Machine.nextOf_rowOf u d run]
    exact h.tickEvent
  · obtain ⟨stop, rfl⟩ := not_or.1 run |>.imp_right not_not.1
    have idle : nextOf (Claims.rowOf .sweepEnd) u = u := by
      simp [nextOf, Claims.rowOf, exec, execStartSweepEnd, stop]
    rwa [idle]

theorem busSeen (h : u.Sound n F none) (sign : BusSign) :
    (if u.running then u.event (·.busSeen sign) else u.busSeen sign).Sound n F none := by
  have seen : (u.busSeen sign).Sound n F none := by cases sign <;> exact h.same rfl
  split
  · exact h.event fun _ => seen
  · exact seen

/-- Every command keeps the links sound, where no trunk is held to be FREE. -/
theorem nextOf (h : u.Sound n F none) (hF : ∀ t, ¬F t) (c : Instr) : (nextOf c u).Sound n F none :=
  nextOf_induct (P := fun v => v.Sound n F none) c h (fun x _ => resetTo u _ x _) (fun _ => h.tick)
    (fun _ => h.blockBoundary) (fun l _ => h.scanReceiveAll hF l) (h.same rfl) h.nextOf_rowOf
    (fun _ _ => h.event fun k => k.same (by simp)) h.busSeen
    (h.event fun k => k.attemptLost) (fun _ => h.event fun k => k.attemptDone) h.frameReceived
    (fun k d _ => h.command k d) fun b _ => h.transact b

end State.Sound
end Sys2Proof.Machine
end

section
/-! PROOF. The invariants of the statements are those of the links, and every step keeps them (QueueListsAreKept,
JunctorsAndSlotsAgree). -/

namespace Sys2Proof.Claims

open Machine

variable {s u : State}

theorem standing_list_iff (s : State) (t : Trunk) (q : QueueNo) : (s.links.standing t).list = some q ↔
    ∃ b ∈ s.call t, b.queue = q ∧ (b.phase = .queued ∨ ∃ o x j, b.phase = .offered o x j) := by
  cases hc : s.call t with
  | none => simp [State.standing_of_free hc]
  | some b =>
    rw [State.standing_of_call hc]
    cases hp : b.phase <;> simp [CallPhase.listed, hp]

theorem queueLists_iff (s : State) : QueueLists s ↔
    ∀ q, (s.links.lists q).Nodup ∧ ∀ t, t ∈ s.links.lists q ↔ (s.links.standing t).list = some q := by
  simp only [QueueLists, standing_list_iff]
  rfl

theorem junctorOrders_iff (s : State) : JunctorOrders s ↔
    s.links.freeOrder.Nodup ∧ s.links.holdoffOrder.Nodup ∧ ∀ j,
      (j ∈ s.links.freeOrder ↔ s.links.junctors j = .free) ∧
        (j ∈ s.links.holdoffOrder ↔ ∃ u, s.links.junctors j = .holdoff u) := by
  refine and_congr Iff.rfl (and_congr Iff.rfl (forall_congr' fun j => ?_))
  change _ ↔ (j ∈ s.sps.freeOrder ↔ s.sps.junctors[j] = .free) ∧ (j ∈ s.sps.holdoffOrder ↔ ∃ u, s.sps.junctors[j] = .holdoff u)
  cases s.sps.junctors[j] <;> simp

theorem standing_junctor_iff (s : State) (t : Trunk) (j : Junctor) : (s.links.standing t).junctor = some j ↔
    ∃ b ∈ s.call t, b.phase.junctor = some j := by
  cases hc : s.call t with
  | none => simp [State.standing_of_free hc]
  | some b => simp [State.standing_of_call hc]

theorem standing_offer_iff (s : State) (t : Trunk) (o : SlotNo) (q : QueueNo) : (s.links.standing t).offer = some (o, q) ↔
    ∃ b ∈ s.call t, b.queue = q ∧ ∃ x j, b.phase = .offered o x j := by
  cases hc : s.call t with
  | none => simp [State.standing_of_free hc]
  | some b =>
    rw [State.standing_of_call hc]
    cases hp : b.phase <;> simp [CallPhase.slot, hp, and_comm]

/-- A slot and a record that name each other do so with the record's queue. -/
theorem overflowBound_iff (s : State) : OverflowBound s ↔
    (∀ j t, s.links.junctors j = .bound t ↔ (s.links.standing t).junctor = some j) ∧
      ∀ o t q, s.links.slots o = some (t, q) ↔ (s.links.standing t).offer = some (o, q) := by
  have slot (o : SlotNo) (t : Trunk) (q : QueueNo) : s.links.slots o = some (t, q) ↔
      ∃ d ∈ s.ofu.slots[o], d.trunk = t ∧ d.queue = q := by
    change s.ofu.slots[o].map _ = _ ↔ _
    simp [Option.map_eq_some_iff]
  simp only [OverflowBound, standing_junctor_iff, standing_offer_iff, slot]
  refine and_congr Iff.rfl ⟨fun ⟨busy, offered⟩ o t q => ⟨?_, ?_⟩, fun agree => ⟨fun o d hd => ?_, fun t b hb o x j hp => ?_⟩⟩
  · rintro ⟨d, hd, rfl, rfl⟩
    exact busy o d hd
  · rintro ⟨b, hb, rfl, x, j, hp⟩
    obtain ⟨d, hd, rfl⟩ := offered t b hb o x j hp
    obtain ⟨c, hc, same, -⟩ := busy o d hd
    have one : b = c := Option.some.inj (hb.symm.trans hc)
    exact ⟨d, hd, rfl, one ▸ same.symm⟩
  · exact (agree o d.trunk d.queue).1 ⟨d, hd, rfl, rfl⟩
  · obtain ⟨d, hd, ht, -⟩ := (agree o t b.queue).2 ⟨b, hb, rfl, x, j, hp⟩
    exact ⟨d, hd, ht⟩

/-- Of the bindings of agents the links read those to local calls, from the agent's side. -/
theorem agents_of_agentsBound (h : AgentsBound s) (p : Position) (t : Trunk) (hp : s.links.serves p = some t) :
    (s.links.standing t).agent = some p := by
  obtain ⟨bound, -, -⟩ := h
  obtain ⟨post, hpost, hd⟩ := Option.bind_eq_some_iff.1 hp
  have duty : s.duty p = some post.duty := by
    rw [State.duty, hpost]
    rfl
  have named := bound p
  rw [duty] at named
  cases hduty : post.duty <;> rw [hduty] at hd named <;> try cases hd
  case alerting bound d =>
    cases bound <;> cases hd
    obtain ⟨b, hb, phase⟩ := named
    rw [State.standing_of_call hb, phase]
    rfl
  case talking bound =>
    cases bound <;> cases hd
    obtain ⟨b, hb, a, phase⟩ := named
    rw [State.standing_of_call hb, phase]
    rfl

/-- The links with their lists and the bindings of their agents. -/
theorem sound_of_lists (ha : AgentsBound s) (hl : QueueLists s) : s.Sound 1 (fun _ => False) none where
  free _ hF := hF.elim
  lists _ := (queueLists_iff s).1 hl
  agents _ p t hp := .inr (agents_of_agentsBound ha p t hp)
  orders hn := absurd hn (by decide)
  junctors hn := absurd hn (by decide)
  slots hn := absurd hn (by decide)

/-- The links with all that the statements say of them. -/
theorem sound_of_overflow (ha : AgentsBound s) (hl : QueueLists s) (ho : JunctorOrders s) (hb : OverflowBound s) :
    s.Sound 2 (fun _ => False) none where
  free _ hF := hF.elim
  lists _ := (queueLists_iff s).1 hl
  agents _ p t hp := .inr (agents_of_agentsBound ha p t hp)
  orders _ := (junctorOrders_iff s).1 ho
  junctors _ := ((overflowBound_iff s).1 hb).1
  slots _ := ((overflowBound_iff s).1 hb).2

theorem step_sound {n : Nat} (h : s.Sound n (fun _ => False) none) (e : step s = .next u) :
    u.Sound n (fun _ => False) none := by
  rw [step_eq] at e
  cases e
  cases s.pending with
  | nil => exact h
  | cons c rest =>
    have taken : ({ s with pending := rest } : State).Sound n (fun _ => False) none := h.same rfl
    exact taken.nextOf (fun _ => not_false) c

end Sys2Proof.Claims

namespace Sys2Proof.Proofs

open Machine Claims

/-- Settles O11: the lists and the agents' calls are kept together, since an agent answers the call that its duty names. -/
theorem queueListsAreKept : Obligations.QueueListsAreKept := by
  intro s u ha hl e
  exact (queueLists_iff u).2 ((step_sound (sound_of_lists ha hl) e).lists le_rfl)

/-- Settles O12: the four invariants of the links are kept together, since an offer takes the junctor at the head of the free
order for a call of the queue in whose list it stands. -/
theorem junctorsAndSlotsAgree : Obligations.JunctorsAndSlotsAgree := by
  intro s u ha hl ho hb e
  have sound := step_sound (sound_of_overflow ha hl ho hb) e
  exact (overflowBound_iff u).2 ⟨sound.junctors le_rfl, sound.slots le_rfl⟩

end Sys2Proof.Proofs
end

section
/-! PROOF. What the RESET pin leaves (ResetLeaves), and the invariants in it (ResetIsSafe). -/

namespace Sys2Proof.Machine

/-- The pin resets what is reset already to itself. -/
theorem reset_eq_resetTo : State.reset = State.reset.resetTo defaultImage State.reset.mpi.station [] := rfl

theorem reset_call (t : Trunk) : State.reset.call t = none := by simp [State.call, State.reset, Cqm.reset]

theorem reset_duty (p : Position) : State.reset.duty p = none := by simp [State.duty, State.reset, Dsu.reset]

theorem reset_guest (g : GuestNo) : State.reset.ofu.guests[g] = none := by simp [State.reset, Ofu.reset]

theorem State.Sound.reset {n : Nat} : State.reset.Sound n (fun _ => False) none := State.Sound.resetTo State.reset _ _ _

end Sys2Proof.Machine

namespace Sys2Proof.Claims

open Machine

theorem waitingFlags_reset : WaitingFlags State.reset := fun t => by
  rw [reset_call]
  rfl

theorem agentsBound_reset : AgentsBound State.reset := by
  refine ⟨fun p => ?_, fun t b hb => ?_, fun g r hr => ?_⟩
  · rw [reset_duty]
    trivial
  · rw [reset_call] at hb
    cases hb
  · rw [reset_guest] at hr
    cases hr

theorem idleList_reset : IdleList State.reset :=
  ⟨List.nodup_nil, fun p => by
    rw [reset_duty]
    exact iff_of_false List.not_mem_nil (by simp)⟩

end Sys2Proof.Claims

namespace Sys2Proof.Proofs

open Machine Claims

/-- Settles O2: each block is reset to a constant. -/
theorem resetLeaves : Obligations.ResetLeaves := by
  refine ⟨⟨rfl, rfl, rfl⟩, ⟨fun t => ?_, fun p => ?_, rfl, rfl, rfl⟩, ⟨fun t => ?_, fun q => ?_⟩,
    ⟨fun p => ?_, rfl, fun q => ?_⟩, ⟨fun q => ?_, rfl⟩, ⟨fun c => ?_, rfl, rfl, rfl⟩, rfl,
    ⟨fun t => ?_, fun p => ?_, fun j => ?_, fun g => ?_, fun t => ?_, fun p => ?_, rfl, fun j => ?_, rfl, rfl⟩,
    ⟨rfl, rfl, rfl, rfl, rfl, rfl, rfl, rfl, rfl⟩, ⟨fun x => ?_, rfl⟩, ⟨fun o => ?_, fun g => ?_⟩, rfl, rfl, rfl, rfl, rfl, rfl⟩
  all_goals exact Vector.getElem_replicate _

/-- Settles O3: the reset state is one that `resetTo` makes, in which every record is free and every list empty. -/
theorem resetIsSafe : Obligations.ResetIsSafe := by
  have quiet : State.reset.configQuiet = true := reset_eq_resetTo ▸ resetTo_quiet _ _ _ _
  have sound : State.reset.Sound 2 (fun _ => False) none := .reset
  exact ⟨settled_of_quiet quiet rfl, configIdle_of_quiet quiet, quiet, reset_eq_resetTo ▸ resetTo_within (Nat.zero_le _),
    (junctorOrders_iff _).2 (sound.orders le_rfl), waitingFlags_reset, (queueLists_iff _).2 (sound.lists (by decide)),
    agentsBound_reset, idleList_reset, (overflowBound_iff _).2 ⟨sound.junctors le_rfl, sound.slots le_rfl⟩⟩

end Sys2Proof.Proofs
end

section
/-! PROOF. The bytes of the reports (ReportsAreSentAsBytes): each field is read back from the bytes that it is sent as. -/

namespace Sys2Proof.Machine

/-! ## Numbers and codes read back from their bytes -/

theorem byte_inj {a b : Nat} (ha : a < 256) (hb : b < 256) (h : byte a = byte b) : a = b := by
  rw [← byte_toNat_of_lt ha, h, byte_toNat_of_lt hb]

theorem byte_fin_inj {n : Nat} (hn : n ≤ 256) {i j : Fin n} (h : byte i.val = byte j.val) : i = j :=
  Fin.ext (byte_inj (i.isLt.trans_le hn) (j.isLt.trans_le hn) h)

theorem byte_mod (n : Nat) : (byte n).toNat = n % 256 := rfl

theorem byte_congr_mod {a b : Nat} (h : byte a = byte b) : a % 256 = b % 256 := by
  rw [← byte_mod, h, byte_mod]

theorem two_bytes_inj {a b : Nat} (ha : a < 65536) (hb : b < 65536) (high : byte (a / 256) = byte (b / 256))
    (low : byte a = byte b) : a = b := by
  have := byte_congr_mod high
  have := byte_congr_mod low
  omega

theorem four_bytes_inj {a b : Stamp} (h3 : byte (a.toNat / 16777216) = byte (b.toNat / 16777216))
    (h2 : byte (a.toNat / 65536) = byte (b.toNat / 65536)) (h1 : byte (a.toNat / 256) = byte (b.toNat / 256))
    (h0 : byte a.toNat = byte b.toNat) : a = b := by
  have := byte_congr_mod h3
  have := byte_congr_mod h2
  have := byte_congr_mod h1
  have := byte_congr_mod h0
  have := a.isLt
  have := b.isLt
  exact BitVec.eq_of_toNat_eq (by omega)

theorem flagByte_inj {a b : Bool} (h : flagByte a = flagByte b) : a = b := by
  revert a b
  decide

theorem CallOutcome.byte_code_inj {a b : CallOutcome} (h : byte a.code = byte b.code) : a = b := by
  cases a <;> cases b <;> simp [CallOutcome.code, byte] at h ⊢

theorem EndedBy.byte_code_inj {a b : EndedBy} (h : byte a.code = byte b.code) : a = b := by
  cases a <;> cases b <;> simp [EndedBy.code, byte] at h ⊢

theorem AgentKind.byte_code_inj {a b : AgentKind} (h : byte a.code = byte b.code) : a = b := by
  cases a <;> cases b <;> simp [AgentKind.code, byte] at h ⊢

theorem AgentCause.byte_code_inj {a b : AgentCause} (h : byte a.code = byte b.code) : a = b := by
  cases a <;> cases b <;> simp [AgentCause.code, byte] at h ⊢

theorem PeerKind.byte_code_inj {a b : PeerKind} (h : byte a.code = byte b.code) : a = b := by
  cases a <;> cases b <;> simp [PeerKind.code, byte] at h ⊢

theorem PeerCause.byte_code_inj {a b : PeerCause} (h : byte a.code = byte b.code) : a = b := by
  cases a <;> cases b <;> simp [PeerCause.code, byte] at h ⊢

/-- The party byte has its kind in its two high bits and the number below. -/
theorem Party.byte_toNat (a : Party) : a.byte.toNat =
    match a with
    | .none => 0
    | .agent p => 64 + p.val
    | .peer x => 128 + x.val := by
  cases a with
  | none => rfl
  | agent p => exact byte_toNat_of_lt (by omega)
  | peer x => exact byte_toNat_of_lt (by omega)

theorem Party.byte_inj {a b : Party} (h : a.byte = b.byte) : a = b := by
  have same := congrArg BitVec.toNat h
  rw [Party.byte_toNat, Party.byte_toNat] at same
  cases a <;> cases b <;> simp only [Party.agent.injEq, Party.peer.injEq, Fin.ext_iff, reduceCtorEq] at same ⊢ <;> omega

theorem profileByte_inj {f g : Option ProfileNo}
    (h : (match f with | none => (0xFF : Byte) | some f => byte f.val) =
      match g with | none => 0xFF | some g => byte g.val) : f = g := by
  have not_none (f : ProfileNo) : (0xFF : Byte) ≠ byte f.val := fun h => by
    have same := congrArg BitVec.toNat h
    rw [byte_toNat_of_lt (by omega)] at same
    have : (0xFF : Byte).toNat = 255 := rfl
    omega
  cases f with
  | none =>
    cases g with
    | none => rfl
    | some g => exact absurd h (not_none g)
  | some f =>
    cases g with
    | none => exact absurd h.symm (not_none f)
    | some g => rw [byte_fin_inj (by decide) h]

end Sys2Proof.Machine

namespace Sys2Proof.Claims

open Machine

/-! ## Reports of each kind -/

theorem callEnd_inj {t t' : Trunk} {g g' : Generation} {q q' : QueueNo} {o o' : CallOutcome} {w w' k k' : Nat} {p p' : Party}
    {r r' : Bool} (ha : Reportable (.callEnd t g q o w k p r)) (hb : Reportable (.callEnd t' g' q' o' w' k' p' r'))
    (h : Report.bytes (.callEnd t g q o w k p r) = Report.bytes (.callEnd t' g' q' o' w' k' p' r')) :
    Report.callEnd t g q o w k p r = .callEnd t' g' q' o' w' k' p' r' := by
  obtain ⟨hw, hk⟩ := ha
  obtain ⟨hw', hk'⟩ := hb
  simp only [Report.bytes, bytes2, List.cons_append, List.nil_append, List.cons.injEq, true_and, and_true] at h
  obtain ⟨ht, hg, hq, ho, w1, w0, k1, k0, hp, hr⟩ := h
  rw [byte_fin_inj (by decide) ht, BitVec.eq_of_toNat_eq (byte_inj (by omega) (by omega) hg), byte_fin_inj (by decide) hq,
    CallOutcome.byte_code_inj ho, two_bytes_inj (by omega) (by omega) w1 w0, two_bytes_inj (by omega) (by omega) k1 k0,
    Party.byte_inj hp, flagByte_inj hr]

theorem wrapEnd_inj {p p' : Position} {q q' : QueueNo} {w w' : Nat} {e e' : EndedBy} (ha : Reportable (.wrapEnd p q w e))
    (hb : Reportable (.wrapEnd p' q' w' e')) (h : Report.bytes (.wrapEnd p q w e) = Report.bytes (.wrapEnd p' q' w' e')) :
    Report.wrapEnd p q w e = .wrapEnd p' q' w' e' := by
  have hw : w ≤ 65535 := ha
  have hw' : w' ≤ 65535 := hb
  simp only [Report.bytes, bytes2, List.cons_append, List.nil_append, List.cons.injEq, true_and, and_true] at h
  obtain ⟨hp, hq, w1, w0, he⟩ := h
  rw [byte_fin_inj (by decide) hp, byte_fin_inj (by decide) hq, two_bytes_inj (by omega) (by omega) w1 w0,
    EndedBy.byte_code_inj he]

theorem agentState_inj {p p' : Position} {a a' b b' : AgentKind} {f f' : Option ProfileNo} {c c' : AgentCause}
    (h : Report.bytes (.agentState p a b f c) = Report.bytes (.agentState p' a' b' f' c')) :
    Report.agentState p a b f c = .agentState p' a' b' f' c' := by
  simp only [Report.bytes, List.cons.injEq, true_and, and_true] at h
  obtain ⟨hp, ha, hb, hf, hc⟩ := h
  rw [byte_fin_inj (by decide) hp, AgentKind.byte_code_inj ha, AgentKind.byte_code_inj hb, profileByte_inj hf,
    AgentCause.byte_code_inj hc]

theorem peerState_inj {x x' : Station} {a a' b b' : PeerKind} {c c' : PeerCause} {k k' : Stamp} {o o' l l' g g' : Nat}
    (ha : Reportable (.peerState x a b c k o l g)) (hb : Reportable (.peerState x' a' b' c' k' o' l' g'))
    (h : Report.bytes (.peerState x a b c k o l g) = Report.bytes (.peerState x' a' b' c' k' o' l' g')) :
    Report.peerState x a b c k o l g = .peerState x' a' b' c' k' o' l' g' := by
  obtain ⟨ho, hl, hg⟩ := ha
  obtain ⟨ho', hl', hg'⟩ := hb
  simp only [Report.bytes, bytes4, List.cons_append, List.nil_append, List.cons.injEq, true_and, and_true] at h
  obtain ⟨hx, ha, hb, hc, k3, k2, k1, k0, eo, el, eg⟩ := h
  rw [byte_fin_inj (by decide) hx, PeerKind.byte_code_inj ha, PeerKind.byte_code_inj hb, PeerCause.byte_code_inj hc,
    four_bytes_inj k3 k2 k1 k0, byte_inj (by omega) (by omega) eo, byte_inj (by omega) (by omega) el,
    byte_inj (by omega) (by omega) eg]

theorem storeFault_inj {c c' : Channel} {k k' : Clip} {x x' : StoreFaultCause} {n n' : Nat}
    (ha : Reportable (.storeFault c k x n)) (hb : Reportable (.storeFault c' k' x' n'))
    (h : Report.bytes (.storeFault c k x n) = Report.bytes (.storeFault c' k' x' n')) :
    Report.storeFault c k x n = .storeFault c' k' x' n' := by
  have hn : n ≤ 255 := ha
  have hn' : n' ≤ 255 := hb
  cases x with
  | readFault page offset =>
    cases x' with
    | readFault page' offset' =>
      simp only [Report.bytes, bytes2, List.cons_append, List.nil_append, List.cons.injEq, true_and, and_true] at h
      obtain ⟨hc, hk, hp, h1, h0, en⟩ := h
      rw [byte_fin_inj (by decide) hc, byte_fin_inj (by decide) hk,
        BitVec.eq_of_toNat_eq (byte_inj page.isLt page'.isLt hp),
        BitVec.eq_of_toNat_eq (two_bytes_inj offset.isLt offset'.isLt h1 h0), byte_inj (by omega) (by omega) en]
    | invalidClip => simp [Report.bytes] at h
  | invalidClip =>
    cases x' with
    | readFault page' offset' => simp [Report.bytes] at h
    | invalidClip =>
      simp only [Report.bytes, bytes2, List.cons_append, List.nil_append, List.cons.injEq, true_and, and_true] at h
      obtain ⟨hc, hk, en⟩ := h
      rw [byte_fin_inj (by decide) hc, byte_fin_inj (by decide) hk, byte_inj (by omega) (by omega) en]

/-- The first byte tells the kind of the report. -/
theorem report_inj {a b : Report} (ha : Reportable a) (hb : Reportable b) (h : a.bytes = b.bytes) : a = b := by
  cases a with
  | callEnd =>
    cases b with
    | callEnd => exact callEnd_inj ha hb h
    | _ => simp [Report.bytes] at h
  | wrapEnd =>
    cases b with
    | wrapEnd => exact wrapEnd_inj ha hb h
    | _ => simp [Report.bytes] at h
  | agentState =>
    cases b with
    | agentState => exact agentState_inj h
    | _ => simp [Report.bytes] at h
  | peerState =>
    cases b with
    | peerState => exact peerState_inj ha hb h
    | _ => simp [Report.bytes] at h
  | storeFault =>
    cases b with
    | storeFault => exact storeFault_inj ha hb h
    | _ => simp [Report.bytes] at h

end Sys2Proof.Claims

namespace Sys2Proof.Proofs

open Machine Claims

/-- Settles O19: each code is that of its table, and each field is read back from its bytes. -/
theorem reportsAreSentAsBytes : Obligations.ReportsAreSentAsBytes := by
  refine ⟨fun t g q o w k p r => ?_, fun p q w e => ?_, ?_, ?_,
    fun c k page offset n => ⟨?_, rfl⟩, fun a b => report_inj⟩
  · have code : byte o.code = match o with
        | .answeredLocal => 1
        | .answeredPeer => 2
        | .abandoned => 3
        | .rejected => 4 := by cases o <;> rfl
    have flag : flagByte r = byte (bit r) := by cases r <;> rfl
    rw [Report.bytes, code, flag]
    cases p <;> rfl
  · cases e <;> rfl
  · intro state p a b f c
    have code (a : AgentKind) : byte a.code = state a := by cases a <;> rfl
    simp only [Report.bytes, code]
    cases f <;> cases c <;> rfl
  · intro state x a b c k o l g
    have code (a : PeerKind) : byte a.code = state a := by cases a <;> rfl
    rw [Report.bytes, code, code]
    cases c <;> rfl
  · simp [Report.bytes, bytes2, byte]

end Sys2Proof.Proofs
end

section
/-! PROOF. The seizures that are not admitted (SeizuresAreRefused). -/

namespace Sys2Proof.Claims

open Machine State

variable {s : State} {t : Trunk}

theorem exec_seize_run (run : Scanning s) (k : Fin 64) :
    exec (.seize (byte t.val) (byte k.val)) s = .next ((s.takeSeize t k).close s) := by
  obtain ⟨running, opened⟩ := run
  rw [exec_seize opened, scanComplete_seize, takeScan_run running]
  rfl

theorem takeSeize_taken {b : CallBody} (h : s.call t = some b) (k : Fin 64) : s.takeSeize t k = s.scanError := by
  simp only [takeSeize, h]

theorem takeSeize_invalid (h : s.call t = none) {k : Fin 64} (hv : (s.mpi.image.services[k]).valid = false) :
    s.takeSeize t k = (s.issue (.reject t)).loopSeized t := by
  simp only [takeSeize, h, hv, Bool.not_false, if_true]

theorem takeSeize_full (h : s.call t = none) {k : Fin 64} {e : ServiceEntry} (he : s.mpi.image.services[k] = e)
    (hv : e.valid = true) (full : (s.queueItems e.queue).depthLimit ≤ s.cqm.lists[e.queue].length) :
    s.takeSeize t k = ((s.issue (.reject t)).writeReport
      (.callEnd t s.cqm.calls[t].gen e.queue .rejected 0 0 .none false)).loopSeized t := by
  subst he
  simp only [takeSeize, h, hv, if_pos full, Bool.not_true, Bool.false_eq_true, if_false]

/-- The loop of a refused seizure reads as seized, and nothing else is written with it. -/
theorem refused_loopSeized {u : State} {c : Change} (h : Only c s u) (same : u.lsi.trunks = s.lsi.trunks) :
    (u.loopSeized t).lsi.trunks[t] = seized s.lsi.trunks[t] ∧
      Only (c.and { trunks := [t] }) s (u.loopSeized t) :=
  ⟨by simp [loopSeized, seized, same], h.trans (only_setTrunkSup u t _)⟩

end Sys2Proof.Claims

namespace Sys2Proof.Proofs

open Machine Claims

/-- Settles O21: the three branches of a SEIZE character that lead to no admission. -/
theorem seizuresAreRefused : Obligations.SeizuresAreRefused := by
  intro s t k run c e
  refine ⟨fun taken => ?_, fun free invalid => ⟨s.takeSeize t k, exec_seize_run run k, ?_⟩,
    fun free valid full => ⟨s.takeSeize t k, exec_seize_run run k, ?_⟩⟩
  · obtain ⟨b, hb⟩ := Option.ne_none_iff_exists'.1 taken
    exact (exec_seize_run run k).trans (by rw [takeSeize_taken hb]; rfl)
  · obtain ⟨loop, only⟩ := refused_loopSeized (t := t) (only_issue s (.reject t)) (by simp)
    rw [takeSeize_invalid free invalid]
    exact ⟨loop, only.mono (by constructor <;> simp [Change.and])⟩
  · obtain ⟨loop, only⟩ := refused_loopSeized (t := t) ((only_issue s (.reject t)).trans (only_writeReport _ _)) (by simp)
    rw [takeSeize_full free rfl valid full]
    exact ⟨loop, only.mono (by constructor <;> simp [Change.and, e])⟩

end Sys2Proof.Proofs
end

section
/-! PROOF. The ANSWER and RELEASE keys (AnswerAndReleaseKeysAreTaken) and the ring deadline (RingDeadlineGivesUp). -/

namespace Sys2Proof.Claims

open Machine State

variable {s : State} {p : Position} {b : Byte}

/-! ## The rows of the keys in RUN -/

theorem exec_answerKey (run : Scanning s) (hp : Names b p) : exec (.answerKey b) s = .next ((s.keyAnswer p).close s) := by
  obtain ⟨running, opened⟩ := run
  have row : exec (.answerKey b) s = .next (s.takeScan (scanComplete [keyCode .answer, b])) :=
    congrArg _ (scanReceiveAll_two opened (scanLength_keyCode .answer))
  rw [row, scanComplete_key .answer hp, takeScan_run running]
  rfl

theorem exec_releaseKey (run : Scanning s) (hp : Names b p) : exec (.releaseKey b) s = .next ((s.keyRelease p).close s) := by
  obtain ⟨running, opened⟩ := run
  have row : exec (.releaseKey b) s = .next (s.takeScan (scanComplete [keyCode .release, b])) :=
    congrArg _ (scanReceiveAll_two opened (scanLength_keyCode .release))
  rw [row, scanComplete_key .release hp, takeScan_run running]
  rfl

/-! ## ANSWER -/

theorem modifyCall_of_call {t : Trunk} {c : CallBody} (h : s.call t = some c) (f : CallBody → CallBody) :
    s.modifyCall t f = s.setCall t ⟨s.cqm.calls[t].gen, some (f c)⟩ := by
  rw [modifyCall, h]
  rfl

theorem setCall_setCall (s : State) (t : Trunk) (x y : CallRec) : (s.setCall t x).setCall t y = s.setCall t y := by
  simp [setCall]

theorem keyAnswer_call {t : Trunk} {d : Stamp} {c : CallBody} (hd : s.duty p = some (.alerting (.call t) d))
    (hc : s.call t = some c) :
    s.keyAnswer p = (s.setAgent p (onDuty s.dsu.agents[p] (.talking (.call t)))).setCall t
      ⟨s.cqm.calls[t].gen, some { c with phase := .talking p s.now, source := none }⟩ := by
  have rung : (s.setDuty p (.talking (.call t))).call t = some c := hc
  have phased : ((s.setDuty p (.talking (.call t))).setPhase t (.talking p s.now)).call t =
      some { c with phase := .talking p s.now } := by
    simp [setPhase, modifyCall_of_call rung, State.call]
  simp only [keyAnswer, hd]
  rw [sourceToNone, modifyCall_of_call phased, setPhase, modifyCall_of_call rung, setCall_setCall]
  simp [setDuty, onDuty]

theorem keyAnswer_guest {g : GuestNo} {d : Stamp} {r : GuestRec} (hd : s.duty p = some (.alerting (.guest g) d))
    (hr : s.ofu.guests[g] = some r) :
    s.keyAnswer p = ((s.setAgent p (onDuty s.dsu.agents[p] (.talking (.guest g)))).setGuest g
      (some { r with phase := .talking s.now })).give r.origin (.answered r.tag) := by
  have bound : (s.setDuty p (.talking (.guest g))).ofu.guests[g] = some r := hr
  simp only [keyAnswer, hd, answerGuest, bound]
  rfl

/-! ## RELEASE -/

theorem talkTicks_of {t : Trunk} {c : CallBody} {a : Stamp} (hc : s.call t = some c) (hp : c.phase = .talking p a) :
    s.talkTicks t = elapsed a s.now := by
  obtain ⟨phase⟩ := c
  cases hp
  simp only [talkTicks, hc]

theorem keyRelease_call {t : Trunk} {c : CallBody} {a : Stamp} (hd : s.duty p = some (.talking (.call t)))
    (hc : s.call t = some c) (hp : c.phase = .talking p a) :
    s.keyRelease p = ((s.endCall t).openWrap p c.queue (elapsed a s.now)).reportAgent s p .wrapEnd := by
  simp only [keyRelease, hd, releaseCall, hc, talkTicks_of hc hp]

/-- The guest of a TALKING agent is freed. -/
theorem freeGuest_talking {u : State} {g : GuestNo} {r : GuestRec} {bound : Bound} {a : Stamp} (hr : u.ofu.guests[g] = some r)
    (hd : u.duty r.agent = some (.talking bound)) (hp : r.phase = .talking a) :
    u.freeGuest g = (u.setGuest g none).openWrap r.agent r.queue (elapsed a u.now) := by
  simp only [freeGuest, hr, hd, hp]

theorem keyRelease_guest {g : GuestNo} {r : GuestRec} {a : Stamp} (hd : s.duty r.agent = some (.talking (.guest g)))
    (hr : s.ofu.guests[g] = some r) (hp : r.phase = .talking a) :
    s.keyRelease r.agent = (((s.give r.origin (.release r.tag .agentDone)).setGuest g none).openWrap r.agent r.queue
      (elapsed a s.now)).reportAgent s r.agent .wrapEnd := by
  have guest : (s.give r.origin (.release r.tag .agentDone)).ofu.guests[g] = some r := by simpa using hr
  have duty : (s.give r.origin (.release r.tag .agentDone)).duty r.agent = some (.talking (.guest g)) := by
    simpa [State.duty] using hd
  simp only [keyRelease, hd, releaseByAgent, hr, freeGuest_talking guest duty hp]
  simp [now]

/-! ## The ring deadline -/

theorem exec_ringDeadline_reached {bound : Bound} {d : Stamp} (hd : s.duty p = some (.alerting bound d)) (hn : d = s.now) :
    exec (.ringDeadline p) s = .next ((s.giveUp s p bound .noAnswer .noAnswer).close s) := by
  have reached : s.ringReached p = true := by simp only [ringReached, hd, hn, beq_self_eq_true]
  have expiry : s.ringExpiry p = s.giveUp s p bound .noAnswer .noAnswer := by simp only [ringExpiry, hd]
  rw [← expiry]
  exact congrArg _ (if_pos reached)

theorem exec_ringDeadline_early (h : ∀ bound, s.duty p ≠ some (.alerting bound s.now)) :
    exec (.ringDeadline p) s = .next s := by
  have early : ¬s.ringReached p = true := by
    unfold ringReached
    split
    next bound d hd => simpa using fun e : d = s.now => h bound (e ▸ hd)
    next => simp
  exact congrArg _ (if_neg early)

end Sys2Proof.Claims

namespace Sys2Proof.Proofs

open Machine Claims

/-- Settles O28: both keys in each duty; a call ends by `endCall_ended` and its agent goes by `openWrap_wrapOpened`. -/
theorem answerAndReleaseKeysAreTaken : Obligations.AnswerAndReleaseKeysAreTaken := by
  refine ⟨?_, fun s b p run hp => ?_⟩
  · intro s b p run hp talking
    have row := exec_answerKey run hp
    have refused (h : s.keyAnswer p = s.refuseKey p) :
        exec (.answerKey b) s = .next ((s.issue (.keyRefused p)).close s) := by
      rw [row, h]
      rfl
    cases hd : s.duty p with
    | none => exact refused (by simp only [State.keyAnswer, hd])
    | some d =>
      cases d with
      | alerting bound d =>
        cases bound with
        | call t => exact fun c hc => keyAnswer_call hd hc ▸ row
        | guest g => exact fun r hr => keyAnswer_guest hd hr ▸ row
      | _ => exact refused (by simp only [State.keyAnswer, hd])
  · have row := exec_releaseKey run hp
    have refused (h : s.keyRelease p = s.refuseKey p) :
        exec (.releaseKey b) s = .next ((s.issue (.keyRefused p)).close s) := by
      rw [row, h]
      rfl
    cases hd : s.duty p with
    | none => exact refused (by simp only [State.keyRelease, hd])
    | some d =>
      cases d with
      | talking bound =>
        cases bound with
        | call t =>
          intro c a hc hphase
          refine ⟨_, _, _, endCall_ended hc ?_, openWrap_wrapOpened _ p _ _, reportAgent_reported _ s p _,
            keyRelease_call hd hc hphase ▸ row⟩
          simp [State.callEndReport, hphase, clamp16]
        | guest g =>
          rintro r a hr rfl hphase
          exact ⟨_, _, openWrap_wrapOpened _ r.agent _ _, reportAgent_reported _ s r.agent _,
            keyRelease_guest hd hr hphase ▸ row⟩
      | _ => exact refused (by simp only [State.keyRelease, hd])

/-- Settles O30: a ring reached is given up by `giveUp_givenUp`; any other duty holds no ring deadline. -/
theorem ringDeadlineGivesUp : Obligations.RingDeadlineGivesUp := by
  intro s p
  cases hd : s.duty p with
  | none => exact exec_ringDeadline_early (by simp [hd])
  | some d =>
    cases d with
    | alerting bound d =>
      by_cases hn : d = s.now
      · simp only [if_pos hn]
        intro named
        refine ⟨_, giveUp_givenUp s s p .noAnswer .noAnswer ?_ ?_, exec_ringDeadline_reached hd hn⟩
        · rintro t rfl
          exact named
        · rintro g rfl
          exact named
      · simp only [if_neg hn]
        exact exec_ringDeadline_early (by simp [hd, hn])
    | _ => exact exec_ringDeadline_early (by simp [hd])

end Sys2Proof.Proofs
end

section
/-! PROOF. The deadlines of the overflow (OverflowDeadlinesAct): the lowest-numbered one that is reached is taken, and an offer
fails. -/

namespace Sys2Proof.Machine

theorem find?_finRange_iff {n : Nat} {p : Fin n → Bool} {i : Fin n} :
    (List.finRange n).find? p = some i ↔ p i = true ∧ ∀ j < i, p j = false := by
  rw [← Fin.find?_eq_find?_finRange, Fin.find?_eq_some_iff]

theorem find?_finRange_none {n : Nat} {p : Fin n → Bool} (h : ∀ i, p i = false) : (List.finRange n).find? p = none := by
  simpa using h

variable {s : State}

/-! ## When a deadline is reached -/

theorem offerReached_iff (o : SlotNo) : s.offerReached o = true ↔ ∃ d ∈ s.ofu.slots[o], d.deadline = s.now := by
  unfold State.offerReached
  cases s.ofu.slots[o] <;> simp

theorem lentReached_iff (t : Trunk) :
    s.lentReached t = true ↔ ∃ b ∈ s.call t, ∃ x j, b.phase = .lentAlerting x j s.now := by
  unfold State.lentReached
  split
  next x j d q r g a v o n w hc => simp [hc]
  next other =>
    refine iff_of_false (by simp) ?_
    rintro ⟨⟨phase⟩, hb, x, j, rfl⟩
    exact other _ _ _ _ _ _ _ _ _ _ _ hb

theorem connectReached_iff (g : GuestNo) :
    s.connectReached g = true ↔ ∃ r ∈ s.ofu.guests[g], r.phase = .waitConnect s.now := by
  unfold State.connectReached
  split
  next hr => simp [hr]
  next other =>
    refine iff_of_false (by simp) ?_
    rintro ⟨⟨phase⟩, hr, rfl⟩
    exact other _ _ _ _ _ _ _ _ _ hr

/-! ## The rows -/

theorem exec_offerDeadline_reached {o : SlotNo} {d : OfferSlot} (hd : s.ofu.slots[o] = some d) (hn : d.deadline = s.now)
    (low : ∀ k < o, ∀ e ∈ s.ofu.slots[k], e.deadline ≠ s.now) :
    exec .offerDeadline s = .next ((s.failOffer d.trunk).close s) := by
  have due : s.offerDue = some o := by
    refine find?_finRange_iff.2 ⟨(offerReached_iff o).2 ⟨d, hd, hn⟩, fun k hk => ?_⟩
    rw [Bool.eq_false_iff, ne_eq, offerReached_iff]
    rintro ⟨e, he, same⟩
    exact low k hk e he same
  have row : exec .offerDeadline s = .next ((s.offerExpiry o).close s) := by
    change execOfferDeadline s = _
    simp only [execOfferDeadline, due]
    rfl
  rw [row]
  simp only [State.offerExpiry, hd]

theorem exec_offerDeadline_none (h : ∀ o : SlotNo, ∀ e ∈ s.ofu.slots[o], e.deadline ≠ s.now) :
    exec .offerDeadline s = .next s := by
  have due : s.offerDue = none := find?_finRange_none fun o => by
    rw [Bool.eq_false_iff, ne_eq, offerReached_iff]
    rintro ⟨e, he, same⟩
    exact h o e he same
  change execOfferDeadline s = _
  simp only [execOfferDeadline, due]

theorem exec_lentDeadline_reached {t : Trunk} {b : CallBody} {x : Station} {j : Junctor} (hb : s.call t = some b)
    (hp : b.phase = .lentAlerting x j s.now) (low : ∀ u < t, s.lentReached u = false) :
    exec .lentDeadline s = .next (((s.give x (.withdraw ⟨t, s.cqm.calls[t].gen⟩)).returnCall t).close s) := by
  have due : s.lentDue = some t := find?_finRange_iff.2 ⟨(lentReached_iff t).2 ⟨b, hb, x, j, hp⟩, low⟩
  have row : exec .lentDeadline s = .next ((s.lentExpiry t).close s) := by
    change execLentDeadline s = _
    simp only [execLentDeadline, due]
    rfl
  obtain ⟨phase⟩ := b
  cases hp
  rw [row]
  simp only [State.lentExpiry, hb]
  rfl

theorem exec_lentDeadline_none (h : ∀ t : Trunk, ∀ b ∈ s.call t, ∀ x j, b.phase ≠ .lentAlerting x j s.now) :
    exec .lentDeadline s = .next s := by
  have due : s.lentDue = none := find?_finRange_none fun t => by
    rw [Bool.eq_false_iff, ne_eq, lentReached_iff]
    rintro ⟨b, hb, x, j, hp⟩
    exact h t b hb x j hp
  change execLentDeadline s = _
  simp only [execLentDeadline, due]

theorem exec_connectDeadline_reached {g : GuestNo} {r : GuestRec} (hr : s.ofu.guests[g] = some r)
    (hp : r.phase = .waitConnect s.now) (low : ∀ h < g, s.connectReached h = false) :
    exec .connectDeadline s = .next
      ((((s.give r.origin (.bounce r.tag .noConnect)).freeGuest g).reportAgent s r.agent .callGone).close s) := by
  have due : s.connectDue = some g := find?_finRange_iff.2 ⟨(connectReached_iff g).2 ⟨r, hr, hp⟩, low⟩
  have row : exec .connectDeadline s = .next ((s.connectExpiry g).close s) := by
    change execConnectDeadline s = _
    simp only [execConnectDeadline, due]
    rfl
  rw [row]
  simp only [State.connectExpiry, hr]

theorem exec_connectDeadline_none (h : ∀ g : GuestNo, ∀ r ∈ s.ofu.guests[g], r.phase ≠ .waitConnect s.now) :
    exec .connectDeadline s = .next s := by
  have due : s.connectDue = none := find?_finRange_none fun g => by
    rw [Bool.eq_false_iff, ne_eq, connectReached_iff]
    rintro ⟨r, hr, hp⟩
    exact h g r hr hp
  change execConnectDeadline s = _
  simp only [execConnectDeadline, due]

end Sys2Proof.Machine

namespace Sys2Proof.Claims

open Machine State

variable {s : State}

/-- An offer fails: its slot and junctor are freed, and the call is QUEUED again and matched. -/
theorem failOffer_offerFailed {t : Trunk} {b : CallBody} {o : SlotNo} {x : Station} {j : Junctor} (hc : s.call t = some b)
    (hp : b.phase = .offered o x j) : OfferFailed s (s.failOffer t) t b o j := by
  have slot : b.phase.slot = some o := by rw [hp]; rfl
  have junctor : b.phase.junctor = some j := by rw [hp]; rfl
  rw [State.Sound.failOffer_of_offered hc hp]
  refine ⟨_, ⟨?_, ?_, ?_, ?_⟩, matchCall_matched _ t⟩
  · have kept : (s.freeOverflow b.phase).call t = some b := by simpa [State.call] using hc
    rw [setPhase, modifyCall_of_call kept]
    simp
  · simpa using freeOverflow_slot s b.phase o (by simp [slot])
  · exact freed_congr (junctor ▸ freeOverflow_freed s b.phase) (by simp) (by simp) rfl rfl rfl rfl
  · exact ((only_freeOverflow s b.phase).trans (only_modifyCall _ t _)).mono
      (by constructor <;> simp [Change.and, slot, junctor])

/-- The guest of a RESERVED agent is freed. -/
theorem freeGuest_reserved {u : State} {g g' : GuestNo} {r : GuestRec} (hr : u.ofu.guests[g] = some r)
    (hd : u.duty r.agent = some (.reserved g')) : u.freeGuest g = (u.setGuest g none).takePending r.agent := by
  simp only [freeGuest, hr, hd]

end Sys2Proof.Claims

namespace Sys2Proof.Proofs

open Machine Claims

/-- Settles O33: each deadline's row finds the lowest record that reached it, or none. -/
theorem overflowDeadlinesAct : Obligations.OverflowDeadlinesAct := by
  intro s
  refine ⟨fun o d b x j hd hn low hc hp => ?_, exec_offerDeadline_none, fun t b x j hb hp low => ?_, exec_lentDeadline_none,
    fun g r hr hp hd low => ?_, exec_connectDeadline_none⟩
  · exact ⟨_, failOffer_offerFailed hc hp, exec_offerDeadline_reached hd hn low⟩
  · refine ⟨_, returnCall_returned ?_ (.inr (.inl ⟨x, j, _, hp⟩)), exec_lentDeadline_reached hb hp low⟩
    simpa [State.call] using hb
  · have row := exec_connectDeadline_reached hr hp low
    have guest : (s.give r.origin (.bounce r.tag .noConnect)).ofu.guests[g] = some r := by simpa using hr
    have duty : (s.give r.origin (.bounce r.tag .noConnect)).duty r.agent = some (.reserved g) := by
      simpa [State.duty] using hd
    rw [freeGuest_reserved guest duty] at row
    exact ⟨_, _, takePending_tookPending _ r.agent, reportAgent_reported _ s r.agent _, row⟩

end Sys2Proof.Proofs
end

section
/-! PROOF. The frames for the origin of an offer (OriginFramesAct): with the match that each asks of the record, and without. -/

namespace Sys2Proof.Machine.State

variable {s : State} {x : Station} {tag : Tag} {b : CallBody}

/-! ## The frames where the record matches, and where it does not -/

theorem taggedCall_iff : s.taggedCall tag = some b ↔ s.cqm.calls[tag.trunk] = ⟨tag.gen, some b⟩ := by
  rw [Sound.taggedCall_eq_some, State.call]
  cases s.cqm.calls[tag.trunk]
  simp

theorem takeTake_match {o : SlotNo} {j : Junctor} (h : s.taggedCall tag = some b) (hp : b.phase = .offered o x j) :
    s.takeTake x tag j = (s.lendCall tag.trunk x j).give x (.connect tag j) :=
  if_pos (Sound.takeMatches_iff.2 ⟨b, o, h, hp⟩)

theorem takeTake_other {j : Junctor} (h : ∀ b o, s.taggedCall tag = some b → b.phase ≠ .offered o x j) :
    s.takeTake x tag j = s.give x (.release tag .tooLate) := by
  refine if_neg fun taken => ?_
  obtain ⟨b, o, hb, hp⟩ := Sound.takeMatches_iff.1 taken
  exact h b o hb hp

theorem takeDecline_match {o : SlotNo} {j : Junctor} (h : s.taggedCall tag = some b) (hp : b.phase = .offered o x j) :
    s.takeDecline x tag = (s.markDecline x b.queue).failOffer tag.trunk := by
  obtain ⟨phase⟩ := b
  cases hp
  simp only [takeDecline, h, if_true]

theorem takeDecline_other (h : ∀ b o j, s.taggedCall tag = some b → b.phase ≠ .offered o x j) : s.takeDecline x tag = s := by
  unfold takeDecline
  split
  next o y j _ _ _ _ _ _ _ _ hb => exact if_neg fun e : y = x => h _ o j hb (e ▸ rfl)
  next => rfl

theorem takeAnswered_match {j : Junctor} {d : Stamp} (h : s.taggedCall tag = some b) (hp : b.phase = .lentAlerting x j d) :
    s.takeAnswered x tag = s.setPhase tag.trunk (.lentTalking x j s.now) := by
  obtain ⟨phase⟩ := b
  cases hp
  simp only [takeAnswered, h, if_true]

theorem takeAnswered_other (h : ∀ b j d, s.taggedCall tag = some b → b.phase ≠ .lentAlerting x j d) :
    s.takeAnswered x tag = s.give x (.release tag .tooLate) := by
  unfold takeAnswered
  split
  next y j d _ _ _ _ _ _ _ _ hb => exact if_neg fun e : y = x => h _ j d hb (e ▸ rfl)
  next => rfl

theorem takeBounce_match {j : Junctor} {d : Stamp} (h : s.taggedCall tag = some b) (hp : b.phase = .lentAlerting x j d) :
    s.takeBounce x tag = s.returnCall tag.trunk := by
  obtain ⟨phase⟩ := b
  cases hp
  simp only [takeBounce, h, if_true]

theorem takeBounce_other (h : ∀ b j d, s.taggedCall tag = some b → b.phase ≠ .lentAlerting x j d) : s.takeBounce x tag = s := by
  unfold takeBounce
  split
  next y j d _ _ _ _ _ _ _ _ hb => exact if_neg fun e : y = x => h _ j d hb (e ▸ rfl)
  next => rfl

theorem takeAgentDone_match {j : Junctor} {a : Stamp} (h : s.taggedCall tag = some b) (hp : b.phase = .lentTalking x j a) :
    s.takeAgentDone x tag = s.endCall tag.trunk := by
  obtain ⟨phase⟩ := b
  cases hp
  simp only [takeAgentDone, h, if_true]

theorem takeAgentDone_other (h : ∀ b j a, s.taggedCall tag = some b → b.phase ≠ .lentTalking x j a) :
    s.takeAgentDone x tag = s := by
  unfold takeAgentDone
  split
  next y j a _ _ _ _ _ _ _ _ hb => exact if_neg fun e : y = x => h _ j a hb (e ▸ rfl)
  next => rfl

end Sys2Proof.Machine.State

namespace Sys2Proof.Claims

open Machine State

variable {s : State} {f : RxFrame} {x : Station}

/-- A delivered frame is taken in the state in which it is heard. -/
theorem frameReceived_delivers {k : FrameKind} {c : Payload} (h : Delivers s k f x c) :
    s.frameReceived (rxChars k f) f.damaged f.endedByMark = ((heard s f).deliver x c).close s := by
  obtain ⟨run, midst, good⟩ := h
  have taken : (s.frameEnds f.endedByMark).takeRx (receive s.mpi.station s.plc.echo (rxChars k f) f.damaged) =
      (heard s f).deliver x c := by
    rw [good]
    rfl
  rw [frameReceived, if_pos run, event, if_neg midst, taken]

theorem exec_take {tag : Tag} {j : Junctor} (h : Delivers s .take f x (.take tag j)) :
    exec (.take f) s = .next (((heard s f).takeTake x tag j).close s) := by
  change Host.Outcome.next (s.frameReceived _ _ _) = _
  rw [frameReceived_delivers h, deliver]

theorem exec_decline {tag : Tag} {reason : DeclineReason} (h : Delivers s .decline f x (.decline tag reason)) :
    exec (.decline f) s = .next (((heard s f).takeDecline x tag).close s) := by
  change Host.Outcome.next (s.frameReceived _ _ _) = _
  rw [frameReceived_delivers h, deliver]

theorem exec_answered {tag : Tag} (h : Delivers s .answered f x (.answered tag)) :
    exec (.answered f) s = .next (((heard s f).takeAnswered x tag).close s) := by
  change Host.Outcome.next (s.frameReceived _ _ _) = _
  rw [frameReceived_delivers h, deliver]

theorem exec_bounce {tag : Tag} {cause : BounceCause} (h : Delivers s .bounce f x (.bounce tag cause)) :
    exec (.bounce f) s = .next (((heard s f).takeBounce x tag).close s) := by
  change Host.Outcome.next (s.frameReceived _ _ _) = _
  rw [frameReceived_delivers h, deliver]

theorem exec_releaseAgentDone {tag : Tag} (h : Delivers s .release f x (.release tag .agentDone)) :
    exec (.releaseAgentDone f) s = .next (((heard s f).takeAgentDone x tag).close s) := by
  change Host.Outcome.next (s.frameReceived _ _ _) = _
  rw [frameReceived_delivers h, deliver]

theorem heard_taggedCall {tag : Tag} {b : CallBody} :
    (heard s f).taggedCall tag = some b ↔ s.cqm.calls[tag.trunk] = ⟨tag.gen, some b⟩ := taggedCall_iff

/-! ## The decline mark -/

theorem only_setPeer (s : State) (x : Station) (e : PeerEntry) : Only { peers := [x] } s (s.setPeer x e) := by
  simp +contextual [Only, getElem_set_other]

theorem only_markDecline (s : State) (x : Station) (q : QueueNo) : Only { peers := [x] } s (s.markDecline x q) := by
  unfold markDecline modifyPeer
  split
  · exact only_setPeer s x _
  all_goals exact (Only.refl s).mono (by constructor <;> simp)

theorem markDecline_peer (s : State) (x : Station) (q : QueueNo) :
    (s.markDecline x q).pvt.peers[x] = match s.pvt.peers[x] with
      | .present d => .present { d with decline := d.decline.set q true, idle := d.idle.set q 0 }
      | entry => entry := by
  unfold markDecline modifyPeer
  cases h : s.pvt.peers[x] <;> simp [h]

theorem markDecline_call (s : State) (x : Station) (q : QueueNo) (t : Trunk) : (s.markDecline x q).call t = s.call t := by
  simp [State.call]

/-! ## A call lent -/

/-- The call is lent to the peer that takes it (R27, R124): out of its list and of the waiting list, its slot free. -/
theorem takeTake_lent {tag : Tag} {b : CallBody} {o : SlotNo} {j : Junctor} (h : s.taggedCall tag = some b)
    (hp : b.phase = .offered o x j) :
    let t := tag.trunk
    let v := s.takeTake x tag j
    v.cqm.calls[t] = ⟨tag.gen, some { b with
      phase := .lentAlerting x j (deadline s.now s.items.lentLimit), source := none, waiting := false }⟩ ∧
      v.cqm.lists[b.queue] = s.cqm.lists[b.queue].erase t ∧ v.ofu.slots[o] = none ∧
      v.htu.waiting = s.htu.waiting.filter (fun e => e.trunk ≠ t) ∧
      Only { calls := [t], lists := [b.queue], slots := [o], waiting := true, frames := [(x, .connect tag j)] } s v := by
  obtain ⟨gen, hc⟩ := Sound.taggedCall_eq_some.1 h
  have body : s.cqm.calls[tag.trunk.val].body = some b := hc
  rw [takeTake_match h hp, Sound.lendCall_of_offered hc hp]
  refine ⟨?_, ?_, ?_, ?_, ?_⟩
  · simp [sourceToNone, removeEntry, setPhase, removeCall, body, ← gen]
  · simp [sourceToNone, removeEntry, setPhase, removeCall]
  · simp [sourceToNone, removeEntry, setPhase, removeCall]
  · simp [sourceToNone, removeEntry, setPhase, removeCall]
  · exact ((((((only_setSlot s o none).trans (only_removeCall _ b.queue tag.trunk)).trans (only_modifyCall _ tag.trunk _)).trans
      (only_removeEntry _ tag.trunk)).trans (only_modifyCall _ tag.trunk _)).trans (only_give _ x _)).mono
        (by constructor <;> simp [Change.and])

/-- The generation is kept where a tagged call changes its phase. -/
theorem setPhase_tagged {tag : Tag} {b : CallBody} (h : s.taggedCall tag = some b) (p : CallPhase) :
    s.setPhase tag.trunk p = s.setCall tag.trunk ⟨tag.gen, some { b with phase := p }⟩ := by
  obtain ⟨gen, hc⟩ := Sound.taggedCall_eq_some.1 h
  rw [setPhase, modifyCall_of_call hc, gen]

end Sys2Proof.Claims

namespace Sys2Proof.Proofs

open Machine Claims

/-- Settles O50: each frame's match, by the rule of the act on the call that it brings. -/
theorem originFramesAct : Obligations.OriginFramesAct := by
  refine ⟨fun s f x tag j here => ⟨fun b o live hp => ?_, fun other => ?_⟩, fun s f x tag =>
    ⟨fun reason here => ⟨fun b o j live hp => ?_, fun other => ?_⟩,
      fun here => ⟨fun b j d live hp => ?_, fun other => ?_⟩,
      fun cause here => ⟨fun b j d live hp => ?_, fun other => ?_⟩,
      fun here => ⟨fun b j a live hp => ?_, fun other => ?_⟩⟩⟩
  · exact ⟨_, exec_take here, takeTake_lent (heard_taggedCall.2 live) hp⟩
  · rw [exec_take here, State.takeTake_other fun b o hb => other b o (heard_taggedCall.1 hb)]
  · have tagged := (heard_taggedCall (f := f)).2 live
    have row := exec_decline here
    rw [State.takeDecline_match tagged hp] at row
    refine ⟨_, _, only_markDecline _ x b.queue, markDecline_peer _ x b.queue, failOffer_offerFailed ?_ hp, row⟩
    rw [markDecline_call]
    exact (State.Sound.taggedCall_eq_some.1 tagged).2
  · rw [exec_decline here, State.takeDecline_other fun b o j hb => other b o j (heard_taggedCall.1 hb)]
  · have tagged := (heard_taggedCall (f := f)).2 live
    rw [exec_answered here, State.takeAnswered_match tagged hp, setPhase_tagged tagged]
    rfl
  · rw [exec_answered here, State.takeAnswered_other fun b j d hb => other b j d (heard_taggedCall.1 hb)]
  · have tagged := (heard_taggedCall (f := f)).2 live
    have row := exec_bounce here
    rw [State.takeBounce_match tagged hp] at row
    exact ⟨_, returnCall_returned (State.Sound.taggedCall_eq_some.1 tagged).2 (.inr (.inl ⟨x, j, d, hp⟩)), row⟩
  · rw [exec_bounce here, State.takeBounce_other fun b j d hb => other b j d (heard_taggedCall.1 hb)]
  · have tagged := (heard_taggedCall (f := f)).2 live
    have row := exec_releaseAgentDone here
    rw [State.takeAgentDone_match tagged hp] at row
    refine ⟨_, endCall_ended (State.Sound.taggedCall_eq_some.1 tagged).2 ?_, row⟩
    simp only [State.callEndReport, hp]
    rfl
  · rw [exec_releaseAgentDone here, State.takeAgentDone_other fun b j a hb => other b j a (heard_taggedCall.1 hb)]

end Sys2Proof.Proofs
end

section
/-! PROOF. The generations (GenerationsRiseAtAdmission): every command but a seizure of its trunk keeps the generation of a
record, and a FREE record FREE. -/

namespace Sys2Proof.Machine

variable {s u v : State} {t : Trunk}

/-- The trunk `t`, where its record is FREE in `s`. -/
def FreeAt (t : Trunk) (s : State) (x : Trunk) : Prop := x = t ∧ s.call t = none

/-- The record of `t` has the generation that it has in `s`, and is FREE where it is FREE in `s`. -/
structure Kept (t : Trunk) (s u : State) : Prop where
  gen : u.cqm.calls[t].gen = s.cqm.calls[t].gen
  free : u.Sound 0 (FreeAt t s) none

theorem call_eq_none_iff : s.call t = none ↔ s.links.standing t = none := by simp [State.links]

theorem freeAt_sound (t : Trunk) (s : State) : s.Sound 0 (FreeAt t s) none where
  free x hx := by
    obtain ⟨rfl, free⟩ := hx
    exact call_eq_none_iff.1 free
  lists hn := absurd hn (by decide)
  agents hn := absurd hn (by decide)
  orders hn := absurd hn (by decide)
  junctors hn := absurd hn (by decide)
  slots hn := absurd hn (by decide)

namespace Kept

theorem refl (t : Trunk) (s : State) : Kept t s s := ⟨rfl, freeAt_sound t s⟩

theorem of_routine (r : Routine s u) (h : u.Sound 0 (FreeAt t s) none) : Kept t s u := ⟨r.gen t, h⟩

/-- Work that leaves the calls leaves their links and generations. -/
theorem same (h : Kept t s u) (r : Routine u v) (e : v.links = u.links) : Kept t s v :=
  ⟨(r.gen t).trans h.gen, h.free.same e⟩

theorem call (h : Kept t s u) (free : s.call t = none) : u.call t = none := call_eq_none_iff.2 (h.free.free t ⟨rfl, free⟩)

theorem close (h : Kept t s u) {before : State} : Kept t s (u.close before) := h.same (Routine.refl u).close (by simp)

end Kept

/-! ## The characters of the scan link -/

theorem takeCharRun_routine (s : State) (c : ScanChar) (other : ∀ x k, c ≠ .seize x k) : Routine s (s.takeCharRun c) := by
  have r := Routine.refl s
  unfold State.takeCharRun
  split
  · exact absurd rfl (other _ _)
  · exact r.takeLoop
  · exact r.takeHeadset
  · exact r.keySignOn
  · exact r.keyReady
  · exact r.keyNotReady
  · exact r.keySignOff
  · exact r.keyAnswer
  · exact r.keyRelease
  · exact r.keyMoreTime

theorem takeScan_routine (s : State) (r : ScanResult) (other : ∀ x k, r ≠ .char (.seize x k)) : Routine s (s.takeScan r) := by
  have same := Routine.refl s
  unfold State.takeScan
  split
  · exact same
  · split
    · exact same.scanError
    · exact same
  next c =>
    split
    · exact same.event (takeCharRun_routine s c fun x k e => other x k (congrArg _ e))
    · unfold State.takeCharConfig
      split
      · exact same.issue
      · exact same.issue
      · exact same
      · exact same

namespace Kept

theorem takeScan (h : Kept t s u) (r : ScanResult) (other : ∀ x k, r ≠ .char (.seize x k)) : Kept t s (u.takeScan r) :=
  ⟨((takeScan_routine u r other).gen t).trans h.gen, h.free.takeScan r fun x k e => absurd e (other x k)⟩

/-- Bytes that make no character. -/
theorem scanReceiveAll_fit (l : List Byte) (h : Kept t s u) (fit : scanBytesFit u.lsi.scanOpen l = true) :
    Kept t s (u.scanReceiveAll l) := by
  induction l generalizing u with
  | nil => exact h
  | cons b l ih =>
    have opened : Kept t s (u.setScanOpen (scanByte u.lsi.scanOpen b).1) := h.same ((Routine.refl u).same rfl) rfl
    have left : (u.scanReceive b).lsi.scanOpen = (scanByte u.lsi.scanOpen b).1 := by
      simp [State.scanReceive]
    have taken : Kept t s (u.scanReceive b) ∧ scanBytesFit (scanByte u.lsi.scanOpen b).1 l = true := by
      rw [scanBytesFit] at fit
      unfold State.scanReceive
      cases e : scanByte u.lsi.scanOpen b with
      | mk first brought =>
        rw [e] at fit opened
        cases brought with
        | char c => simp at fit
        | more => exact ⟨opened.takeScan _ nofun, fit⟩
        | undecodable => exact ⟨opened.takeScan _ nofun, fit⟩
    obtain ⟨kept, rest⟩ := taken
    exact ih kept (left ▸ rest)

end Kept

theorem scanComplete_pair (a b : Byte) (x : Trunk) (k : Fin 64) : scanComplete [a, b] ≠ .char (.seize x k) := by
  have read : readScan [a, b] ≠ some (.seize x k) := by
    simp only [readScan]
    split_ifs <;> simp [Option.bind_eq_some_iff]
  unfold scanComplete
  split
  next c hc => exact fun e => read (hc.trans (congrArg some (ScanResult.char.inj e)))
  next => exact nofun

/-! ## A seizure -/

theorem matchCall_call_ne (h : u.call t ≠ none) : (u.matchCall t).call t ≠ none := by
  obtain ⟨b, hb⟩ := Option.ne_none_iff_exists'.1 h
  have matched := Claims.matchCall_matched u t
  unfold Claims.Matched at matched
  rw [hb] at matched
  dsimp only at matched
  split at matched
  · rwa [matched]
  · obtain ⟨-, -, call, -⟩ := matched
    rw [State.call, call]
    exact Option.some_ne_none _

@[simp] theorem loopSeized_links (s : State) (t : Trunk) : (s.loopSeized t).links = s.links := rfl

theorem call_ne_of_links (h : u.call t ≠ none) (e : v.links = u.links) : v.call t ≠ none := by
  rwa [ne_eq, call_eq_none_iff, e, ← call_eq_none_iff]

theorem admitSeize_call_ne (s : State) (t : Trunk) (e : ServiceEntry) : (s.admitSeize t e).call t ≠ none := by
  have queued : (Proofs.enqueued s t e).call t ≠ none := by
    simp [Proofs.enqueued, State.insertCall, State.call]
  unfold State.admitSeize
  extract_lets body w
  split
  · exact matchCall_call_ne queued
  next k _ =>
    have joined : (w.joinWaiting t k).call t ≠ none := call_ne_of_links (u := w) queued (by simp)
    exact call_ne_of_links (matchCall_call_ne joined) (by simp)

theorem admitSeize_routine (s : State) (t : Trunk) (e : ServiceEntry) :
    Routine (Proofs.enqueued s t e) (s.admitSeize t e) := by
  have r := Routine.refl (Proofs.enqueued s t e)
  unfold State.admitSeize
  split
  · exact r.matchCall
  · exact (r.joinWaiting.matchCall.startCheck 35).grant

theorem admitSeize_gen (s : State) (x t : Trunk) (e : ServiceEntry) :
    (s.admitSeize x e).cqm.calls[t].gen = if t = x then s.cqm.calls[t].gen + 1 else s.cqm.calls[t].gen := by
  rw [(admitSeize_routine s x e).gen t]
  split
  next h => simp [h, Proofs.enqueued, State.insertCall]
  next h => simp [Proofs.enqueued, State.insertCall, Claims.getElem_set_other _ _ h]

/-- A seizure is admitted, or leaves the calls. -/
theorem takeSeize_cases (s : State) (x : Trunk) (k : Fin 64) :
    (Routine s (s.takeSeize x k) ∧ (s.takeSeize x k).links = s.links) ∨
      (s.call x = none ∧ ∃ e, s.takeSeize x k = (s.admitSeize x e).loopSeized x) := by
  have r := Routine.refl s
  unfold State.takeSeize
  split
  · exact .inl ⟨r.scanError, rfl⟩
  next free =>
    dsimp only
    split
    · exact .inl ⟨r.issue.same rfl, s.issue_links _⟩
    · split
      · exact .inl ⟨r.issue.writeReport.same rfl, by simp⟩
      · exact .inr ⟨free, _, rfl⟩

/-- The command is a seizure of `t` and admits it. -/
def Admits (c : Instr) (t : Trunk) (s u : State) : Prop :=
  (∃ k, c = .seize (byte t.val) k) ∧ s.call t = none ∧ u.call t ≠ none ∧ u.cqm.calls[t].gen = s.cqm.calls[t].gen + 1

theorem byte_of_toNat {n : Nat} {b : Byte} (h : b.toNat < n) : b = byte (⟨b.toNat, h⟩ : Fin n).val := by simp [byte]

theorem seize_kept_or_admits (t : Trunk) (opened : s.lsi.scanOpen = []) (b k : Byte) :
    Kept t s (s.scanReceiveAll [0x10, b, k]) ∨ Admits (.seize b k) t s (s.scanReceiveAll [0x10, b, k]) := by
  have base := Kept.refl t s
  rw [State.scanReceiveAll_three opened rfl]
  by_cases out : 31 < b.toNat ∨ 63 < k.toNat
  · rw [scanComplete_seize_out out]
    exact .inl (base.takeScan _ nofun)
  · obtain ⟨x, rfl⟩ : ∃ x : Trunk, b = byte x.val := ⟨⟨b.toNat, by omega⟩, byte_of_toNat _⟩
    obtain ⟨i, rfl⟩ : ∃ i : Fin 64, k = byte i.val := ⟨⟨k.toNat, by omega⟩, byte_of_toNat _⟩
    rw [scanComplete_seize]
    cases run : s.running with
    | false =>
      rw [takeScan_config run]
      exact .inl (base.same (Routine.refl s).issue (s.issue_links _))
    | true =>
      rw [takeScan_run run]
      change Kept t s ((s.takeSeize x i).close s) ∨ Admits _ t s ((s.takeSeize x i).close s)
      rcases takeSeize_cases s x i with ⟨routine, links⟩ | ⟨free, e, admitted⟩
      · exact .inl (base.same routine links).close
      · rw [admitted]
        by_cases ht : t = x
        · subst ht
          refine .inr ⟨⟨_, rfl⟩, free, ?_, ?_⟩
          · exact call_ne_of_links (admitSeize_call_ne s t e) (by simp)
          · simpa [State.loopSeized] using admitSeize_gen s t t e
        · refine .inl (Kept.close ⟨?_, ?_⟩)
          · simpa [State.loopSeized, ht] using admitSeize_gen s x t e
          · have other : ¬FreeAt t s x := fun h => ht h.1.symm
            exact (base.free.admitSeize free other).same rfl

/-! ## Every command -/

namespace Kept

theorem command (t : Trunk) (s : State) {k : Command} (h : k ≠ .restart) (d : List Byte) : Kept t s (s.command k d) := by
  have r := Routine.refl s
  refine of_routine ?_ ((freeAt_sound t s).command k d)
  cases k with
  | set => exact r.commandSet
  | start => exact r.commandStart
  | restart => exact absurd rfl h
  | select => exact r.commandSelect
  | readNext => exact r.commandReadNext
  | reportNext => exact r.commandReportNext
  | status => exact r.commandStatus

theorem respond (h : Kept t s u) {c : StatusCode} {d : List Byte} : Kept t s (u.respond c d) :=
  h.same (Routine.refl u).respond rfl

/-- A transaction that ends early, or a whole one that names no command, is answered and nothing else. -/
theorem transact (t : Trunk) (s : State) {l : List Byte} (fit : abandonedFits l = true ∨ unknownCodeFits l = true) :
    Kept t s (s.transact l) := by
  have base := refl t s
  have silent : Kept t s (s.setResponse none) := base.same ((Routine.refl s).same rfl) rfl
  unfold State.transact
  split
  · exact silent
  next count arrived =>
    split
    · exact silent
    next whole =>
      split
      · exact base.respond
      next code data taken =>
        split
        · exact base.respond
        next k named =>
          exfalso
          rcases fit with short | unknown
          · exact whole (by simpa [abandonedFits] using short)
          · cases arrived with
            | nil => simp at taken
            | cons first rest =>
              obtain ⟨size, unnamed⟩ : count.toNat = rest.length + 1 ∧ Command.ofCode first = none := by
                simpa [unknownCodeFits] using unknown
              rw [size, List.take_of_length_le (by simp)] at taken
              cases taken
              simp [unnamed] at named

theorem frameReceived (t : Trunk) (s : State) (chars : List Byte) (d e : Bool) : Kept t s (s.frameReceived chars d e) := by
  refine ⟨?_, (freeAt_sound t s).frameReceived chars d e⟩
  have taken (r : RxResult) : ((s.frameEnds e).takeRx r).cqm.calls[t].gen = s.cqm.calls[t].gen := by
    cases r with
    | deliver x p => exact (Routine.refl (s.frameEnds e)).deliver.gen t
    | _ => rfl
  unfold State.frameReceived State.event
  split
  · rw [(Routine.refl _).close.gen t]
    dsimp only
    split
    · rfl
    · exact taken _
  · rfl

theorem attemptLost (t : Trunk) (s : State) : Kept t s s.attemptLost := by
  refine ⟨?_, (freeAt_sound t s).attemptLost⟩
  unfold State.attemptLost
  extract_lets _ u
  split
  · rfl
  next entry _ =>
    extract_lets v w
    have gen : v.cqm.calls[t].gen = s.cqm.calls[t].gen := by
      unfold v
      split <;> rfl
    split
    · exact gen
    · rw [(Routine.refl _).tellDropped.gen t]
      exact ((Routine.refl v).dropTried.gen t).trans gen

end Kept

/-- The rows of the scan link but a seizure, and a seizure of `t`. -/
theorem scanned_kept_or_admits (t : Trunk) (opened : s.lsi.scanOpen = []) {c : Instr} (fit : wellFormed c = true) {l : List Byte}
    (hl : scanned c = some l) : Kept t s (s.scanReceiveAll l) ∨ Admits c t s (s.scanReceiveAll l) := by
  have base := Kept.refl t s
  have pair {a b : Byte} (size : scanLength a = some 2) : Kept t s (s.scanReceiveAll [a, b]) := by
    rw [State.scanReceiveAll_two opened size]
    exact base.takeScan _ (scanComplete_pair a b)
  have key {k : Key} {b : Byte} : Kept t s (s.scanReceiveAll [keyCode k, b]) := pair (scanLength_keyCode k)
  cases c with
  | seize b k =>
    cases hl
    exact seize_kept_or_admits t opened b k
  | scanByteUndecodable bytes =>
    cases hl
    obtain ⟨-, fits⟩ : ¬l = [] ∧ scanBytesFit [] l = true := by simpa [wellFormed] using fit
    exact .inl (base.scanReceiveAll_fit _ (opened ▸ fits))
  | loop r b =>
    cases hl
    exact .inl (pair (scanLength_loopCode r))
  | headset r b =>
    cases hl
    exact .inl (pair (scanLength_headsetCode r))
  | signOnKey | readyKey | notReadyKey | signOffKey | answerKey | releaseKey | moreTimeKey =>
    cases hl
    exact .inl key
  | _ => cases hl

theorem nextOf_kept_or_admits (t : Trunk) (opened : s.lsi.scanOpen = []) {c : Instr} (fit : wellFormed c = true)
    (pin : ∀ x, c ≠ .resetPin x) (restart : ∀ d, c ≠ .restart d) : Kept t s (nextOf c s) ∨ Admits c t s (nextOf c s) := by
  have r := Routine.refl s
  have free := freeAt_sound t s
  refine nextOf_induct (P := fun u => Kept t s u ∨ Admits c t s u) c (.inl (Kept.refl t s)) (fun x e => absurd e (pin x))
    (fun _ plan => .inl (.of_routine (r.tick plan) (free.tick plan)))
    (fun _ order => .inl (.of_routine (r.blockBoundary order) (free.blockBoundary order)))
    (fun l hl => scanned_kept_or_admits t opened fit hl) (.inl ⟨rfl, free.same rfl⟩)
    (fun e => .inl (.of_routine (nextOf_rowOf_routine s e) (free.nextOf_rowOf e)))
    (fun l b => .inl (.of_routine (r.event r.fetchDone) (free.event fun k => k.same (by simp))))
    (fun sign => .inl (.of_routine ?_ (free.busSeen sign)))
    (.inl (Kept.attemptLost t s).close) (fun chars => .inl (Kept.close ⟨by simp, free.attemptDone⟩))
    (fun chars d e => .inl (Kept.frameReceived t s chars d e)) (fun k d e => .inl (Kept.command t s ?_ d))
    fun l e => .inl (Kept.transact t s ?_)
  · split
    · exact r.event r.busSeen
    · exact r.busSeen
  · exact fun named => restart d (e named)
  · rcases e with rfl | rfl
    · exact .inl fit
    · exact .inr fit

end Sys2Proof.Machine

namespace Sys2Proof.Proofs

open Machine

/-- Settles O14: only a seizure admitted takes a record from FREE, and only there the generation rises. -/
theorem generationsRiseAtAdmission : Obligations.GenerationsRiseAtAdmission := by
  intro c s u t fit opened e pin restart
  rw [exec_next] at e
  cases e
  rcases nextOf_kept_or_admits t opened fit pin restart with kept | ⟨row, free, taken, gen⟩
  · have not_admitted : ¬(s.call t = none ∧ (nextOf c s).call t ≠ none) := fun ⟨free, taken⟩ => taken (kept.call free)
    rw [if_neg not_admitted]
    exact kept.gen
  · rw [if_pos ⟨free, taken⟩]
    exact ⟨row, gen⟩

end Sys2Proof.Proofs
end
section
/-! PROOF. How agents, calls and guests name each other and which agents stand in the idle list, as an abstract state of their
bonds alone; what an act on an agent and on the party of an agent does to the bonds keeps the invariants of them. -/

namespace Sys2Proof.Machine

/-- How far an agent has come with the call or guest that it is bound to (R41). -/
inductive Stage where
  | reserved | alerting | talking

/-- The call or guest that a duty binds the agent to, and the stage (TABLE 3-1). -/
def Duty.tie : Duty → Option (Bound × Stage)
  | .reserved g => some (.guest g, .reserved)
  | .alerting b _ => some (b, .alerting)
  | .talking b => some (b, .talking)
  | .notReady | .ready _ | .wrapup _ => none

/-- The agent that a call names, and the stage (TABLE 2-1). -/
def CallPhase.tie : CallPhase → Option (Position × Stage)
  | .alerting p => some (p, .alerting)
  | .talking p _ => some (p, .talking)
  | .queued | .offered _ _ _ | .lentAlerting _ _ _ | .lentTalking _ _ _ => none

/-- The stage in which a guest names its agent (TABLE 11-4). -/
def GuestPhase.stage : GuestPhase → Stage
  | .waitConnect _ => .reserved
  | .alerting => .alerting
  | .talking _ => .talking

/-- What the invariants of the bonds read of a state. -/
structure Bonds where
  duty : Position → Option Duty
  /-- The agent that each call and each guest names. -/
  names : Bound → Option (Position × Stage)
  idleList : List Position

namespace Bonds

open Function (update)

/-- The call or guest that each agent is bound to. -/
def holds (k : Bonds) (p : Position) : Option (Bound × Stage) := (k.duty p).bind Duty.tie

/-- An agent is bound to a call or guest exactly where that names it in the same stage (R41). An agent `e` may stand out: it is
signed on and nothing names it, whatever its duty says. A call or guest `f` may stand out: no agent is bound to it, whatever its
record says. Where `L` holds, the idle list is that of the READY agents, each once (R47). -/
structure Sound (L : Prop) (e : Option Position) (f : Option Bound) (k : Bonds) : Prop where
  agree : ∀ p b st, (k.holds p = some (b, st) ∧ e ≠ some p) ↔ (k.names b = some (p, st) ∧ f ≠ some b)
  present : ∀ p, e = some p → k.duty p ≠ none
  idle : L → k.idleList.Nodup ∧ ∀ p, p ∈ k.idleList ↔ ∃ since, k.duty p = some (.ready since)

section

variable {L : Prop} {e : Option Position} {f : Option Bound} {k : Bonds} {p : Position} {b : Bound} {st : Stage}
  {x : Option Duty} {l : List Position}

/-! ## The idle list -/

/-- A list that holds what the idle list held of the other agents, and `p` where its new duty is READY. -/
def Enrolled (k : Bonds) (p : Position) (x : Option Duty) (l : List Position) : Prop :=
  l.Nodup ∧ ∀ a, a ∈ l ↔ if a = p then ∃ since, x = some (.ready since) else a ∈ k.idleList

/-- An agent that is not READY now leaves the list. -/
theorem Sound.enrolled_erase (h : k.Sound L e f) (hx : ∀ since, x ≠ some (.ready since)) (hL : L) :
    k.Enrolled p x (k.idleList.erase p) := by
  have nodup := (h.idle hL).1
  refine ⟨nodup.erase p, fun a => ?_⟩
  by_cases ha : a = p
  · subst ha; simp [hx, nodup.mem_erase_iff]
  · simp [ha, nodup.mem_erase_iff]

/-- An agent that was not READY and is not READY now is not in the list. -/
theorem Sound.enrolled_stays (h : k.Sound L e f) (hp : ∀ since, k.duty p ≠ some (.ready since))
    (hx : ∀ since, x ≠ some (.ready since)) (hL : L) : k.Enrolled p x k.idleList := by
  have absent : p ∉ k.idleList := fun hm => by
    obtain ⟨since, ready⟩ := ((h.idle hL).2 p).1 hm
    exact hp since ready
  have left := h.enrolled_erase (p := p) hx hL
  rwa [List.erase_of_not_mem absent] at left

/-- An agent that is READY now stands at the tail. -/
theorem Sound.enrolled_joins (h : k.Sound L e f) (since : Stamp) (hL : L) :
    k.Enrolled p (some (.ready since)) (k.idleList.erase p ++ [p]) := by
  have nodup := (h.idle hL).1
  refine ⟨List.nodup_append.2 ⟨nodup.erase p, by simp, fun a ha c hc => ?_⟩, fun a => ?_⟩
  · rw [List.mem_singleton.1 hc]
    exact (nodup.mem_erase_iff.1 ha).1
  · by_cases ha : a = p <;> simp [ha, nodup.mem_erase_iff]

theorem Enrolled.idle (h : k.Enrolled p x l) (hk : ∀ a, a ∈ k.idleList ↔ ∃ since, k.duty a = some (.ready since)) :
    l.Nodup ∧ ∀ a, a ∈ l ↔ ∃ since, update k.duty p x a = some (.ready since) := by
  refine ⟨h.1, fun a => (h.2 a).trans ?_⟩
  by_cases ha : a = p
  · subst ha; simp
  · simp [ha, hk a]

namespace Sound

/-! ## Standing out -/

/-- An agent that is bound to nothing may stand out. -/
theorem but (h : k.Sound L none f) {d : Duty} (hd : k.duty p = some d) (ht : d.tie = none) : k.Sound L (some p) f := by
  have free : k.holds p = none := by simp [holds, hd, ht]
  refine ⟨fun a c st => ?_, fun a ha => ?_, h.idle⟩
  · rw [← h.agree a c st]
    refine and_congr_right fun ha => iff_of_true ?_ (by simp)
    rintro ⟨⟩
    simp [free] at ha
  · cases ha
    simp [hd]

/-- A call or guest that names no agent may stand out. -/
theorem butParty (h : k.Sound L e none) (hb : k.names b = none) : k.Sound L e (some b) := by
  refine ⟨fun a c st => ?_, h.present, h.idle⟩
  rw [h.agree a c st]
  refine and_congr_right fun hc => iff_of_true (by simp) ?_
  rintro ⟨⟩
  simp [hb] at hc

/-- A call or guest that stood out and names no agent stands out no more. -/
theorem rejoin (h : k.Sound L e (some b)) (hb : k.names b = none) : k.Sound L e none := by
  refine ⟨fun a c st => ?_, h.present, h.idle⟩
  rw [h.agree a c st]
  refine and_congr_right fun hc => iff_of_true ?_ (by simp)
  rintro ⟨⟩
  simp [hb] at hc

theorem holds_of_names (h : k.Sound L none none) (hb : k.names b = some (p, st)) : k.holds p = some (b, st) :=
  ((h.agree p b st).2 ⟨hb, nofun⟩).1

theorem names_of_holds (h : k.Sound L none none) (hp : k.holds p = some (b, st)) : k.names b = some (p, st) :=
  ((h.agree p b st).1 ⟨hp, nofun⟩).1

/-- An agent and the call or guest that it is bound to may stand out together. -/
theorem butBoth (h : k.Sound L none none) (hp : k.holds p = some (b, st)) : k.Sound L (some p) (some b) := by
  have hb := h.names_of_holds hp
  refine ⟨fun a c st' => ?_, fun a ha hd => ?_, h.idle⟩
  · have old := h.agree a c st'
    simp only [ne_eq, reduceCtorEq, not_false_eq_true, and_true] at old
    rw [← old]
    refine and_congr_right fun ha => not_congr ?_
    simp only [Option.some.injEq]
    constructor
    · rintro rfl
      exact congrArg Prod.fst (Option.some.inj (hp.symm.trans ha))
    · rintro rfl
      exact congrArg Prod.fst (Option.some.inj (hb.symm.trans (old.1 ha)))
  · cases ha
    simp [holds, hd] at hp

/-! ## Acts -/

/-- The agent that stood out has a duty that binds it to nothing, or has signed off. -/
theorem setDuty (h : k.Sound L (some p) f) (hx : x.bind Duty.tie = none) (hl : L → k.Enrolled p x l) :
    { k with duty := update k.duty p x, idleList := l }.Sound L none f := by
  refine ⟨fun a c st => ?_, nofun, fun hL => (hl hL).idle (h.idle hL).2⟩
  rw [← h.agree a c st]
  by_cases ha : a = p
  · subst ha; simp [holds, hx]
  · simp [holds, ha, Ne.symm ha]

/-- The call or guest that stood out names no agent now. -/
theorem letGo (h : k.Sound L e (some b)) : { k with names := update k.names b none }.Sound L e none := by
  refine ⟨fun a c st => (h.agree a c st).trans ?_, h.present, h.idle⟩
  by_cases hc : c = b
  · subst hc; simp
  · simp [hc, Ne.symm hc]

/-- The agent and the call or guest that stood out are bound to each other. -/
theorem bind (h : k.Sound L (some p) (some b)) {d : Duty} (hd : d.tie = some (b, st)) (hl : L → k.Enrolled p (some d) l) :
    Sound L none none ⟨update k.duty p (some d), update k.names b (some (p, st)), l⟩ := by
  refine ⟨fun a c st' => ?_, nofun, fun hL => (hl hL).idle (h.idle hL).2⟩
  have old := h.agree a c st'
  by_cases ha : a = p
  · subst ha
    by_cases hc : c = b
    · subst hc; simp [holds, hd]
    · have unnamed : ¬k.names c = some (a, st') := fun hn => (old.2 ⟨hn, by simpa using Ne.symm hc⟩).2 rfl
      simp [holds, hd, hc, Ne.symm hc, unnamed]
  · by_cases hc : c = b
    · subst hc
      have unheld : ¬(k.duty a).bind Duty.tie = some (c, st') := fun hh => (old.1 ⟨hh, by simpa using Ne.symm ha⟩).2 rfl
      simp [holds, ha, Ne.symm ha, unheld]
    · simpa [holds, ha, hc, Ne.symm ha, Ne.symm hc] using old

end Sound
end
end Bonds
end Sys2Proof.Machine
end

section
/-! PROOF. The bonds of a state, what the setters and shared operations do to them, and the operations that leave them. -/

namespace Sys2Proof.Machine

open Function (update)

/-- The agent that a call or guest names. -/
def State.named (s : State) : Bound → Option (Position × Stage)
  | .call t => (s.links.standing t).bind fun y => y.2.tie
  | .guest g => s.ofu.guests[g].map fun r => (r.agent, r.phase.stage)

/-- The bonds of a state. -/
def State.bonds (s : State) : Bonds := ⟨s.duty, s.named, s.dsu.idleList⟩

namespace State

variable {s u : State}

theorem named_call {t : Trunk} {b : CallBody} (h : s.call t = some b) : s.bonds.names (.call t) = b.phase.tie := by
  simp [bonds, named, standing_of_call h]

theorem named_free {t : Trunk} (h : s.call t = none) : s.bonds.names (.call t) = none := by
  simp [bonds, named, standing_of_free h]

theorem named_guest {g : GuestNo} {r : GuestRec} (h : s.ofu.guests[g] = some r) :
    s.bonds.names (.guest g) = some (r.agent, r.phase.stage) := by
  simp [bonds, named, h]

theorem named_no_guest {g : GuestNo} (h : s.ofu.guests[g] = none) : s.bonds.names (.guest g) = none := by
  simp [bonds, named, h]

theorem holds_of_duty {p : Position} {d : Duty} (h : s.duty p = some d) : s.bonds.holds p = d.tie := by
  simp [Bonds.holds, bonds, h]

/-- The bonds are seen in the standing of the calls, in the agents and the idle list, and in the guests. -/
theorem bonds_congr (hl : u.links = s.links) (hd : u.dsu = s.dsu) (hg : u.ofu.guests = s.ofu.guests) : u.bonds = s.bonds := by
  have named : u.named = s.named := by
    funext b
    cases b <;> simp only [State.named, hl, hg]
  have duty : u.duty = s.duty := by
    funext p
    simp only [State.duty, hd]
  simp only [bonds, named, duty, hd]

/-! ## The setters -/

theorem setAgent_bonds (s : State) (p : Position) (a : AgentRec) :
    (s.setAgent p a).bonds = { s.bonds with duty := update s.bonds.duty p (a.post.map (·.duty)) } := by
  have duty : (s.setAgent p a).duty = update s.duty p (a.post.map (·.duty)) := by
    funext i
    by_cases h : i = p
    · subst h; simp [State.duty]
    · simp [State.duty, h, Claims.getElem_set_other _ _ h]
  simp only [bonds, duty]
  rfl

/-- An agent's record with the same duty. -/
theorem setAgent_bonds_same {p : Position} {a : AgentRec} (h : a.post.map (·.duty) = s.duty p) :
    (s.setAgent p a).bonds = s.bonds := by
  have same : a.post.map (·.duty) = s.bonds.duty p := h
  rw [setAgent_bonds, same, Function.update_eq_self]

theorem setDuty_bonds {p : Position} {d : Duty} (h : s.duty p ≠ none) :
    (s.setDuty p d).bonds = { s.bonds with duty := update s.bonds.duty p (some d) } := by
  obtain ⟨c, hc⟩ := Option.ne_none_iff_exists'.1 h
  obtain ⟨post, hp, -⟩ := Option.map_eq_some_iff.1 hc
  rw [setDuty, setAgent_bonds, hp]
  rfl

theorem setGuest_bonds (s : State) (g : GuestNo) (x : Option GuestRec) :
    (s.setGuest g x).bonds =
      { s.bonds with names := update s.bonds.names (.guest g) (x.map fun r => (r.agent, r.phase.stage)) } := by
  have named : (s.setGuest g x).named = update s.named (.guest g) (x.map fun r => (r.agent, r.phase.stage)) := by
    funext b
    cases b with
    | call t => simp [State.named]
    | guest i =>
      by_cases h : i = g
      · subst h; simp [State.named]
      · simp [State.named, h, Claims.getElem_set_other _ _ h]
  simp only [bonds, named]
  rfl

/-- One call has another standing, and agents and guests stay. -/
theorem bonds_of_standing {t : Trunk} {x : Standing} (hs : u.links.standing = update s.links.standing t x)
    (hd : u.dsu = s.dsu) (hg : u.ofu.guests = s.ofu.guests) :
    u.bonds = { s.bonds with names := update s.bonds.names (.call t) (x.bind fun y => y.2.tie) } := by
  have named : u.named = update s.named (.call t) (x.bind fun y => y.2.tie) := by
    funext b
    cases b with
    | guest g => simp [State.named, hg]
    | call i =>
      by_cases h : i = t
      · subst h; simp [State.named, hs]
      · simp [State.named, hs, h]
  have duty : u.duty = s.duty := by
    funext p
    simp only [State.duty, hd]
  simp only [bonds, named, duty, hd]

/-- A call that names no agent gets a standing in which it names none. -/
theorem bonds_of_unnamed {t : Trunk} {x : Standing} (hs : u.links.standing = update s.links.standing t x)
    (hx : x.bind (fun y => y.2.tie) = s.bonds.names (.call t)) (hd : u.dsu = s.dsu) (hg : u.ofu.guests = s.ofu.guests) :
    u.bonds = s.bonds := by
  rw [bonds_of_standing hs hd hg, hx, Function.update_eq_self]

/-! ## The operations that leave the bonds -/

section

variable (s)

@[simp] theorem issue_bonds (o : Order) : (s.issue o).bonds = s.bonds := bonds_congr (by simp) (by simp) (by simp)

@[simp] theorem writeReport_bonds (r : Report) : (s.writeReport r).bonds = s.bonds := bonds_congr (by simp) (by simp) (by simp)

@[simp] theorem give_bonds (x : Station) (c : Payload) : (s.give x c).bonds = s.bonds := bonds_congr (by simp) (by simp) (by simp)

@[simp] theorem requestNotice_bonds : s.requestNotice.bonds = s.bonds := bonds_congr (by simp) (by simp) (by simp)

@[simp] theorem reportAgent_bonds (before : State) (p : Position) (c : AgentCause) :
    (s.reportAgent before p c).bonds = s.bonds :=
  bonds_congr (by simp) (by simp) (by simp)

@[simp] theorem close_bonds (before : State) : (s.close before).bonds = s.bonds :=
  bonds_congr (by simp) (by simp) (by simp)

@[simp] theorem setPendingAction_bonds (p : Position) (a : PendingAction) : (s.setPendingAction p a).bonds = s.bonds :=
  setAgent_bonds_same rfl

@[simp] theorem sample_bonds (q : QueueNo) (n : Nat) : (s.sample q n).bonds = s.bonds := rfl

@[simp] theorem joinWaiting_bonds (t : Trunk) (c : Clip) : (s.joinWaiting t c).bonds = s.bonds :=
  bonds_congr (by simp) (by simp) (by simp)

@[simp] theorem startCheck_bonds (n : Nat) : (s.startCheck n).bonds = s.bonds := bonds_congr (by simp) (by simp) (by simp)

@[simp] theorem grant_bonds : s.grant.bonds = s.bonds := bonds_congr (by simp) (by simp) (by simp)

@[simp] theorem boundaryWork_bonds (c : Channel) : (s.boundaryWork c).bonds = s.bonds :=
  bonds_congr (by simp) (by simp) (by simp)

@[simp] theorem fetchDone_bonds (l : List Byte) (fault : Bool) : (s.fetchDone l fault).bonds = s.bonds :=
  bonds_congr (by simp) (by simp) (by simp)

end

/-! ## The calls -/

@[simp] theorem freeOverflow_guests (s : State) (p : CallPhase) : (s.freeOverflow p).ofu.guests = s.ofu.guests := by
  cases p <;> simp [freeOverflow]

theorem endCall_guests (s : State) (t : Trunk) : (s.endCall t).ofu.guests = s.ofu.guests := by
  unfold endCall
  split <;> simp [clearTrunk]

/-- An ended call names no agent. -/
theorem endCall_bonds (s : State) (t : Trunk) :
    (s.endCall t).bonds = { s.bonds with names := update s.bonds.names (.call t) none } := by
  cases hc : s.call t with
  | none =>
    have same : s.endCall t = s := by simp only [endCall, hc]
    rw [same, ← named_free hc, Function.update_eq_self]
  | some b =>
    refine bonds_of_standing (x := none) ?_ (by simp) (s.endCall_guests t)
    rw [Sound.endCall_links hc]
    simp [Links.place]

/-- A record that is written as QUEUED, what it held of the overflow freed. -/
theorem released_bonds {t : Trunk} {b : CallBody} (hc : s.call t = some b) {f : CallBody → CallBody}
    (hf : ∀ b, (f b).queue = b.queue ∧ (f b).phase = .queued) :
    ((s.freeOverflow b.phase).modifyCall t f).bonds = { s.bonds with names := update s.bonds.names (.call t) none } := by
  refine bonds_of_standing (x := some (b.queue, .queued)) ?_ (by simp) (by simp)
  rw [Sound.released_links hc hf]
  simp [Links.place]

theorem insertCall_bonds (s : State) (q : QueueNo) (t : Trunk) : (s.insertCall q t).bonds = s.bonds := rfl

/-- What a rung agent changes of the bonds. -/
theorem ringAgent_bonds {p : Position} (b : Bound) (hp : s.duty p ≠ none) :
    (s.ringAgent p b).bonds = { s.bonds with
      duty := update s.bonds.duty p (some (.alerting b (deadline s.now s.items.ringLimit)))
      idleList := s.bonds.idleList.erase p } := by
  rw [ringAgent, issue_bonds, setDuty_bonds (s := s.leaveIdle p) hp]
  rfl

/-- What an agent rung for a call changes of the bonds. -/
theorem ringForCall_bonds {p : Position} {t : Trunk} {b : CallBody} (hc : s.call t = some b) (hp : s.duty p ≠ none) :
    (s.ringForCall p t).bonds =
      ⟨update s.bonds.duty p (some (.alerting (.call t) (deadline s.now s.items.ringLimit))),
        update s.bonds.names (.call t) (some (p, .alerting)), s.bonds.idleList.erase p⟩ := by
  have placed : (s.ringForCall p t).bonds = { (s.ringAgent p (.call t)).bonds with
      names := update (s.ringAgent p (.call t)).bonds.names (.call t) (some (p, .alerting)) } := by
    rw [Claims.ringForCall_eq hc]
    refine bonds_of_standing (x := some (b.queue, .alerting p)) ?_ (by simp) (by simp)
    have same : (s.ringAgent p (.call t)).links.standing t = some (b.queue, b.phase) :=
      standing_of_call (by simpa [State.call] using hc)
    simp only [sourceToMusic_links, removeEntry_links, setPhase_links, removeCall_links, Links.place, same, Option.map_some]
  rw [placed, ringAgent_bonds _ hp]

end State

end Sys2Proof.Machine
end

section
/-! PROOF. Every operation of the calls, the agents and the guests keeps the invariants of the bonds: each is put together from
the acts of `Bonds.Sound`. -/

namespace Sys2Proof.Machine

open Function (update)

/-- The bonds of the state have the invariants. -/
def State.Bonded (s : State) (L : Prop) (e : Option Position) (f : Option Bound) : Prop := s.bonds.Sound L e f

namespace State.Bonded

variable {L : Prop} {e : Option Position} {f : Option Bound} {u v : State} {t : Trunk} {p : Position} {g : GuestNo}

theorem same (h : u.Bonded L e f) (k : v.bonds = u.bonds) : v.Bonded L e f := by
  rwa [State.Bonded, k]

theorem issue (h : u.Bonded L e f) {o : Order} : (u.issue o).Bonded L e f := h.same (by simp)

theorem writeReport (h : u.Bonded L e f) {r : Report} : (u.writeReport r).Bonded L e f := h.same (by simp)

theorem give (h : u.Bonded L e f) {x : Station} {c : Payload} : (u.give x c).Bonded L e f := h.same (by simp)

theorem requestNotice (h : u.Bonded L e f) : u.requestNotice.Bonded L e f := h.same (by simp)

theorem reportAgent (h : u.Bonded L e f) {before : State} {c : AgentCause} : (u.reportAgent before p c).Bonded L e f :=
  h.same (by simp)

theorem setPendingAction (h : u.Bonded L e f) {a : PendingAction} : (u.setPendingAction p a).Bonded L e f := h.same (by simp)

theorem event (h : u.Bonded L e f) {w : State → State} (hw : u.Bonded L e f → (w u).Bonded L e f) :
    (u.event w).Bonded L e f :=
  (hw h).same (by simp [State.event])

theorem foldl {α : Type} {w : State → α → State} (l : List α) (h : u.Bonded L e f)
    (hw : ∀ v a, v.Bonded L e f → (w v a).Bonded L e f) : (l.foldl w u).Bonded L e f :=
  List.foldlRecOn (motive := fun v : State => v.Bonded L e f) l w h fun v hv a _ => hw v a hv

/-! ## Agents -/

/-- An agent that its duty binds to nothing may stand out. -/
theorem but (h : u.Bonded L none f) {d : Duty} (hd : u.duty p = some d) (ht : d.tie = none) : u.Bonded L (some p) f :=
  Bonds.Sound.but h hd ht

/-- The agent that stood out, and was not READY, has a duty that binds it to nothing. -/
theorem setDuty (h : u.Bonded L (some p) f) {d : Duty} (hd : d.tie = none) (hr : ∀ since, d ≠ .ready since)
    (hp : ∀ since, u.duty p ≠ some (.ready since)) : (u.setDuty p d).Bonded L none f := by
  rw [State.Bonded, State.setDuty_bonds (h.present p rfl)]
  exact Bonds.Sound.setDuty h hd (h.enrolled_stays hp (by simpa using hr))

theorem toNotReady (h : u.Bonded L (some p) f) : (u.toNotReady p).Bonded L none f := by
  rw [State.Bonded, State.toNotReady, State.setPendingAction_bonds, State.setDuty_bonds (s := u.leaveIdle p) (h.present p rfl)]
  exact Bonds.Sound.setDuty (k := u.bonds) h rfl (h.enrolled_erase (by simp))

theorem toSignedOff (h : u.Bonded L (some p) f) : (u.toSignedOff p).Bonded L none f := by
  rw [State.Bonded, State.toSignedOff, State.setAgent_bonds]
  exact Bonds.Sound.setDuty (k := u.bonds) h rfl (h.enrolled_erase (by simp))

theorem outOfService (h : u.Bonded L (some p) f) : (u.outOfService p).Bonded L none f := by
  unfold State.outOfService
  split
  · exact h.toSignedOff
  · exact h.toNotReady

/-- An agent that is bound is not READY. -/
theorem not_ready_of_holds {x : Bound × Stage} (h : u.bonds.holds p = some x) (since : Stamp) :
    u.duty p ≠ some (.ready since) := fun hd => by
  simp [State.holds_of_duty hd, Duty.tie] at h

/-! ## The match attempt and the walk -/

/-- The agent that stood out is rung for a call that named none. -/
theorem ringForCall (h : u.Bonded L (some p) none) {b : CallBody} (hc : u.call t = some b) (hb : b.phase.tie = none) :
    (u.ringForCall p t).Bonded L none none := by
  rw [State.Bonded, State.ringForCall_bonds hc (h.present p rfl)]
  exact (Bonds.Sound.butParty h ((State.named_call hc).trans hb)).bind rfl (h.enrolled_erase (by simp))

/-- The agents of the idle set are READY (R46). -/
theorem ready_of_idle {q : QueueNo} (h : u.idle q p = true) : ∃ since, u.duty p = some (.ready since) := by
  obtain ⟨kind, -⟩ : u.dsu.agents[p].kind = .ready ∧ _ := by simpa [State.idle] using h
  unfold AgentRec.kind at kind
  split at kind
  next => cases kind
  next post hp =>
    cases hd : post.duty <;> rw [hd] at kind <;> cases kind
    exact ⟨_, (congrArg (Option.map Post.duty) hp).trans (congrArg some hd)⟩

/-- The choice of an agent leaves the bonds and the calls; the agent is READY and may stand out. -/
theorem chooseAgent (h : u.Bonded L none f) {q : QueueNo} (hv : u.chooseAgent q = some (p, v)) :
    v.Bonded L (some p) f ∧ v.bonds = u.bonds ∧ v.call = u.call := by
  obtain ⟨idle, hv⟩ := State.chooseAgent_cases u hv
  obtain ⟨since, ready⟩ := ready_of_idle idle
  rcases hv with rfl | rfl
  · exact ⟨h.but ready rfl, rfl, rfl⟩
  · exact ⟨(h.but ready rfl).same rfl, rfl, rfl⟩

theorem matchCall (h : u.Bonded L none none) (ht : u.bonds.names (.call t) = none) : (u.matchCall t).Bonded L none none := by
  unfold State.matchCall
  split
  · exact h
  next b hc =>
    split
    · exact h
    next p v hv =>
      obtain ⟨sound, -, calls⟩ := h.chooseAgent hv
      exact sound.ringForCall (by rw [calls, hc]) ((State.named_call hc).symm.trans ht)

theorem becomeReady (h : u.Bonded L (some p) none) : (u.becomeReady p).Bonded L none none := by
  have waits : (u.setPendingAction p .none).Bonded L (some p) none := h.setPendingAction
  cases hw : u.profileWalk p with
  | none =>
    rw [Claims.becomeReady_of_none hw]
    have ready : (((u.setPendingAction p .none).setDuty p (.ready u.now)).setIdleList (u.dsu.idleList.erase p ++ [p])).bonds =
        { u.bonds with
          duty := update u.bonds.duty p (some (.ready u.now))
          idleList := u.bonds.idleList.erase p ++ [p] } := by
      have duty := State.setDuty_bonds (d := .ready u.now) (waits.present p rfl)
      rw [State.setPendingAction_bonds] at duty
      exact congrArg (fun k : Bonds => { k with idleList := u.dsu.idleList.erase p ++ [p] }) duty
    rw [State.Bonded, ready]
    exact Bonds.Sound.setDuty h rfl (h.enrolled_joins u.now)
  | some t =>
    rw [Claims.becomeReady_of_call hw]
    obtain ⟨b, hc⟩ := Claims.call_of_profileWalk hw
    obtain ⟨q, hq⟩ := Sound.standing_of_profileWalk hw
    have queued : b.phase = .queued := by
      rw [State.standing_of_call hc] at hq
      exact congrArg Prod.snd (Option.some.inj hq)
    exact waits.ringForCall (b := b) hc (by rw [queued]; rfl)

theorem takePending (h : u.Bonded L (some p) none) : (u.takePending p).Bonded L none none := by
  unfold State.takePending
  split
  · exact h.toNotReady
  · exact h.toSignedOff
  all_goals exact h.becomeReady

theorem endWrap (h : u.Bonded L (some p) none) {w : WrapFields} {b : EndedBy} {d : Destination} :
    (u.endWrap p w b d).Bonded L none none := by
  have k : ((u.writeReport (.wrapEnd p w.queue (elapsed w.start u.now) b)).sample w.queue
      (clamp16 (w.talk + elapsed w.start u.now))).Bonded L (some p) none := h.same (by simp)
  cases d
  · exact k.becomeReady
  · exact k.toNotReady
  · exact k.toSignedOff

theorem duty_setDuty {d : Duty} (h : u.duty p ≠ none) : (u.setDuty p d).duty p = some d := by
  have written := congrArg (fun k : Bonds => k.duty p) (State.setDuty_bonds (d := d) h)
  exact written.trans (Function.update_self ..)

theorem openWrap (h : u.Bonded L (some p) none) (hp : ∀ since, u.duty p ≠ some (.ready since)) {q : QueueNo} {m : Nat} :
    (u.openWrap p q m).Bonded L none none := by
  unfold State.openWrap
  extract_lets w x
  have wrapping : x.Bonded L none none := h.setDuty rfl nofun hp
  split
  · exact (wrapping.but (duty_setDuty (h.present p rfl)) rfl).endWrap
  · exact wrapping

/-! ## The ends and the returns of calls -/

/-- A call that names no agent may stand out. -/
theorem butCall (h : u.Bonded L e none) (ht : u.bonds.names (.call t) = none) : u.Bonded L e (some (.call t)) :=
  Bonds.Sound.butParty h ht

theorem endCall (h : u.Bonded L e (some (.call t))) : (u.endCall t).Bonded L e none := by
  rw [State.Bonded, State.endCall_bonds]
  exact Bonds.Sound.letGo h

theorem endCall_unnamed (h : u.Bonded L e none) (ht : u.bonds.names (.call t) = none) : (u.endCall t).Bonded L e none :=
  (h.butCall ht).endCall

theorem failOffer (h : u.Bonded L none none) : (u.failOffer t).Bonded L none none := by
  by_cases offered : ∃ b, u.call t = some b ∧ ∃ o x j, b.phase = .offered o x j
  · obtain ⟨b, hc, o, x, j, hp⟩ := offered
    have unnamed : u.bonds.names (.call t) = none := (State.named_call hc).trans (by rw [hp]; rfl)
    have queued : ((u.freeOverflow b.phase).setPhase t .queued).bonds = _ := State.released_bonds hc fun _ => ⟨rfl, rfl⟩
    rw [Sound.failOffer_of_offered hc hp]
    refine matchCall ?_ (by rw [queued]; simp)
    rw [State.Bonded, queued]
    exact (h.butCall unnamed).letGo
  · unfold State.failOffer
    split
    next o x j _ _ _ _ _ _ _ _ hc => exact absurd ⟨_, hc, o, x, j, rfl⟩ offered
    next => exact h

/-- The record returns to its list, and is matched. -/
theorem requeue {b : CallBody} (h : u.Bonded L none (some (.call t))) (hc : u.call t = some b) {w : CallBody → CallBody}
    (hw : ∀ b, (w b).queue = b.queue ∧ (w b).phase = .queued) :
    (((u.freeOverflow b.phase).modifyCall t w).requeue b.queue t).Bonded L none none := by
  have placed : (((((u.freeOverflow b.phase).modifyCall t w).insertCall b.queue t).removeEntry t).sourceToMusic t).bonds =
      { u.bonds with names := update u.bonds.names (.call t) none } := by
    rw [← State.released_bonds hc hw]
    refine Eq.trans ?_ (State.insertCall_bonds _ b.queue t)
    exact State.bonds_congr (by simp) (by simp) (by simp)
  refine matchCall ?_ (by rw [placed]; simp)
  rw [State.Bonded, placed]
  exact Bonds.Sound.letGo h

/-- A call that no agent talks on returns (R28 to R31), where the agent that it may name is not bound to it any more. -/
theorem returnCall (h : u.Bonded L none (some (.call t))) (ht : ∀ p, u.bonds.names (.call t) ≠ some (p, .talking)) :
    (u.returnCall t).Bonded L none none := by
  unfold State.returnCall
  split
  next hc => exact Bonds.Sound.rejoin h (State.named_free hc)
  next b hc =>
    have unnamed (hb : b.phase.tie = none) : u.Bonded L none none := Bonds.Sound.rejoin h ((State.named_call hc).trans hb)
    split
    case h_1 | h_2 => exact h.requeue hc fun _ => ⟨rfl, rfl⟩
    case h_3 => exact h.requeue hc fun _ => ⟨rfl, rfl⟩
    case h_4 hp => exact unnamed (by rw [hp]; rfl)
    case h_5 hp => exact unnamed (by rw [hp]; rfl)
    case h_6 p _ hp => exact absurd ((State.named_call hc).trans (by rw [hp]; rfl)) (ht p)

theorem returnCall_unnamed (h : u.Bonded L none none) (ht : u.bonds.names (.call t) = none) :
    (u.returnCall t).Bonded L none none :=
  (h.butCall ht).returnCall (by simp [ht])

/-- The call that names an agent ends, and the agent stands out. -/
theorem endCall_named (h : u.Bonded L none none) {st : Stage} (ht : u.bonds.names (.call t) = some (p, st)) :
    (u.endCall t).Bonded L (some p) none :=
  endCall (h.butBoth (h.holds_of_names ht))

theorem callerRelease (h : u.Bonded L none none) {before : State} : (u.callerRelease before t).Bonded L none none := by
  unfold State.callerRelease
  split
  · exact h
  next b hc =>
    have named := State.named_call hc
    have given (x : Station) (c : Payload) (hp : b.phase.tie = none) : ((u.give x c).endCall t).Bonded L none none :=
      h.give.endCall_unnamed (by rw [State.give_bonds, named, hp])
    simp only
    split
    case h_1 hp => exact h.endCall_unnamed (by rw [named, hp]; rfl)
    case h_2 hp => exact given _ _ (by rw [hp]; rfl)
    case h_3 p hp =>
      have alerting : (u.issue (.stopRing p)).bonds.names (.call t) = some (p, .alerting) := by
        rw [State.issue_bonds, named, hp]; rfl
      exact (h.issue.endCall_named alerting).takePending.reportAgent
    case h_4 p a hp =>
      have talking : u.bonds.names (.call t) = some (p, .talking) := by rw [named, hp]; rfl
      have bound := h.holds_of_names talking
      refine ((h.endCall_named talking).openWrap (not_ready_of_holds (x := (.call t, .talking)) ?_)).reportAgent
      rw [State.endCall_bonds]
      exact bound
    case h_5 hp => exact given _ _ (by rw [hp]; rfl)
    case h_6 hp => exact given _ _ (by rw [hp]; rfl)

/-! ## Guests and the loss of a peer -/

/-- A guest record that named the agent that stood out, or none, is freed. -/
theorem setGuest_none (h : u.Bonded L e (some (.guest g))) : (u.setGuest g none).Bonded L e none := by
  rw [State.Bonded, State.setGuest_bonds]
  exact Bonds.Sound.letGo h

theorem freeGuest (h : u.Bonded L none none) : (u.freeGuest g).Bonded L none none := by
  unfold State.freeGuest
  split
  · exact h
  next r hr =>
    have freed : (u.setGuest g none).Bonded L (some r.agent) none :=
      setGuest_none (h.butBoth (h.holds_of_names (State.named_guest hr)))
    simp only
    split
    next bound hd =>
      have talks (since : Stamp) : (u.setGuest g none).duty r.agent ≠ some (.ready since) := fun ready => by
        cases hd.symm.trans ready
      split
      · exact freed.openWrap talks
      · exact freed.openWrap talks
    · exact freed.issue.takePending
    · exact freed.takePending

theorem releaseGuest (h : u.Bonded L none none) {before : State} : (u.releaseGuest before g).Bonded L none none := by
  unfold State.releaseGuest
  split
  · exact h
  · exact h.freeGuest.reportAgent

theorem named_of_agent (h : (u.links.standing t).agent = none) : u.bonds.names (.call t) = none := by
  cases hc : u.call t with
  | none => exact State.named_free hc
  | some b =>
    rw [State.standing_of_call hc] at h
    rw [State.named_call hc]
    cases hp : b.phase <;> simp_all [CallPhase.agent, CallPhase.tie]

theorem settleCall (h : u.Bonded L none none) (ht : (u.links.standing t).agent = none) :
    (u.settleCall t).Bonded L none none := by
  unfold State.settleCall
  split
  · exact h.failOffer
  · exact h.returnCall_unnamed (named_of_agent ht)

theorem settleCalls (l : List Trunk) (h : u.Bonded L none none) (hl : l.Nodup)
    (ha : ∀ t ∈ l, (u.links.standing t).agent = none) : (l.foldl (fun v t => v.settleCall t) u).Bonded L none none := by
  induction l generalizing u with
  | nil => exact h
  | cons t l ih =>
    obtain ⟨fresh, nodup⟩ := List.nodup_cons.1 hl
    refine ih (h.settleCall (ha t List.mem_cons_self)) nodup fun r hr => ?_
    rw [Sound.settleCall_standing fun e : r = t => fresh (e ▸ hr)]
    exact ha r (List.mem_cons_of_mem _ hr)

theorem losePeer (h : u.Bonded L none none) {before : State} {x : Station} : (u.losePeer before x).Bonded L none none :=
  (h.settleCalls _ ((List.nodup_finRange 32).filter _) fun _ ht =>
    Sound.agent_of_callNames (List.mem_filter.1 ht).2).foldl _ fun _ _ k => k.releaseGuest

/-! ## Keys and headset loss -/

theorem refuseKey (h : u.Bonded L e f) : (u.refuseKey p).Bonded L e f := h.issue

/-- An agent who was SIGNED_OFF has a duty that binds it to nothing. -/
theorem signOn (h : u.Bonded L none none) {a : AgentRec} (hp : u.duty p = none) (ha : a.post.map (·.duty) = some .notReady) :
    (u.setAgent p a).Bonded L none none := by
  rw [State.Bonded, State.setAgent_bonds, ha]
  refine ⟨fun q b st => ?_, nofun, fun hL => ?_⟩
  · rw [← h.agree q b st]
    have off : u.bonds.duty p = none := hp
    by_cases hq : q = p
    · subst hq; simp [Bonds.holds, off, Duty.tie]
    · simp [Bonds.holds, hq]
  · exact (h.enrolled_stays (x := some .notReady) (by simp [State.bonds, hp]) (by simp) hL).idle (h.idle hL).2

theorem keySignOn (h : u.Bonded L none none) {c : ProfileNo} : (u.keySignOn p c).Bonded L none none := by
  unfold State.keySignOn
  simp only
  split
  · exact h.refuseKey
  next off =>
    split
    · exact (h.signOn (by simp only [State.duty, off]; rfl) rfl).reportAgent
    · exact h.refuseKey

theorem keyReady (h : u.Bonded L none none) : (u.keyReady p).Bonded L none none := by
  unfold State.keyReady
  simp only
  split
  next hd =>
    split
    · exact (h.but hd rfl).becomeReady.reportAgent
    · exact h.refuseKey
  next hd =>
    split
    · exact h.refuseKey
    · split
      · exact (h.but hd rfl).endWrap.reportAgent
      · exact h.setPendingAction
  all_goals exact h.refuseKey

theorem keyNotReady (h : u.Bonded L none none) : (u.keyNotReady p).Bonded L none none := by
  unfold State.keyNotReady
  split
  next hd => exact (h.but hd rfl).toNotReady.reportAgent
  · exact h.setPendingAction
  · exact h.setPendingAction
  · exact h.setPendingAction
  next hd => exact (h.but hd rfl).endWrap.reportAgent
  all_goals exact h.refuseKey

theorem keySignOff (h : u.Bonded L none none) : (u.keySignOff p).Bonded L none none := by
  unfold State.keySignOff
  split
  next hd => exact (h.but hd rfl).toSignedOff.reportAgent
  next hd => exact (h.but hd rfl).toSignedOff.reportAgent
  · exact h.setPendingAction
  · exact h.setPendingAction
  · exact h.setPendingAction
  · exact h.setPendingAction
  · exact h.refuseKey

/-- An agent that is rung, and the call or guest that it is rung for, go to TALKING. -/
theorem answered (h : u.Bonded L none none) {b : Bound} {d : Stamp} (hd : u.duty p = some (.alerting b d))
    (hv : v.bonds = { (u.setDuty p (.talking b)).bonds with
      names := update (u.setDuty p (.talking b)).bonds.names b (some (p, .talking)) }) : v.Bonded L none none := by
  have both := Bonds.Sound.butBoth h (State.holds_of_duty hd)
  rw [State.Bonded, hv, State.setDuty_bonds (by simp [hd])]
  exact both.bind rfl (h.enrolled_stays (by simp [State.bonds, hd]) (by simp))

theorem answerCall (h : u.Bonded L none none) {d : Stamp} (hd : u.duty p = some (.alerting (.call t) d)) :
    ((u.setDuty p (.talking (.call t))).setPhase t (.talking p u.now)).Bonded L none none := by
  refine h.answered hd ?_
  have named : u.bonds.names (.call t) = some (p, .alerting) := h.names_of_holds (State.holds_of_duty hd)
  cases hc : u.call t with
  | none => simp [State.named_free hc] at named
  | some b =>
    refine State.bonds_of_standing (x := some (b.queue, .talking p u.now)) ?_ (by simp) (by simp)
    rw [State.setPhase_links, State.standing_of_call (s := u.setDuty p (.talking (.call t))) (b := b) hc]
    rfl

theorem answerGuest (h : u.Bonded L none none) {d : Stamp} (hd : u.duty p = some (.alerting (.guest g) d)) :
    ((u.setDuty p (.talking (.guest g))).answerGuest g).Bonded L none none := by
  have named : u.bonds.names (.guest g) = some (p, .alerting) := h.names_of_holds (State.holds_of_duty hd)
  cases hr : u.ofu.guests[g] with
  | none => simp [State.named_no_guest hr] at named
  | some r =>
    have own : r.agent = p := by
      rw [State.named_guest hr] at named
      exact congrArg Prod.fst (Option.some.inj named)
    have same : (u.setDuty p (.talking (.guest g))).ofu.guests[g] = some r := hr
    refine h.answered hd ?_
    simp only [State.answerGuest, same, State.give_bonds, State.setGuest_bonds, Option.map_some, own, GuestPhase.stage]

theorem keyAnswer (h : u.Bonded L none none) : (u.keyAnswer p).Bonded L none none := by
  unfold State.keyAnswer
  split
  next hd => exact (h.answerCall hd).same (State.bonds_congr (by simp) (by simp) (by simp))
  next hd => exact h.answerGuest hd
  all_goals exact h.refuseKey

theorem keyRelease (h : u.Bonded L none none) : (u.keyRelease p).Bonded L none none := by
  unfold State.keyRelease
  split
  next t hd =>
    unfold State.releaseCall
    split
    · exact h
    · have bound := State.holds_of_duty hd
      refine ((endCall_named h (h.names_of_holds bound)).openWrap (not_ready_of_holds (x := (.call t, .talking)) ?_)).reportAgent
      rw [State.endCall_bonds]
      exact bound
  next =>
    unfold State.releaseByAgent
    split
    · exact h
    · exact h.give.freeGuest.reportAgent
  all_goals exact h.refuseKey

theorem keyMoreTime (h : u.Bonded L none none) : (u.keyMoreTime p).Bonded L none none := by
  unfold State.keyMoreTime
  split
  next hd =>
    split
    · exact ((h.but hd rfl).setDuty rfl (by simp) (by simp [hd])).setPendingAction
    · exact h.refuseKey
  all_goals exact h.refuseKey

/-- A guest whose agent is not bound to it any more bounces. -/
theorem bounceGuest (h : u.Bonded L none (some (.guest g))) {c : BounceCause} : (u.bounceGuest g c).Bonded L none none := by
  unfold State.bounceGuest
  split
  next hr => exact Bonds.Sound.rejoin h (State.named_no_guest hr)
  next => exact h.give.setGuest_none

theorem outOfService_named {b : Bound} (h : u.duty p ≠ none) : (u.outOfService p).bonds.names b = u.bonds.names b := by
  have off : (u.toSignedOff p).bonds.names b = u.bonds.names b := by
    rw [State.toSignedOff, State.setAgent_bonds]
    rfl
  have stands : (u.toNotReady p).bonds.names b = u.bonds.names b := by
    rw [State.toNotReady, State.setPendingAction_bonds, State.setDuty_bonds (s := u.leaveIdle p) h]
    rfl
  unfold State.outOfService
  split
  · exact off
  · exact stands

theorem giveUp (h : u.Bonded L none none) {before : State} {bound : Bound} {d : Stamp} {c : AgentCause} {b : BounceCause}
    (hd : u.duty p = some (.alerting bound d)) : (u.giveUp before p bound c b).Bonded L none none := by
  have holds := State.holds_of_duty hd
  have stopped : (((u.issue (.stopRing p)).outOfService p).reportAgent before p c).Bonded L none (some bound) :=
    (issue (h.butBoth holds)).outOfService.reportAgent
  cases bound with
  | guest g => exact stopped.bounceGuest
  | call t =>
    refine stopped.returnCall fun a => ?_
    have same : (u.issue (.stopRing p)).duty p = u.duty p := by simp [State.duty]
    have signed_on : (u.issue (.stopRing p)).duty p ≠ none := by simp [same, hd]
    rw [State.reportAgent_bonds, outOfService_named signed_on, State.issue_bonds, h.names_of_holds holds]
    simp

theorem headsetLoss (h : u.Bonded L none none) {before : State} : (u.headsetLoss before p).Bonded L none none := by
  have same : (u.setAgent p { u.dsu.agents[p] with headset := .absent }).bonds = u.bonds := State.setAgent_bonds_same rfl
  have k : (u.setAgent p { u.dsu.agents[p] with headset := .absent }).Bonded L none none := h.same same
  have duty (d : Option Duty) (hd : u.duty p = d) : (u.setAgent p { u.dsu.agents[p] with headset := .absent }).duty p = d :=
    (congrArg (fun m : Bonds => m.duty p) same).trans hd
  unfold State.headsetLoss
  simp only
  split
  · exact k
  · exact k
  next hd => exact (k.but (duty _ hd) rfl).toNotReady.reportAgent
  next hd => exact (outOfService (k.butBoth (State.holds_of_duty (duty _ hd)))).reportAgent.bounceGuest
  next hd => exact k.giveUp (duty _ hd)
  · exact k.setPendingAction
  · exact k.setPendingAction

theorem ringExpiry (h : u.Bonded L none none) : (u.ringExpiry p).Bonded L none none := by
  unfold State.ringExpiry
  split
  next hd => exact h.giveUp hd
  next => exact h

theorem readyAtMin (h : u.Bonded L none none) : (u.readyAtMin p).Bonded L none none := by
  unfold State.readyAtMin
  split
  next hd => exact (h.but hd rfl).endWrap.reportAgent
  next => exact h

theorem wrapExpiry (h : u.Bonded L none none) : (u.wrapExpiry p).Bonded L none none := by
  unfold State.wrapExpiry
  split
  next hd => exact (h.but hd rfl).endWrap.reportAgent
  next => exact h

end State.Bonded

end Sys2Proof.Machine
end

section
/-! PROOF. The invariants of the bonds after the scanner, the frames of the peers, the clock and the maintenance port, and with
them after every command. -/

namespace Sys2Proof.Machine

namespace State

variable {s : State}

/-! ## What else leaves the bonds -/

theorem takeLoop_bonds (s : State) (r : LoopState) (t : Trunk) : (s.takeLoop r t).bonds = s.bonds := by
  unfold takeLoop
  simp only
  split <;> rfl

/-- A headset flag that comes back is no part of the bonds. -/
theorem takeHeadset_bonds (s : State) (r : HeadsetState) (p : Position) : (s.takeHeadset r p).bonds = s.bonds := by
  have returned (v : State) : (v.headsetReturn p).bonds = v.bonds := setAgent_bonds_same rfl
  unfold takeHeadset
  simp only
  split
  · cases r
    · rfl
    · exact returned _
  · split
    · rfl
    · cases r
      · simp only
        split <;> rfl
      · simp only
        split
        · rfl
        · exact returned _

@[simp] theorem modifyPeer_bonds (s : State) (x : Station) (f : PeerData → PeerData) : (s.modifyPeer x f).bonds = s.bonds := by
  unfold modifyPeer
  split <;> rfl

/-- A record that names no agent before and after a change of its phase. -/
theorem setPhase_bonds {t : Trunk} {b : CallBody} {p : CallPhase} (hc : s.call t = some b) (hb : b.phase.tie = none)
    (hp : p.tie = none) : (s.setPhase t p).bonds = s.bonds := by
  refine bonds_of_unnamed (t := t) (x := some (b.queue, p)) ?_ ?_ (by simp) (by simp)
  · rw [setPhase_links, standing_of_call hc]
    rfl
  · exact hp.trans ((named_call hc).trans hb).symm

theorem lendCall_bonds {t : Trunk} {b : CallBody} {o : SlotNo} {x : Station} {j : Junctor} (hc : s.call t = some b)
    (hp : b.phase = .offered o x j) : (s.lendCall t x j).bonds = s.bonds := by
  have unslotted : ((s.setSlot o none).removeCall b.queue t).call t = some b := hc
  have phased := setPhase_bonds (p := .lentAlerting x j (deadline s.now s.items.lentLimit)) unslotted (by rw [hp]; rfl) rfl
  rw [Sound.lendCall_of_offered hc hp]
  refine Eq.trans ?_ phased
  exact bonds_congr (by simp) (by simp) (by simp)

theorem makeOffer_bonds {t : Trunk} {b : CallBody} {q : QueueNo} {o : SlotNo} {j : Junctor} {x : Station}
    (hc : s.call t = some b) (hb : b.phase.tie = none) : (s.makeOffer q t b o j x).bonds = s.bonds := by
  refine bonds_of_unnamed (t := t) (x := some (b.queue, .offered o x j)) ?_ ?_ (by simp) (by simp [makeOffer])
  · rw [Sound.makeOffer_links hc]
    rfl
  · exact ((named_call hc).trans hb).symm

/-- A seizure that is admitted takes a FREE record to QUEUED. -/
theorem enqueued_bonds {t : Trunk} (h : s.call t = none) (x : CallRec) {b : CallBody} (hx : x.body = some b)
    (hb : b.phase = .queued) (q : QueueNo) : ((s.setCall t x).insertCall q t).bonds = s.bonds := by
  refine bonds_of_unnamed (t := t) (x := some (b.queue, .queued)) ?_ (named_free h).symm rfl rfl
  change (s.setCall t x).links.standing = _
  rw [setCall_links, hx, Option.map_some, hb]
  rfl

theorem enterRun_bonds (s : State) : s.enterRun.bonds = s.bonds :=
  bonds_congr (Sound.enterRun_links s) (by simp [enterRun_eq, started]) (by simp [enterRun_eq, started])

@[simp] theorem respond_bonds (s : State) (c : StatusCode) (d : List Byte) : (s.respond c d).bonds = s.bonds := rfl

/-- Of the commands of the maintenance port RESTART alone writes the bonds. -/
theorem command_bonds (s : State) {k : Command} (h : k ≠ .restart) (d : List Byte) : (s.command k d).bonds = s.bonds := by
  cases k with
  | restart => exact absurd rfl h
  | set =>
    change (s.commandSet d).bonds = s.bonds
    unfold commandSet
    split
    · split
      · exact respond_bonds s _ _
      · split
        · exact respond_bonds s _ _
        · split
          · exact respond_bonds s _ _
          · split
            · exact respond_bonds s _ _
            · exact respond_bonds (s.setImage _) _ _
    · exact respond_bonds s _ _
  | start =>
    change (s.commandStart d).bonds = s.bonds
    unfold commandStart
    split
    · exact respond_bonds s _ _
    · split
      · exact respond_bonds s _ _
      · split
        · exact respond_bonds s _ _
        · rw [respond_bonds, event, close_bonds, enterRun_bonds]
  | select =>
    change (s.commandSelect d).bonds = s.bonds
    unfold commandSelect
    split
    · split
      · exact respond_bonds s _ _
      · split
        · exact respond_bonds (s.setPointer _) _ _
        · exact respond_bonds s _ _
    · exact respond_bonds s _ _
  | readNext =>
    change (s.commandReadNext d).bonds = s.bonds
    unfold commandReadNext
    split
    · exact respond_bonds s _ _
    · exact respond_bonds (s.setPointer _) _ _
  | reportNext =>
    change (s.commandReportNext d).bonds = s.bonds
    unfold commandReportNext
    split
    · exact respond_bonds s _ _
    · split
      · exact respond_bonds s _ _
      next rest _ =>
        rw [respond_bonds]
        exact bonds_congr (s.setFifo rest).refresh_links (by simp) (by simp)
  | status =>
    change (s.commandStatus d).bonds = s.bonds
    unfold commandStatus
    split
    · exact respond_bonds s _ _
    · exact respond_bonds (s.setLostReports 0) _ _

end State

namespace State.Bonded

variable {L : Prop} {e : Option Position} {f : Option Bound} {u v : State} {t : Trunk} {p : Position} {g : GuestNo}
  {x : Station} {tag : Tag}

/-! ## The scanner -/

theorem admitSeize (h : u.Bonded L none none) (ht : u.call t = none) {s : ServiceEntry} :
    (u.admitSeize t s).Bonded L none none := by
  unfold State.admitSeize
  extract_lets body w
  have same : w.bonds = u.bonds := State.enqueued_bonds ht ⟨u.cqm.calls[t].gen + 1, some body⟩ rfl rfl s.queue
  have unnamed : w.bonds.names (.call t) = none := by rw [same, State.named_free ht]
  have sound : w.Bonded L none none := h.same same
  split
  · exact sound.matchCall unnamed
  next k _ =>
    have joined : (w.joinWaiting t k).Bonded L none none := sound.same (by simp)
    exact (joined.matchCall (by simpa using unnamed)).same (by simp)

theorem takeSeize (h : u.Bonded L none none) {c : Fin 64} : (u.takeSeize t c).Bonded L none none := by
  unfold State.takeSeize
  split
  · exact h.same rfl
  next hc =>
    simp only
    split
    · exact h.issue.same rfl
    · split
      · exact h.issue.writeReport.same rfl
      · exact (h.admitSeize hc).same rfl

theorem takeCharRun (h : u.Bonded L none none) (c : ScanChar) : (u.takeCharRun c).Bonded L none none := by
  unfold State.takeCharRun
  split
  · exact h.takeSeize
  · exact h.same (u.takeLoop_bonds _ _)
  · exact h.same (u.takeHeadset_bonds _ _)
  · exact h.keySignOn
  · exact h.keyReady
  · exact h.keyNotReady
  · exact h.keySignOff
  · exact h.keyAnswer
  · exact h.keyRelease
  · exact h.keyMoreTime

theorem takeScan (h : u.Bonded L none none) (r : ScanResult) : (u.takeScan r).Bonded L none none := by
  unfold State.takeScan
  split
  · exact h
  · split
    · exact h.same rfl
    · exact h
  next c =>
    split
    · exact h.event fun k => k.takeCharRun c
    · unfold State.takeCharConfig
      split
      · exact h.issue
      · exact h.issue
      · exact h
      · exact h

theorem scanReceiveAll (h : u.Bonded L none none) (l : List Byte) : (u.scanReceiveAll l).Bonded L none none :=
  h.foldl l fun v b k => (k.same (v := v.setScanOpen (scanByte v.lsi.scanOpen b).1) rfl).takeScan _

theorem disconnectExpiry (h : u.Bonded L none none) : (u.disconnectExpiry t).Bonded L none none :=
  (h.same (v := u.setTrunkSup t _) rfl).callerRelease

theorem headsetExpiry (h : u.Bonded L none none) : (u.headsetExpiry p).Bonded L none none :=
  (h.same (v := u.setPositionSup p _) rfl).headsetLoss

/-! ## The frames for the origin of an offer -/

theorem unnamed_of_tagged {b : CallBody} (hb : u.taggedCall tag = some b) (hp : b.phase.tie = none) :
    u.bonds.names (.call tag.trunk) = none :=
  (State.named_call (Sound.taggedCall_eq_some.1 hb).2).trans hp

theorem takeTake (h : u.Bonded L none none) {j : Junctor} : (u.takeTake x tag j).Bonded L none none := by
  unfold State.takeTake
  split
  next taken =>
    obtain ⟨b, o, hb, hp⟩ := Sound.takeMatches_iff.1 taken
    exact (h.same (State.lendCall_bonds (Sound.taggedCall_eq_some.1 hb).2 hp)).give
  next => exact h.give

theorem takeDecline (h : u.Bonded L none none) : (u.takeDecline x tag).Bonded L none none := by
  unfold State.takeDecline
  split
  · split
    · exact (h.same (u.modifyPeer_bonds x _)).failOffer
    · exact h
  · exact h

theorem takeAnswered (h : u.Bonded L none none) : (u.takeAnswered x tag).Bonded L none none := by
  unfold State.takeAnswered
  split
  next hb =>
    split
    · exact h.same (State.setPhase_bonds (Sound.taggedCall_eq_some.1 hb).2 rfl rfl)
    · exact h.give
  next => exact h.give

theorem takeBounce (h : u.Bonded L none none) : (u.takeBounce x tag).Bonded L none none := by
  unfold State.takeBounce
  split
  next hb =>
    split
    · exact h.returnCall_unnamed (unnamed_of_tagged hb rfl)
    · exact h
  next => exact h

theorem takeAgentDone (h : u.Bonded L none none) : (u.takeAgentDone x tag).Bonded L none none := by
  unfold State.takeAgentDone
  split
  next hb =>
    split
    · exact h.endCall_unnamed (unnamed_of_tagged hb rfl)
    · exact h
  next => exact h

/-! ## The frames for the host of a guest -/

/-- A guest record comes into use with a READY agent RESERVED for it (R177, R63). -/
theorem hostOffer (h : u.Bonded L none none) {o : OfferData} : (u.hostOffer x o).Bonded L none none := by
  unfold State.hostOffer
  split
  next g p m hg chosen =>
    obtain ⟨sound, same, -⟩ := h.chooseAgent chosen
    have vacant : u.ofu.guests[g] = none := by simpa using List.find?_some hg
    have unnamed : m.bonds.names (.guest g) = none := by rw [same, State.named_no_guest vacant]
    refine State.Bonded.give ?_
    rw [State.Bonded, State.setGuest_bonds, State.setDuty_bonds (s := m.leaveIdle p) (sound.present p rfl)]
    exact (Bonds.Sound.butParty sound unnamed).bind rfl (Bonds.Sound.enrolled_erase sound (by simp))
  next => exact h

theorem takeOffer (h : u.Bonded L none none) {o : OfferData} : (u.takeOffer x o).Bonded L none none := by
  unfold State.takeOffer
  extract_lets stale w v
  clear_value stale
  have hw : w.Bonded L none none := by
    unfold w
    split
    · exact h.freeGuest
    · exact h
  have hv : v.Bonded L none none := by
    unfold v
    split
    · exact hw.give
    · exact hw.hostOffer
  split
  · exact hv.reportAgent
  · exact hv

/-- A guest and the agent that it names go to ALERTING. -/
theorem connectGuest (h : u.Bonded L none none) : (u.connectGuest g).Bonded L none none := by
  unfold State.connectGuest
  split
  · exact h
  next r hr =>
    have both := Bonds.Sound.butBoth h (h.holds_of_names (State.named_guest hr))
    rw [State.Bonded, State.ringAgent_bonds (s := u.setGuest g (some { r with phase := .alerting })) _
      (both.present r.agent rfl), State.setGuest_bonds]
    exact both.bind rfl (both.enrolled_erase (by simp))

theorem takeConnect (h : u.Bonded L none none) {j : Junctor} : (u.takeConnect x tag j).Bonded L none none := by
  unfold State.takeConnect
  split
  · exact h.give
  · exact (h.foldl (w := fun v i => v.releaseGuest u i) _ fun _ _ k => k.releaseGuest).connectGuest

theorem takeWithdraw (h : u.Bonded L none none) : (u.takeWithdraw x tag).Bonded L none none := by
  unfold State.takeWithdraw
  split
  · exact h
  · exact h.releaseGuest

/-! ## The deadlines and the scan of the overflow -/

theorem offerExpiry (h : u.Bonded L none none) {o : SlotNo} : (u.offerExpiry o).Bonded L none none := by
  unfold State.offerExpiry
  split
  · exact h.failOffer
  · exact h

theorem lentExpiry (h : u.Bonded L none none) : (u.lentExpiry t).Bonded L none none := by
  unfold State.lentExpiry
  split
  next hc => exact h.give.returnCall_unnamed (by rw [State.give_bonds, State.named_call hc]; rfl)
  next => exact h

theorem connectExpiry (h : u.Bonded L none none) : (u.connectExpiry g).Bonded L none none := by
  unfold State.connectExpiry
  split
  · exact h
  · exact h.give.freeGuest.reportAgent

theorem scanQueue (h : u.Bonded L none none) {q : QueueNo} : (u.scanQueue q).Bonded L none none := by
  unfold State.scanQueue
  split
  · exact h
  · split
    · exact h
    next t head =>
      split
      next b o j y hc _ _ _ =>
        split
        · obtain ⟨r, standing⟩ := Sound.standing_of_headEligible head
          have queued : b.phase = .queued := by
            rw [State.standing_of_call hc] at standing
            exact congrArg Prod.snd (Option.some.inj standing)
          exact h.same (State.makeOffer_bonds hc (by rw [queued]; rfl))
        · exact h
      next => exact h

theorem offerScan (h : u.Bonded L none none) : u.offerScan.Bonded L none none := h.foldl _ fun _ _ k => k.scanQueue

/-! ## Peers, the link and the clock -/

theorem takeNotice (h : u.Bonded L none none) {c : Notice} : (u.takeNotice x c).Bonded L none none := by
  unfold State.takeNotice
  extract_lets was restart w v
  clear_value was
  have hw : w.Bonded L none none := by
    have lost : (if restart then u.losePeer u x else u).Bonded L none none := by
      split
      · exact h.losePeer
      · exact h
    exact lost.same rfl
  have hv : v.Bonded L none none := by
    unfold v
    split
    · exact hw.writeReport
    · split
      · exact hw
      · exact hw.writeReport
      · exact hw.writeReport
  exact hv.foldl _ fun _ _ k => k.releaseGuest

theorem presenceExpiry (h : u.Bonded L none none) : (u.presenceExpiry x).Bonded L none none := by
  unfold State.presenceExpiry
  split
  · exact (h.losePeer.same (v := (u.losePeer u x).setPeer x _) rfl).writeReport
  · exact h
  · exact h

theorem tellDropped (h : u.Bonded L none none) {entry : TxEntry} : (u.tellDropped entry).Bonded L none none := by
  unfold State.tellDropped
  split
  · exact h.requestNotice
  · unfold State.failDropped
    split
    · split
      · exact h.failOffer
      · exact h
    · exact h

theorem attemptLost (h : u.Bonded L none none) : u.attemptLost.Bonded L none none := by
  unfold State.attemptLost
  extract_lets _ w
  split
  · exact h.same (v := w) rfl
  next entry _ =>
    extract_lets v z
    have hv : v.Bonded L none none := by
      unfold v
      split
      · exact h.same rfl
      · exact h.same rfl
    split
    · exact hv
    · exact (hv.same (v := z.setPlc { z.plc with contentionDrop := satUp 65535 z.plc.contentionDrop }) rfl).tellDropped

theorem attemptDone (h : u.Bonded L none none) {c : List Byte} : (u.attemptDone c).Bonded L none none := by
  unfold State.attemptDone
  extract_lets _ _ v _ w
  split
  · exact h.same rfl
  · split
    · exact h.same rfl
    · split
      · exact (h.same (v := w) rfl).requestNotice
      · exact h.same rfl

theorem deliver (h : u.Bonded L none none) {c : Payload} : (u.deliver x c).Bonded L none none := by
  unfold State.deliver
  split
  · exact h.takeNotice
  · exact h.takeOffer
  · exact h.takeTake
  · exact h.takeDecline
  · exact h.takeConnect
  · exact h.takeAnswered
  · exact h.takeBounce
  · exact h.takeAgentDone
  all_goals exact h.takeWithdraw

theorem frameReceived (h : u.Bonded L none none) (c : List Byte) (d b : Bool) : (u.frameReceived c d b).Bonded L none none := by
  have ends : (u.frameEnds b).Bonded L none none := h.same rfl
  have taken (r : RxResult) : ((u.frameEnds b).takeRx r).Bonded L none none := by
    cases r with
    | deliver y c => exact ends.deliver
    | _ => exact h.same rfl
  unfold State.frameReceived
  split
  · refine h.event fun _ => ?_
    simp only
    split
    · exact ends
    · exact taken _
  · exact ends

/-- Whatever deadline the tick takes keeps the bonds sound. -/
theorem tickWork {d : TickEvent} {w : State → State} (h : u.Bonded L none none) (hw : u.tickWork d = some w) :
    (w u).Bonded L none none := by
  cases d <;> simp only [State.tickWork, Option.map_eq_some_iff, Option.ite_none_right_eq_some, Option.some.injEq] at hw
  case presence => obtain ⟨x, -, rfl⟩ := hw; exact h.presenceExpiry
  case offer => obtain ⟨o, -, rfl⟩ := hw; exact h.offerExpiry
  case lent => obtain ⟨t, -, rfl⟩ := hw; exact h.lentExpiry
  case connect => obtain ⟨g, -, rfl⟩ := hw; exact h.connectExpiry
  all_goals obtain ⟨-, rfl⟩ := hw
  case disconnectFilter => exact h.disconnectExpiry
  case headsetFilter => exact h.headsetExpiry
  case sweepEnd => exact h.same rfl
  case ring => exact h.ringExpiry
  case readyAtMin => exact h.readyAtMin
  case wrapExpiry => exact h.wrapExpiry
  case nextDue t =>
    exact h.same (State.bonds_congr (State.modifyCall_links_same u fun _ => ⟨rfl, rfl⟩) (by simp) (by simp))
  case holdoffEnd =>
    have stays : u.endHoldoffs.links.standing = u.links.standing := by simp [State.links, State.call]
    refine h.same (State.bonds_of_unnamed (t := 0) (x := u.links.standing 0) ?_ rfl (by simp) (by simp))
    rw [stays, Function.update_eq_self]
  case availPeriod => exact h.requestNotice.same rfl
  case spacingEnd => exact h
  case division =>
    exact h.same (State.bonds_congr (State.links_congr (by simp) (by simp) (by simp) (by simp) (by simp) (by simp))
      (by simp) (by simp))

theorem tickEvent (h : u.Bonded L none none) {d : TickEvent} : (u.tickEvent d).Bonded L none none := by
  unfold State.tickEvent
  split
  next hw => exact h.event fun k => k.tickWork hw
  next => exact h

theorem tickEvents (h : u.Bonded L none none) (l : List TickEvent) : (u.tickEvents l).Bonded L none none :=
  h.foldl l fun _ _ k => k.tickEvent

theorem tick (h : u.Bonded L none none) (plan : TickPlan) : (u.tick plan).Bonded L none none := by
  unfold State.tick
  extract_lets ready worked
  have hr : ready.Bonded L none none := (h.tickEvents defaultTick).tickEvents _
  clear_value ready
  have ha : ready.advance.Bonded L none none := by
    rw [State.advance_eq]
    exact hr.same rfl
  have hw : worked.Bonded L none none := (ha.tickEvents plan.first).tickEvents (restOfTick plan)
  exact (hw.event fun k => k.offerScan).tickEvent

theorem blockBoundary (h : u.Bonded L none none) (order : List Channel) : (u.blockBoundary order).Bonded L none none := by
  unfold State.blockBoundary
  extract_lets w
  have counted : w.Bonded L none none := by
    unfold w
    rw [State.countPulses_eq]
    exact h.same rfl
  clear_value w
  refine State.Bonded.foldl _ (counted.same (v := w.setBoundariesDue (w.pbc.boundariesDue - 1)) rfl) fun v c k => ?_
  rcases State.takeBoundary_cases v c with ⟨-, hb⟩ | ⟨-, hb⟩ <;> rw [hb]
  · exact k.event fun k => k.same (by simp)
  · exact k

/-! ## The maintenance port, and every command -/

/-- After a reset nothing is bound, and no agent is READY. -/
theorem resetTo (s : State) (m : Image) (x : Station) (o : List Order) : (s.resetTo m x o).Bonded L none none := by
  have off (p : Position) : (s.resetTo m x o).bonds.duty p = none := by
    change (s.resetTo m x o).duty p = none
    simp [State.duty, State.resetTo, State.reset, Dsu.reset]
  have unnamed (b : Bound) : (s.resetTo m x o).bonds.names b = none := by
    cases b with
    | call t => exact State.named_free (by simp [State.call, State.resetTo, State.reset, Cqm.reset])
    | guest g => exact State.named_no_guest (by simp [State.resetTo, State.reset, Ofu.reset])
  have list : (s.resetTo m x o).bonds.idleList = [] := rfl
  refine ⟨fun p b st => ?_, nofun, fun _ => ?_⟩
  · simp [Bonds.holds, off, unnamed]
  · simp [list, off]

theorem command (h : u.Bonded L none none) (k : Command) (d : List Byte) : (u.command k d).Bonded L none none := by
  by_cases restart : k = .restart
  · subst restart
    change (u.commandRestart d).Bonded L none none
    unfold State.commandRestart
    split
    · exact (resetTo u u.mpi.image u.mpi.station (u.lsi.orders.take 1)).same rfl
    · exact h.same rfl
  · exact h.same (u.command_bonds restart d)

theorem transact (h : u.Bonded L none none) (l : List Byte) : (u.transact l).Bonded L none none := by
  unfold State.transact
  split
  · exact h.same rfl
  · split
    · exact h.same rfl
    · split
      · exact h.same rfl
      · split
        · exact h.same rfl
        · exact h.command _ _

theorem nextOf_rowOf (h : u.Bonded L none none) (d : TickEvent) : (nextOf (Claims.rowOf d) u).Bonded L none none := by
  by_cases run : u.running = true ∨ d ≠ .sweepEnd
  · rw [Machine.nextOf_rowOf u d run]
    exact h.tickEvent
  · obtain ⟨stop, rfl⟩ := not_or.1 run |>.imp_right not_not.1
    have idle : nextOf (Claims.rowOf .sweepEnd) u = u := by
      simp [nextOf, Claims.rowOf, exec, execStartSweepEnd, stop]
    rwa [idle]

theorem busSeen (h : u.Bonded L none none) (sign : BusSign) :
    (if u.running then u.event (·.busSeen sign) else u.busSeen sign).Bonded L none none := by
  have seen : (u.busSeen sign).Bonded L none none := by cases sign <;> exact h.same rfl
  split
  · exact h.event fun _ => seen
  · exact seen

/-- Every command keeps the bonds sound. -/
theorem nextOf (h : u.Bonded L none none) (c : Instr) : (nextOf c u).Bonded L none none :=
  nextOf_induct (P := fun v => v.Bonded L none none) c h (fun x _ => resetTo u _ x _) (fun _ => h.tick)
    (fun _ => h.blockBoundary) (fun l _ => h.scanReceiveAll l) (h.same rfl) h.nextOf_rowOf
    (fun _ _ => h.event fun k => k.same (by simp)) h.busSeen
    (h.event fun k => k.attemptLost) (fun _ => h.event fun k => k.attemptDone) h.frameReceived
    (fun k d _ => h.command k d) fun l _ => h.transact l

end State.Bonded
end Sys2Proof.Machine
end

section
/-! PROOF. The invariants of the statements are those of the bonds, and every step keeps them (AgentBindingsAreKept,
IdleListIsKept). -/

namespace Sys2Proof.Claims

open Machine

variable {s u : State}

/-! ## What a duty holds -/

theorem holds_alerting_iff (p : Position) (b : Bound) :
    s.bonds.holds p = some (b, .alerting) ↔ ∃ d, s.duty p = some (.alerting b d) := by
  cases hd : s.duty p with
  | none => simp [Bonds.holds, State.bonds, hd]
  | some d => cases d <;> simp [State.holds_of_duty hd, Duty.tie]

theorem holds_talking_iff (p : Position) (b : Bound) :
    s.bonds.holds p = some (b, .talking) ↔ s.duty p = some (.talking b) := by
  cases hd : s.duty p with
  | none => simp [Bonds.holds, State.bonds, hd]
  | some d => cases d <;> simp [State.holds_of_duty hd, Duty.tie]

theorem holds_reserved_iff (p : Position) (g : GuestNo) :
    s.bonds.holds p = some (.guest g, .reserved) ↔ s.duty p = some (.reserved g) := by
  cases hd : s.duty p with
  | none => simp [Bonds.holds, State.bonds, hd]
  | some d => cases d <;> simp [State.holds_of_duty hd, Duty.tie]

/-! ## What a call or a guest names -/

theorem names_call_alerting_iff (t : Trunk) (p : Position) :
    s.bonds.names (.call t) = some (p, .alerting) ↔ ∃ b ∈ s.call t, b.phase = .alerting p := by
  cases hc : s.call t with
  | none => simp [State.named_free hc]
  | some b => cases hp : b.phase <;> simp [State.named_call hc, hp, CallPhase.tie]

theorem names_call_talking_iff (t : Trunk) (p : Position) :
    s.bonds.names (.call t) = some (p, .talking) ↔ ∃ b ∈ s.call t, ∃ a, b.phase = .talking p a := by
  cases hc : s.call t with
  | none => simp [State.named_free hc]
  | some b => cases hp : b.phase <;> simp [State.named_call hc, hp, CallPhase.tie]

theorem names_guest_reserved_iff (g : GuestNo) (p : Position) :
    s.bonds.names (.guest g) = some (p, .reserved) ↔ ∃ r ∈ s.ofu.guests[g], r.agent = p ∧ ∃ d, r.phase = .waitConnect d := by
  cases hr : s.ofu.guests[g] with
  | none => simp [State.named_no_guest hr]
  | some r => cases hp : r.phase <;> simp [State.named_guest hr, hp, GuestPhase.stage]

theorem names_guest_alerting_iff (g : GuestNo) (p : Position) :
    s.bonds.names (.guest g) = some (p, .alerting) ↔ ∃ r ∈ s.ofu.guests[g], r.agent = p ∧ r.phase = .alerting := by
  cases hr : s.ofu.guests[g] with
  | none => simp [State.named_no_guest hr]
  | some r => cases hp : r.phase <;> simp [State.named_guest hr, hp, GuestPhase.stage]

theorem names_guest_talking_iff (g : GuestNo) (p : Position) :
    s.bonds.names (.guest g) = some (p, .talking) ↔ ∃ r ∈ s.ofu.guests[g], r.agent = p ∧ ∃ a, r.phase = .talking a := by
  cases hr : s.ofu.guests[g] with
  | none => simp [State.named_no_guest hr]
  | some r => cases hp : r.phase <;> simp [State.named_guest hr, hp, GuestPhase.stage]

/-! ## The statements -/

/-- The bindings of the statements, clause by clause. -/
theorem agentsBound_clauses (s : State) : AgentsBound s ↔
    (∀ p b st, s.bonds.holds p = some (b, st) → s.bonds.names b = some (p, st)) ∧
      (∀ t p st, s.bonds.names (.call t) = some (p, st) → s.bonds.holds p = some (.call t, st)) ∧
        ∀ g p st, s.bonds.names (.guest g) = some (p, st) → s.bonds.holds p = some (.guest g, st) := by
  refine and_congr (forall_congr' fun p => ?_) (and_congr (forall_congr' fun t => ?_) (forall_congr' fun g => ?_))
  · cases hd : s.duty p with
    | none => simp [Bonds.holds, State.bonds, hd]
    | some d =>
      cases d with
      | notReady | ready | wrapup => simp [State.holds_of_duty hd, Duty.tie]
      | reserved g => simp [State.holds_of_duty hd, Duty.tie, names_guest_reserved_iff]
      | alerting b d =>
        cases b <;> simp [State.holds_of_duty hd, Duty.tie, names_call_alerting_iff, names_guest_alerting_iff]
      | talking b =>
        cases b <;> simp [State.holds_of_duty hd, Duty.tie, names_call_talking_iff, names_guest_talking_iff]
  · cases hc : s.call t with
    | none => simp [State.named_free hc]
    | some b =>
      cases hp : b.phase <;> simp [State.named_call hc, hp, CallPhase.tie, holds_alerting_iff, holds_talking_iff]
  · cases hr : s.ofu.guests[g] with
    | none => simp [State.named_no_guest hr]
    | some r =>
      cases hp : r.phase <;>
        simp [State.named_guest hr, hp, GuestPhase.stage, holds_reserved_iff, holds_alerting_iff, holds_talking_iff]

/-- An agent holds what names it. -/
theorem agentsBound_iff (s : State) : AgentsBound s ↔
    ∀ p b st, s.bonds.holds p = some (b, st) ↔ s.bonds.names b = some (p, st) := by
  rw [agentsBound_clauses]
  constructor
  · rintro ⟨agents, calls, guests⟩ p b st
    refine ⟨agents p b st, fun named => ?_⟩
    cases b with
    | call t => exact calls t p st named
    | guest g => exact guests g p st named
  · exact fun agree => ⟨fun p b st => (agree p b st).1, fun t p st => (agree p _ st).2, fun g p st => (agree p _ st).2⟩

theorem bonded_iff (s : State) (L : Prop) : s.Bonded L none none ↔ AgentsBound s ∧ (L → IdleList s) := by
  rw [agentsBound_iff]
  refine ⟨fun h => ⟨fun p b st => ?_, h.idle⟩, fun ⟨agree, idle⟩ => ⟨fun p b st => ?_, nofun, idle⟩⟩
  · simpa using h.agree p b st
  · simpa using agree p b st

theorem step_bonded {L : Prop} (h : s.Bonded L none none) (e : step s = .next u) : u.Bonded L none none := by
  rw [step_eq] at e
  cases e
  cases s.pending with
  | nil => exact h
  | cons c rest =>
    have taken : ({ s with pending := rest } : State).Bonded L none none := h.same rfl
    exact taken.nextOf c

end Sys2Proof.Claims

namespace Sys2Proof.Proofs

open Machine Claims

/-- Settles O9: agents hold what names them after every command, since an act lets an agent and its call or guest stand out of
the agreement together and puts both back. -/
theorem agentBindingsAreKept : Obligations.AgentBindingsAreKept := fun s u bound e =>
  ((bonded_iff u False).1 (step_bonded ((bonded_iff s False).2 ⟨bound, False.elim⟩) e)).1

/-- Settles O10: the idle list is kept with the bindings, since only a bound agent goes to WRAPUP without leaving the list. -/
theorem idleListIsKept : Obligations.IdleListIsKept := fun s u bound idle e =>
  ((bonded_iff u True).1 (step_bonded ((bonded_iff s True).2 ⟨bound, fun _ => idle⟩) e)).2 trivial

end Sys2Proof.Proofs
end

section
/-! PROOF. The agent that each POLICY chooses (AgentsAreChosenByPolicy). -/

namespace Sys2Proof.Machine.State

variable {s : State} {q : QueueNo}

/-- The agents of the idle set (R46): READY, with the queue in their profile. -/
theorem idle_iff (p : Position) : s.idle q p = true ↔
    ∃ x, s.dsu.agents[p].post = some x ∧ (∃ since, x.duty = .ready since) ∧ q ∈ s.profileQueues x.profile := by
  unfold idle skilled AgentRec.kind
  cases s.dsu.agents[p].post with
  | none => simp
  | some x => cases hd : x.duty <;> simp [Duty.kind, hd]

/-! ## LONGEST_IDLE -/

theorem chooseAgent_longestIdle (h : (s.queueItems q).policy = .longestIdle) :
    s.chooseAgent q = (s.dsu.idleList.find? (s.idle q)).map fun p => (p, s) := by
  simp only [chooseAgent, h]

theorem chooseAgent_first {before after : List Position} {p : Position} (h : (s.queueItems q).policy = .longestIdle)
    (hl : s.dsu.idleList = before ++ p :: after) (hb : ∀ x ∈ before, ¬s.idle q x = true) (hp : s.idle q p = true) :
    s.chooseAgent q = some (p, s) := by
  rw [chooseAgent_longestIdle h, hl, List.find?_append, List.find?_eq_none.2 hb, List.find?_cons_of_pos hp]
  rfl

/-! ## CIRCULAR -/

/-- The positions in cyclic order from the hunt pointer. -/
theorem chooseAgent_circular (h : (s.queueItems q).policy = .circular) :
    s.chooseAgent q = ((List.finRange 24).find? fun i => s.idle q (s.dsu.hunt[q] + i)).map fun i =>
      (s.dsu.hunt[q] + i, s.setHunt q (s.dsu.hunt[q] + i + 1)) := by
  simp only [chooseAgent, h, List.find?_map, Option.map_map]
  rfl

end Sys2Proof.Machine.State

namespace Sys2Proof.Proofs

open Machine Claims

/-- Settles O36: the able agents are those of the idle set, and each POLICY takes the first of them in its order. -/
theorem agentsAreChosenByPolicy : Obligations.AgentsAreChosenByPolicy := by
  intro s q able
  have able_iff (p : Position) : able p ↔ s.idle q p = true := (State.idle_iff p).symm
  simp only [able_iff]
  refine ⟨fun policy => ⟨fun before after p hl hb hp => State.chooseAgent_first policy hl hb hp, fun none_able => ?_⟩,
    fun policy => ⟨fun i hi low => ?_, fun none_able => ?_⟩⟩
  · rw [State.chooseAgent_longestIdle policy, List.find?_eq_none.2 none_able, Option.map_none]
  · have first := find?_finRange_iff (p := fun i => s.idle q (s.dsu.hunt[q] + i)).2
      ⟨hi, fun k hk => Bool.eq_false_iff.2 (low k hk)⟩
    rw [State.chooseAgent_circular policy, first, Option.map_some]
  · have nobody := find?_finRange_none fun i => Bool.eq_false_iff.2 (none_able (s.dsu.hunt[q] + i))
    rw [State.chooseAgent_circular policy, nobody, Option.map_none]

end Sys2Proof.Proofs
end

section
/-! PROOF. The SIGN_ON and READY keys (SignOnAndReadyKeysAreTaken) and the NOT_READY and SIGN_OFF keys
(NotReadyAndSignOffKeysAreTaken). -/

namespace Sys2Proof.Claims

open Machine State

variable {s : State} {p : Position} {b : Byte}

/-! ## The rows of the keys in RUN -/

/-- A key character is taken as one event; bits 7-5 of its second byte are the profile (TABLE 13-3). -/
theorem scanReceiveAll_key (run : Scanning s) (hp : Names b p) (k : Key) :
    s.scanReceiveAll [keyCode k, b] =
      (s.takeCharRun (.key k ⟨b.toNat / 32 % 8, Nat.mod_lt _ (by decide)⟩ p)).close s := by
  obtain ⟨running, opened⟩ := run
  rw [scanReceiveAll_two opened (scanLength_keyCode k), scanComplete_key k hp, takeScan_run running]

theorem exec_signOnKey (run : Scanning s) (hp : Names b p) {f : ProfileNo} (hf : b.toNat / 32 = f.val) :
    exec (.signOnKey b) s = .next ((s.keySignOn p f).close s) := by
  have profile : (⟨b.toNat / 32 % 8, Nat.mod_lt _ (by decide)⟩ : ProfileNo) = f :=
    Fin.ext ((congrArg (· % 8) hf).trans (Nat.mod_eq_of_lt f.isLt))
  have row := scanReceiveAll_key run hp .signOn
  rw [profile] at row
  exact congrArg _ row

theorem exec_readyKey (run : Scanning s) (hp : Names b p) : exec (.readyKey b) s = .next ((s.keyReady p).close s) :=
  congrArg _ (scanReceiveAll_key run hp .ready)

theorem exec_notReadyKey (run : Scanning s) (hp : Names b p) :
    exec (.notReadyKey b) s = .next ((s.keyNotReady p).close s) :=
  congrArg _ (scanReceiveAll_key run hp .notReady)

theorem exec_signOffKey (run : Scanning s) (hp : Names b p) :
    exec (.signOffKey b) s = .next ((s.keySignOff p).close s) :=
  congrArg _ (scanReceiveAll_key run hp .signOff)

/-! ## SIGN_ON -/

theorem keySignOn_taken {f : ProfileNo} (off : s.dsu.agents[p].post = none) (on_head : s.dsu.agents[p].headset = .present)
    (holds : s.profileQueues f ≠ []) :
    s.keySignOn p f = (s.setAgent p ⟨some ⟨f, .notReady⟩, .present, .none⟩).writeReport
      (.agentState p .signedOff .notReady (some f) .key) := by
  have was : s.dsu.agents[p].kind = .signedOff := by simp only [AgentRec.kind, off]
  have taken : s.keySignOn p f = (s.setAgent p ⟨some ⟨f, .notReady⟩, .present, .none⟩).reportAgent s p .key := by
    simp only [keySignOn, off, on_head]
    exact if_pos (by simp [holds])
  have is : (s.setAgent p ⟨some ⟨f, .notReady⟩, .present, .none⟩).dsu.agents[p] = ⟨some ⟨f, .notReady⟩, .present, .none⟩ := by
    simp
  rw [taken]
  simp only [reportAgent, is, was]
  rfl

theorem keySignOn_refused {f : ProfileNo}
    (h : s.dsu.agents[p].post ≠ none ∨ s.dsu.agents[p].headset = .absent ∨ s.profileQueues f = []) :
    s.keySignOn p f = s.issue (.keyRefused p) := by
  unfold keySignOn
  simp only
  split
  · rfl
  next off =>
    refine if_neg ?_
    rcases h with on | absent | empty
    · exact absurd off on
    · simp only [absent]
      simp
    · simp [empty]

/-! ## The other keys in the duties that take them -/

theorem keyReady_notReady (hd : s.duty p = some .notReady) : s.keyReady p =
    if s.dsu.agents[p].headset = .present then (s.becomeReady p).reportAgent s p .key else s.refuseKey p := by
  simp only [keyReady, hd]

theorem keyReady_wrapup {w : WrapFields} (hd : s.duty p = some (.wrapup w)) : s.keyReady p =
    if s.dsu.agents[p].headset = .absent then s.refuseKey p
    else if elapsed w.start w.minEnd ≤ elapsed w.start s.now then (s.endWrap p w .readyKey .ready).reportAgent s p .wrapEnd
    else s.setPendingAction p .ready := by
  simp only [keyReady, hd, minReached, decide_eq_true_eq]

end Sys2Proof.Claims

namespace Sys2Proof.Proofs

open Machine Claims

/-- Settles O26: both keys in each duty; the agent becomes READY by `becomeReady_readied`, a wrap-up ends by
`endWrap_wrapEnded`. -/
theorem signOnAndReadyKeysAreTaken : Obligations.SignOnAndReadyKeysAreTaken := by
  refine ⟨fun s b p f run hp hf => ?_, fun s b p run hp => ?_⟩
  · have row := exec_signOnKey run hp hf
    exact ⟨fun off on_head holds => keySignOn_taken off on_head holds ▸ row, fun other => keySignOn_refused other ▸ row⟩
  · intro a refused
    have row := exec_readyKey run hp
    have refuses (h : s.keyReady p = s.refuseKey p) : refused := row.trans (by rw [h]; rfl)
    cases hd : s.duty p with
    | none => exact refuses (by simp only [State.keyReady, hd])
    | some d =>
      cases d with
      | notReady =>
        rw [keyReady_notReady hd] at row
        change if a.headset = .absent then refused else _
        split
        next absent => exact refuses (by rw [keyReady_notReady hd, if_neg (absent ▸ nofun)])
        next headset =>
          have present : a.headset = .present := by cases hh : a.headset <;> simp_all
          rw [if_pos present] at row
          exact ⟨_, _, becomeReady_readied s p, reportAgent_reported _ s p .key, row⟩
      | wrapup w =>
        rw [keyReady_wrapup hd] at row
        change if a.headset = .absent then refused else _
        split
        next absent => exact refuses (by rw [keyReady_wrapup hd, if_pos absent])
        next headset =>
          rw [if_neg headset] at row
          split
          next reached =>
            rw [if_pos reached] at row
            exact ⟨_, _, endWrap_wrapEnded s p w .readyKey .ready, reportAgent_reported _ s p .wrapEnd, row⟩
          next early => rwa [if_neg early] at row
      | _ => exact refuses (by simp only [State.keyReady, hd])

/-- Settles O27: both keys in each duty, by the act that the duty calls for. -/
theorem notReadyAndSignOffKeysAreTaken : Obligations.NotReadyAndSignOffKeysAreTaken := by
  refine ⟨fun s b p run hp => ?_, fun s b p run hp => ?_⟩
  · have row := exec_notReadyKey run hp
    unfold State.keyNotReady at row
    cases hd : s.duty p with
    | none =>
      rw [hd] at row
      exact row
    | some d =>
      rw [hd] at row
      cases d with
      | ready since => exact ⟨_, _, toNotReady_stoodDown s p, reportAgent_reported _ s p .key, row⟩
      | wrapup w =>
        exact ⟨_, _, endWrap_wrapEnded s p w .notReadyKey .notReady, reportAgent_reported _ s p .wrapEnd, row⟩
      | _ => exact row
  · have row := exec_signOffKey run hp
    unfold State.keySignOff at row
    cases hd : s.duty p with
    | none =>
      rw [hd] at row
      exact row
    | some d =>
      rw [hd] at row
      cases d with
      | notReady | ready =>
        exact ⟨_, _, toSignedOff_signedOff s p, reportAgent_reported _ s p .key, row⟩
      | _ => exact row

end Sys2Proof.Proofs
end

section
/-! PROOF. A division completes; what the close of an event marks, abandons and begins (DivisionsRunAndPublish). -/

namespace Sys2Proof.Machine.State

variable (v : State) (q : QueueNo)

/-! ## The row (R90) -/

theorem exec_divisionComplete {s : State} {d : Division} (h : s.est.inFlight = some d) :
    exec .divisionComplete s = .next (State.close { s with est := {
      recs := s.est.recs.set d.queue
        { s.est.recs[d.queue] with step := d.aht16 * 256 / max d.staffed 1, nUsed := d.staffed }
      inFlight := none } } s) := by
  change Host.Outcome.next (if s.est.inFlight.isSome then s.event completeDivision else s) = _
  rw [h, Option.isSome_some, if_pos rfl, event, completeDivision, h]
  rfl

theorem exec_divisionComplete_none {s : State} (h : s.est.inFlight = none) : exec .divisionComplete s = .next s := by
  change Host.Outcome.next (if s.est.inFlight.isSome then s.event completeDivision else s) = _
  rw [h]
  rfl

/-! ## A changed staffed count marks its queue (R45, R86) -/

/-- The record of a queue after the marks of `l`: marking it again changes nothing. -/
theorem markStaffing_fold_rec (before : State) (l : List QueueNo) (u : State) :
    (l.foldl (fun u k => if v.staffedCount k = before.staffedCount k then u
        else u.setEst k { u.est.recs[k] with pendingFlag := true }) u).est.recs[q] =
      if v.staffedCount q = before.staffedCount q ∨ q ∉ l then u.est.recs[q]
      else { u.est.recs[q] with pendingFlag := true } := by
  induction l generalizing u with
  | nil => simp
  | cons k l ih =>
    rw [List.foldl_cons, ih]
    by_cases here : q = k
    · subst here
      by_cases same : v.staffedCount q = before.staffedCount q <;> simp [same]
    · have other : (if v.staffedCount k = before.staffedCount k then u
          else u.setEst k { u.est.recs[k] with pendingFlag := true }).est.recs[q] = u.est.recs[q] := by
        split
        · rfl
        · exact Claims.getElem_set_other u.est.recs _ here
      simp only [other, List.mem_cons, here, false_or]

theorem markStaffing_rec (before : State) :
    (v.markStaffing before).est.recs[q] =
      if v.staffedCount q = before.staffedCount q then v.est.recs[q]
      else { v.est.recs[q] with pendingFlag := true } := by
  refine (markStaffing_fold_rec v q before (List.finRange 8) v).trans ?_
  simp only [List.mem_finRange, not_true_eq_false, or_false]

theorem markStaffing_inFlight (before : State) : (v.markStaffing before).est.inFlight = v.est.inFlight := by
  obtain ⟨recs, h⟩ := markStaffing_fold v before (List.finRange 8) v
  exact congrArg (·.est.inFlight) h

theorem markStaffing_staffedCount (before : State) : (v.markStaffing before).staffedCount q = v.staffedCount q :=
  staffedCount_congr (by simp) (by simp) q

/-! ## A division with another snapshot is abandoned (R91) -/

/-- A division whose queue has another AHT16 or staffed count than its snapshot. -/
def Overtaken (d : Division) : Prop := v.est.recs[d.queue].aht16 ≠ d.aht16 ∨ v.staffedCount d.queue ≠ d.staffed

/-- The division in flight is of this queue and is overtaken. -/
def Abandons : Prop := ∃ d ∈ v.est.inFlight, v.Overtaken d ∧ d.queue = q

variable {v q}

theorem abandonStale_overtaken {d : Division} (h : v.est.inFlight = some d) (stale : v.Overtaken d) :
    v.abandonStale = (v.setEst d.queue { v.est.recs[d.queue] with
      pendingFlag := true
      restarts := satUp 65535 v.est.recs[d.queue].restarts }).setInFlight none := by
  have test : ¬(decide (v.est.recs[d.queue].aht16 = d.aht16) && decide (v.staffedCount d.queue = d.staffed)) = true := by
    rw [Bool.and_eq_true, decide_eq_true_iff, decide_eq_true_iff, not_and_or]
    exact stale
  simp only [abandonStale, h]
  exact if_neg test

theorem abandonStale_stays (h : ∀ d, v.est.inFlight = some d → ¬v.Overtaken d) : v.abandonStale = v := by
  unfold abandonStale
  split
  next => rfl
  next d flying =>
    obtain ⟨aht, staffed⟩ : v.est.recs[d.queue].aht16 = d.aht16 ∧ v.staffedCount d.queue = d.staffed := by
      simpa [Overtaken] using h d flying
    exact if_pos (by simp only [aht, staffed, decide_true, Bool.and_self])

/-- The record of a queue after its division has been abandoned. -/
theorem abandonStale_rec (h : v.Abandons q) :
    v.abandonStale.est.recs[q] =
      { v.est.recs[q] with pendingFlag := true, restarts := satUp 65535 v.est.recs[q].restarts } := by
  obtain ⟨d, flying, stale, rfl⟩ := h
  rw [abandonStale_overtaken flying stale]
  exact Vector.getElem_set_self d.queue.isLt

theorem abandonStale_rec_other (h : ¬v.Abandons q) : v.abandonStale.est.recs[q] = v.est.recs[q] := by
  by_cases stale : ∃ d, v.est.inFlight = some d ∧ v.Overtaken d
  · obtain ⟨d, flying, stale⟩ := stale
    rw [abandonStale_overtaken flying stale]
    exact Claims.getElem_set_other v.est.recs _ fun same => h ⟨d, flying, stale, same.symm⟩
  · rw [abandonStale_stays fun d flying stale' => stale ⟨d, flying, stale'⟩]

theorem abandonStale_inFlight (d : Division) :
    v.abandonStale.est.inFlight = some d ↔ v.est.inFlight = some d ∧ ¬v.Overtaken d := by
  by_cases stale : ∃ d, v.est.inFlight = some d ∧ v.Overtaken d
  · obtain ⟨e, flying, stale⟩ := stale
    rw [abandonStale_overtaken flying stale, flying]
    refine ⟨fun h => absurd h (by simp), ?_⟩
    rintro ⟨h, fresh⟩
    obtain rfl := Option.some.inj h
    exact absurd stale fresh
  · rw [abandonStale_stays fun d flying stale' => stale ⟨d, flying, stale'⟩]
    exact ⟨fun flying => ⟨flying, fun stale' => stale ⟨d, flying, stale'⟩⟩, And.left⟩

/-! ## The divider takes the lowest pending queue (R88) -/

theorem beginDivision_busy {d : Division} (h : v.est.inFlight = some d) : v.beginDivision = v := by
  simp only [beginDivision, h]

theorem beginDivision_idle (free : v.est.inFlight = none) (h : ∀ k : QueueNo, v.est.recs[k].pendingFlag = false) :
    v.beginDivision = v := by
  simp only [beginDivision, free, find?_finRange_none h]

theorem beginDivision_first (free : v.est.inFlight = none) (hq : v.est.recs[q].pendingFlag = true)
    (low : ∀ k < q, v.est.recs[k].pendingFlag = false) :
    v.beginDivision = (v.setEst q { v.est.recs[q] with pendingFlag := false }).setInFlight
      (some ⟨q, v.est.recs[q].aht16, v.staffedCount q⟩) := by
  have first : (List.finRange 8).find? (fun k => v.est.recs[k].pendingFlag) = some q := find?_finRange_iff.2 ⟨hq, low⟩
  simp only [beginDivision, free, first]

/-- Beginning a division changes of a record its pending mark alone. -/
theorem beginDivision_rec :
    ∃ mark, v.beginDivision.est.recs[q] = { v.est.recs[q] with pendingFlag := mark } := by
  unfold beginDivision
  split
  next => exact ⟨_, rfl⟩
  next =>
    split
    next => exact ⟨_, rfl⟩
    next k _ =>
      by_cases here : q = k
      · subst here
        exact ⟨false, Vector.getElem_set_self q.isLt⟩
      · exact ⟨_, Claims.getElem_set_other v.est.recs _ here⟩

/-! ## The close of an event -/

variable (v q) in
/-- Pending, or made so by the event or by its close. -/
def Marked (before : State) : Prop :=
  v.est.recs[q].pendingFlag = true ∨ v.staffedCount q ≠ before.staffedCount q ∨ v.Abandons q

variable (v) in
/-- The close of an event up to the division that begins. -/
def settleEst (before : State) : State := (v.markStaffing before).abandonStale

variable {before : State}

theorem markStaffing_overtaken {d : Division} : (v.markStaffing before).Overtaken d ↔ v.Overtaken d := by
  have aht : (v.markStaffing before).est.recs[d.queue].aht16 = v.est.recs[d.queue].aht16 := by
    rw [markStaffing_rec]
    split <;> rfl
  rw [Overtaken, Overtaken, aht, markStaffing_staffedCount]

theorem markStaffing_abandons : (v.markStaffing before).Abandons q ↔ v.Abandons q := by
  simp only [Abandons, markStaffing_inFlight, markStaffing_overtaken]

theorem settleEst_inFlight (d : Division) :
    (v.settleEst before).est.inFlight = some d ↔ v.est.inFlight = some d ∧ ¬v.Overtaken d := by
  rw [settleEst, abandonStale_inFlight, markStaffing_inFlight, markStaffing_overtaken]

theorem settleEst_staffedCount : (v.settleEst before).staffedCount q = v.staffedCount q :=
  staffedCount_congr (by simp [settleEst]) (by simp [settleEst]) q

/-- A record once the stale division is gone: its mark and its restart count. -/
theorem settleEst_rec :
    ∃ mark restarts,
      (v.settleEst before).est.recs[q] = { v.est.recs[q] with pendingFlag := mark, restarts := restarts } ∧
      (mark = true ↔ v.Marked q before) ∧
      (v.Abandons q → restarts = satUp 65535 v.est.recs[q].restarts) ∧
      (¬v.Abandons q → restarts = v.est.recs[q].restarts) := by
  have first := markStaffing_rec v q before
  by_cases gone : v.Abandons q
  · have second := abandonStale_rec (markStaffing_abandons (before := before).2 gone)
    refine ⟨true, satUp 65535 v.est.recs[q].restarts, second.trans ?_, iff_of_true rfl (.inr (.inr gone)), fun _ => rfl,
      fun kept => absurd gone kept⟩
    rw [first]
    split <;> rfl
  · have second := (abandonStale_rec_other (mt (markStaffing_abandons (before := before)).1 gone)).trans first
    by_cases same : v.staffedCount q = before.staffedCount q
    · exact ⟨v.est.recs[q].pendingFlag, v.est.recs[q].restarts, second.trans (if_pos same), by simp [Marked, same, gone],
        fun h => absurd h gone, fun _ => rfl⟩
    · exact ⟨true, v.est.recs[q].restarts, second.trans (if_neg same), by simp [Marked, same],
        fun h => absurd h gone, fun _ => rfl⟩

theorem settleEst_pending : (v.settleEst before).est.recs[q].pendingFlag = true ↔ v.Marked q before := by
  obtain ⟨mark, restarts, record, marked, -⟩ := settleEst_rec (v := v) (q := q) (before := before)
  rw [record]
  exact marked

theorem close_est : (v.close before).est = (v.settleEst before).beginDivision.est := by
  simp [close, closeEst, settleEst]

/-- A record after the close: its AHT16 and published pair stay, and its restart count tells whether its division was
abandoned. -/
theorem close_rec :
    ∃ mark restarts, (v.close before).est.recs[q] = { v.est.recs[q] with pendingFlag := mark, restarts := restarts } ∧
      (v.Abandons q → restarts = satUp 65535 v.est.recs[q].restarts) ∧
      (¬v.Abandons q → restarts = v.est.recs[q].restarts) := by
  obtain ⟨mark, restarts, record, -, gone, kept⟩ := settleEst_rec (v := v) (q := q) (before := before)
  obtain ⟨mark', begun⟩ := beginDivision_rec (v := v.settleEst before) (q := q)
  refine ⟨mark', restarts, ?_, gone, kept⟩
  rw [close_est, begun, record]

/-- A division that is not abandoned goes on. -/
theorem close_busy {d : Division} (flying : v.est.inFlight = some d) (fresh : ¬v.Overtaken d) :
    (v.close before).est = (v.settleEst before).est := by
  rw [close_est, beginDivision_busy ((settleEst_inFlight d).2 ⟨flying, fresh⟩)]

theorem settleEst_free (h : ∀ d, ¬(v.est.inFlight = some d ∧ ¬v.Overtaken d)) :
    (v.settleEst before).est.inFlight = none :=
  Option.eq_none_iff_forall_ne_some.2 fun d flying => h d ((settleEst_inFlight d).1 flying)

theorem close_idle (h : ∀ d, ¬(v.est.inFlight = some d ∧ ¬v.Overtaken d)) (none_marked : ∀ k, ¬v.Marked k before) :
    (v.close before).est = (v.settleEst before).est := by
  rw [close_est, beginDivision_idle (settleEst_free h) fun k =>
    Bool.eq_false_iff.2 (mt settleEst_pending.1 (none_marked k))]

/-- The lowest pending queue begins a division. -/
theorem close_begins (h : ∀ d, ¬(v.est.inFlight = some d ∧ ¬v.Overtaken d)) (hq : v.Marked q before)
    (low : ∀ k < q, ¬v.Marked k before) :
    (v.close before).est.inFlight = some ⟨q, v.est.recs[q].aht16, v.staffedCount q⟩ ∧
      ∀ k : QueueNo, (v.close before).est.recs[k].pendingFlag = true ↔ v.Marked k before ∧ k ≠ q := by
  obtain ⟨mark, restarts, record, -⟩ := settleEst_rec (v := v) (q := q) (before := before)
  have aht : (v.settleEst before).est.recs[q].aht16 = v.est.recs[q].aht16 := by rw [record]
  rw [close_est, beginDivision_first (settleEst_free h) (settleEst_pending.2 hq) fun k below =>
    Bool.eq_false_iff.2 (mt settleEst_pending.1 (low k below)), aht, settleEst_staffedCount]
  refine ⟨rfl, fun k => ?_⟩
  by_cases here : k = q
  · subst here
    refine iff_of_false ?_ fun h => h.2 rfl
    exact Bool.eq_false_iff.1 (congrArg EstRec.pendingFlag (Vector.getElem_set_self k.isLt))
  · have other := Claims.getElem_set_other (v.settleEst before).est.recs
      { (v.settleEst before).est.recs[q] with pendingFlag := false } here
    exact (iff_of_eq (congrArg (·.pendingFlag = true) other)).trans
      (settleEst_pending.trans (iff_self_and.2 fun _ => here))

end Sys2Proof.Machine.State

namespace Sys2Proof.Proofs

open Machine Claims

/-- Settles O37: the close marks the queues, drops a stale division and then begins the lowest pending one. -/
theorem divisionsRunAndPublish : Obligations.DivisionsRunAndPublish := by
  refine ⟨fun s => ⟨fun _ => State.exec_divisionComplete, State.exec_divisionComplete_none⟩, fun s v => ?_⟩
  intro u stale abandoned marked runs
  refine ⟨fun q => ?_, fun q => ?_, fun d ⟨flying, fresh⟩ => ?_, fun free => ⟨fun none_marked => ?_, fun q hq low => ?_⟩⟩
  · obtain ⟨mark, restarts, record, -⟩ := State.close_rec (v := v) (q := q) (before := s)
    simp only [u, record, and_self]
  · obtain ⟨mark, restarts, record, gone, kept⟩ := State.close_rec (v := v) (q := q) (before := s)
    simp only [u, record]
    exact ⟨gone, kept⟩
  · have est : u.est = (v.settleEst s).est := State.close_busy flying fresh
    rw [est]
    exact ⟨(State.settleEst_inFlight d).2 ⟨flying, fresh⟩, fun q => State.settleEst_pending⟩
  · have est : u.est = (v.settleEst s).est := State.close_idle free none_marked
    rw [est]
    exact ⟨State.settleEst_free free, fun q => Bool.eq_false_iff.2 (mt State.settleEst_pending.1 (none_marked q))⟩
  · exact State.close_begins free hq low

end Sys2Proof.Proofs
end

section
/-! PROOF. The frames for the host of an offer: OFFER (OffersAreTakenOrDeclined), and CONNECT, WITHDRAW and RELEASE
(ConnectsAndReleasesReachTheGuest). -/

namespace Sys2Proof.Claims

open Machine State

variable {s k : State} {f : RxFrame} {x : Station} {tag : Tag} {j : Junctor} {o : OfferData} {g : GuestNo} {r : GuestRec}
  {p : Position}

/-! ## The rows -/

theorem exec_offer (h : Delivers s .offer f x (.offer o)) :
    exec (.offer f) s = .next (((heard s f).takeOffer x o).close s) := by
  change Host.Outcome.next (s.frameReceived _ _ _) = _
  rw [frameReceived_delivers h, deliver]

theorem exec_connect (h : Delivers s .connect f x (.connect tag j)) :
    exec (.connect f) s = .next (((heard s f).takeConnect x tag j).close s) := by
  change Host.Outcome.next (s.frameReceived _ _ _) = _
  rw [frameReceived_delivers h, deliver]

theorem exec_withdraw (h : Delivers s .withdraw f x (.withdraw tag)) :
    exec (.withdraw f) s = .next (((heard s f).takeWithdraw x tag).close s) := by
  change Host.Outcome.next (s.frameReceived _ _ _) = _
  rw [frameReceived_delivers h, deliver]

theorem exec_releaseCallerGone (h : Delivers s .release f x (.release tag .callerGone)) :
    exec (.releaseCallerGone f) s = .next (((heard s f).takeWithdraw x tag).close s) := by
  change Host.Outcome.next (s.frameReceived _ _ _) = _
  rw [frameReceived_delivers h, deliver]

theorem exec_releaseTooLate (h : Delivers s .release f x (.release tag .tooLate)) :
    exec (.releaseTooLate f) s = .next (((heard s f).takeWithdraw x tag).close s) := by
  change Host.Outcome.next (s.frameReceived _ _ _) = _
  rw [frameReceived_delivers h, deliver]

/-! ## The guest that a frame names -/

theorem only_setGuest (s : State) (g : GuestNo) (r : Option GuestRec) : Only { guests := [g] } s (s.setGuest g r) := by
  simp +contextual [Only, getElem_set_other]

theorem guestNamed_inUse (h : s.guestNamed x tag = some g) : ∃ r, s.ofu.guests[g] = some r := by
  have named := List.find?_some h
  cases hr : s.ofu.guests[g] with
  | none => simp [hr] at named
  | some r => exact ⟨r, rfl⟩

/-! ## A guest is freed and released (R64, R176) -/

theorem freeGuest_guestFreed (hr : s.ofu.guests[g] = some r) : GuestFreed s (s.freeGuest g) g r := by
  unfold GuestFreed freeGuest
  simp only [hr]
  cases s.duty r.agent with
  | none => exact takePending_tookPending _ r.agent
  | some d =>
    cases d with
    | talking bound => cases r.phase <;> exact openWrap_wrapOpened _ r.agent r.queue _
    | _ => exact takePending_tookPending _ r.agent

theorem releaseGuest_guestReleased (before : State) (hr : s.ofu.guests[g] = some r) :
    GuestReleased s (s.releaseGuest before g) before g := by
  have released : s.releaseGuest before g = (s.freeGuest g).reportAgent before r.agent (before.guestEndCause r.agent) := by
    simp only [releaseGuest, hr]
  rw [released]
  exact ⟨r, hr, _, freeGuest_guestFreed hr, reportAgent_reported _ before r.agent _⟩

theorem freeGuest_guests (hr : s.ofu.guests[g] = some r) : (s.freeGuest g).ofu.guests = s.ofu.guests.set g none := by
  simp only [freeGuest, hr]
  cases s.duty r.agent with
  | none => simp
  | some d =>
    cases d with
    | talking bound => cases r.phase <;> simp
    | _ => simp

theorem freeGuest_now_items (s : State) (g : GuestNo) :
    (s.freeGuest g).now = s.now ∧ (s.freeGuest g).items = s.items := by
  simp [now, items]

theorem releaseGuest_guest_other (before : State) {h : GuestNo} (other : g ≠ h) :
    (s.releaseGuest before h).ofu.guests[g] = s.ofu.guests[g] := by
  unfold releaseGuest
  split
  next => rfl
  next hr => simp [freeGuest_guests hr, getElem_set_other _ _ other]

theorem releaseGuests_guest_other (before : State) (l : List GuestNo) (fresh : g ∉ l) :
    (l.foldl (fun u h => u.releaseGuest before h) s).ofu.guests[g] = s.ofu.guests[g] := by
  induction l generalizing s with
  | nil => rfl
  | cons h l ih =>
    obtain ⟨here, later⟩ := List.ne_and_not_mem_of_not_mem_cons fresh
    exact (ih later).trans (releaseGuest_guest_other before here)

/-- Guests released one after another: the release of one leaves the records of the others in use. -/
theorem releaseGuests_chain (before : State) (l : List GuestNo) (nodup : l.Nodup)
    (inUse : ∀ h ∈ l, s.ofu.guests[h] ≠ none) :
    Chain (fun h u w => GuestReleased u w before h) l s (l.foldl (fun u h => u.releaseGuest before h) s) := by
  induction l generalizing s with
  | nil => rfl
  | cons h l ih =>
    obtain ⟨fresh, nodup⟩ := List.nodup_cons.1 nodup
    obtain ⟨r, hr⟩ := Option.ne_none_iff_exists'.1 (inUse h List.mem_cons_self)
    refine ⟨_, releaseGuest_guestReleased before hr, ih nodup fun i hi => ?_⟩
    have other : i ≠ h := ne_of_mem_of_not_mem hi fresh
    exact ne_of_eq_of_ne (releaseGuest_guest_other before other) (inUse i (List.mem_cons_of_mem h hi))

/-! ## OFFER (R177) -/

/-- A chosen agent is RESERVED for the guest record `r` in `g`, with a frame to the origin (R63). -/
theorem reserve_writes (u : State) (p : Position) (g : GuestNo) (r : GuestRec) (x : Station) (c : Payload) :
    let l := (((u.leaveIdle p).setDuty p (.reserved g)).setGuest g (some r)).give x c
    l.ofu.guests[g] = some r ∧ l.dsu.agents[p] = onDuty u.dsu.agents[p] (.reserved g) ∧
      l.dsu.idleList = u.dsu.idleList.erase p ∧
      Only { guests := [g], agents := [p], idleList := true, frames := [(x, c)] } u l := by
  refine ⟨by simp, by simp [setDuty, onDuty, leaveIdle], by simp [leaveIdle, setDuty], ?_⟩
  exact ((((only_leaveIdle u p).trans (only_setDuty _ p _)).trans (only_setGuest _ g _)).trans (only_give _ x c)).mono
    (by constructor <;> simp [Change.and])

end Sys2Proof.Claims

namespace Sys2Proof.Machine.State

open Claims

variable {s k : State} {x : Station} {o : OfferData} {g : GuestNo} {r : GuestRec}

/-- What an OFFER is answered with, once no stale guest is left: DECLINE or TAKE (R177). -/
def answerOffer (k : State) (x : Station) (o : OfferData) : State :=
  match k.declineReason o.queue with
  | some r => k.give x (.decline o.tag r)
  | none => k.hostOffer x o

theorem takeOffer_fresh (h : s.guestNamed x o.tag = none) : s.takeOffer x o = s.answerOffer x o := by
  simp only [takeOffer, h, Option.bind_none]
  rfl

theorem takeOffer_stale (h : s.guestNamed x o.tag = some g) (hr : s.ofu.guests[g] = some r) :
    s.takeOffer x o = ((s.freeGuest g).answerOffer x o).reportAgent s r.agent (s.guestEndCause r.agent) := by
  simp only [takeOffer, h, Option.bind_some, hr]
  rfl

theorem answerOffer_declined {reason : DeclineReason} (h : k.declineReason o.queue = some reason) :
    k.answerOffer x o = k.give x (.decline o.tag reason) := by
  simp only [answerOffer, h]

theorem answerOffer_hosted (h : k.declineReason o.queue = none) : k.answerOffer x o = k.hostOffer x o := by
  simp only [answerOffer, h]

/-- The first reason to decline that applies (R177). -/
theorem declineReason_hosts (staffed : k.staffedCount o.queue ≠ 0) (room : ¬k.items.guestLimit ≤ k.guestsInUse)
    (idle : k.idleSet o.queue ≠ []) : k.declineReason o.queue = none := by
  simp [declineReason, staffed, room, idle]

theorem freeGuestRecord_iff : k.freeGuestRecord = some g ↔ k.ofu.guests[g] = none ∧ ∀ h < g, k.ofu.guests[h] ≠ none := by
  simp [freeGuestRecord, find?_finRange_iff, Option.isSome_iff_ne_none]

theorem hostOffer_eq {p : Position} {chosen : State} (free : k.freeGuestRecord = some g)
    (choice : k.chooseAgent o.queue = some (p, chosen)) :
    k.hostOffer x o = (((chosen.leaveIdle p).setDuty p (.reserved g)).setGuest g (some
      ⟨.waitConnect (deadline k.now k.items.connectLimit), x, o.tag, o.junctor, o.queue, o.priority, o.programme, o.waited,
        p⟩)).give x (.take o.tag o.junctor) := by
  simp only [hostOffer, free, choice]

/-- The choice of an agent leaves the agents and the idle list. -/
theorem chooseAgent_agents {q : QueueNo} {p : Position} {chosen : State} (h : k.chooseAgent q = some (p, chosen)) :
    chosen.dsu.agents = k.dsu.agents ∧ chosen.dsu.idleList = k.dsu.idleList := by
  obtain ⟨-, rfl | rfl⟩ := chooseAgent_cases _ h
  · exact ⟨rfl, rfl⟩
  · exact ⟨rfl, rfl⟩

/-! ## CONNECT (R178) -/

theorem connectMatch_some {tag : Tag} {d : Stamp} (h : s.guestNamed x tag = some g) (hr : s.ofu.guests[g] = some r)
    (hp : r.phase = .waitConnect d) : s.connectMatch x tag r.junctor = some g := by
  obtain ⟨phase⟩ := r
  cases hp
  simp only [connectMatch, h, hr, if_true]

theorem connectMatch_none {tag : Tag} {j : Junctor}
    (h : ∀ g r d, s.guestNamed x tag = some g → s.ofu.guests[g] = some r → r.phase = .waitConnect d → r.junctor ≠ j) :
    s.connectMatch x tag j = none := by
  unfold connectMatch
  split
  next => rfl
  next g named =>
    split
    next hr => exact if_neg (h g _ _ named hr rfl)
    next => rfl

theorem guestHolds_eq (s : State) (x : Station) (j : Junctor) (g : GuestNo) :
    s.guestHolds x j g = match s.ofu.guests[g] with
      | some q => q.origin == x && q.junctor == j && (q.phase == .alerting || q.phase.answer.isSome)
      | none => false := by
  unfold guestHolds
  cases s.ofu.guests[g] with
  | none => rfl
  | some q => cases hp : q.phase <;> simp [hp, GuestPhase.answer]

theorem guestHolds_inUse {j : Junctor} (h : s.guestHolds x j g = true) : s.ofu.guests[g] ≠ none := by
  intro free
  simp [guestHolds, free] at h

theorem connectGuest_eq (hr : s.ofu.guests[g] = some r) :
    s.connectGuest g = (s.setGuest g (some { r with phase := .alerting })).ringAgent r.agent (.guest g) := by
  simp only [connectGuest, hr]

/-- The other guests that hold the junctor of a CONNECT (R178). -/
def displaced (s : State) (x : Station) (j : Junctor) (g : GuestNo) : List GuestNo :=
  (List.finRange 16).filter fun h => h != g && s.guestHolds x j h

theorem displaced_nodup (s : State) (x : Station) (j : Junctor) (g : GuestNo) : (s.displaced x j g).Nodup :=
  (List.nodup_finRange 16).filter _

theorem displaced_inUse {j : Junctor} {h : GuestNo} (hh : h ∈ s.displaced x j g) : s.ofu.guests[h] ≠ none := by
  obtain ⟨-, other_holds⟩ := List.mem_filter.1 hh
  obtain ⟨-, holds⟩ := Bool.and_eq_true_iff.1 other_holds
  exact guestHolds_inUse holds

theorem displaced_fresh {j : Junctor} : g ∉ s.displaced x j g := by
  simp [displaced]

theorem displaced_eq (s : State) (x : Station) (j : Junctor) (g : GuestNo) :
    s.displaced x j g = (List.finRange 16).filter fun h =>
      h != g &&
        match s.ofu.guests[h] with
        | some q => q.origin == x && q.junctor == j && (q.phase == .alerting || q.phase.answer.isSome)
        | none => false :=
  List.filter_congr fun h _ => by rw [guestHolds_eq]

/-- The displaced guests are released, in record order, in an event that begins in `s`. -/
def displace (s : State) (x : Station) (j : Junctor) (g : GuestNo) : State :=
  (s.displaced x j g).foldl (fun u h => u.releaseGuest s h) s

theorem displace_chain (s : State) (x : Station) (j : Junctor) (g : GuestNo) :
    Chain (fun h u w => GuestReleased u w s h)
      ((List.finRange 16).filter fun h =>
        h != g &&
          match s.ofu.guests[h] with
          | some q => q.origin == x && q.junctor == j && (q.phase == .alerting || q.phase.answer.isSome)
          | none => false)
      s (s.displace x j g) :=
  displaced_eq s x j g ▸ releaseGuests_chain s _ (displaced_nodup s x j g) fun _ => displaced_inUse

theorem displace_guest (s : State) (x : Station) (j : Junctor) (g : GuestNo) :
    (s.displace x j g).ofu.guests[g] = s.ofu.guests[g] :=
  releaseGuests_guest_other s _ displaced_fresh

theorem displace_now_items (s : State) (x : Station) (j : Junctor) (g : GuestNo) :
    (s.displace x j g).now = s.now ∧ (s.displace x j g).items = s.items := by
  simp [now, items, displace]

theorem takeConnect_match {tag : Tag} {d : Stamp} (h : s.guestNamed x tag = some g) (hr : s.ofu.guests[g] = some r)
    (hp : r.phase = .waitConnect d) :
    s.takeConnect x tag r.junctor = (s.displace x r.junctor g).connectGuest g := by
  simp only [takeConnect, connectMatch_some h hr hp]
  rfl

theorem takeConnect_other {tag : Tag} {j : Junctor}
    (h : ∀ g r d, s.guestNamed x tag = some g → s.ofu.guests[g] = some r → r.phase = .waitConnect d → r.junctor ≠ j) :
    s.takeConnect x tag j = s.give x (.bounce tag .tooLate) := by
  simp only [takeConnect, connectMatch_none h]

theorem takeWithdraw_named {tag : Tag} (h : s.guestNamed x tag = some g) : s.takeWithdraw x tag = s.releaseGuest s g := by
  simp only [takeWithdraw, h]

theorem takeWithdraw_unnamed {tag : Tag} (h : s.guestNamed x tag = none) : s.takeWithdraw x tag = s := by
  simp only [takeWithdraw, h]

end Sys2Proof.Machine.State

namespace Sys2Proof.Claims

open Machine State

variable {s k : State} {x : Station} {o : OfferData} {g : GuestNo} {r : GuestRec}

/-- `k` answers the offer `o` of `x` and goes to `l`, its connect deadline `d`: declined with the first reason that applies,
or a guest is taken (R177). -/
def OfferAnswered (k l : State) (x : Station) (o : OfferData) (d : Stamp) : Prop :=
  let declined := fun reason => l = k.give x (.decline o.tag reason)
  if k.staffedCount o.queue = 0 then declined .notServed
  else if k.items.guestLimit ≤ k.guestsInUse then declined .noRoom
  else if k.idleSet o.queue = [] then declined .noAgent
  else
    ∀ (g : GuestNo) (p : Position) (chosen : State),
      k.ofu.guests[g] = none → (∀ h < g, k.ofu.guests[h] ≠ none) → k.chooseAgent o.queue = some (p, chosen) →
      l.ofu.guests[g] =
        some ⟨.waitConnect d, x, o.tag, o.junctor, o.queue, o.priority, o.programme, o.waited, p⟩ ∧
      l.dsu.agents[p] = onDuty k.dsu.agents[p] (.reserved g) ∧
      l.dsu.idleList = k.dsu.idleList.erase p ∧
      Only { guests := [g], agents := [p], idleList := true, frames := [(x, .take o.tag o.junctor)] } chosen l

theorem answerOffer_offerAnswered (k : State) (x : Station) (o : OfferData) :
    OfferAnswered k (k.answerOffer x o) x o (deadline k.now k.items.connectLimit) := by
  unfold OfferAnswered
  intro declined
  split
  next unstaffed => exact answerOffer_declined (if_pos unstaffed)
  next staffed =>
    split
    next full => exact answerOffer_declined ((if_neg staffed).trans (if_pos full))
    next room =>
      split
      next busy => exact answerOffer_declined (by simp [declineReason, staffed, room, busy])
      next idle =>
        intro g p chosen free low choice
        have hosted := hostOffer_eq (x := x) (freeGuestRecord_iff.2 ⟨free, low⟩) choice
        obtain ⟨agents, idleList⟩ := chooseAgent_agents choice
        rw [answerOffer_hosted (declineReason_hosts staffed room idle), hosted, ← agents, ← idleList]
        exact reserve_writes chosen p g _ x _

/-- A guest rung: ALERTING with its agent (R63, R178). -/
theorem connectGuest_writes (hr : k.ofu.guests[g] = some r) :
    (k.connectGuest g).ofu.guests[g] = some { r with phase := .alerting } ∧
      (k.connectGuest g).dsu.agents[r.agent] =
        onDuty k.dsu.agents[r.agent] (.alerting (.guest g) (deadline k.now k.items.ringLimit)) ∧
      (k.connectGuest g).dsu.idleList = k.dsu.idleList.erase r.agent ∧
      Only { guests := [g], agents := [r.agent], idleList := true, orders := [.ring r.agent] } k (k.connectGuest g) := by
  rw [connectGuest_eq hr]
  refine ⟨by simp, by simp [onDuty, now, items], by simp [ringAgent, leaveIdle, setDuty], ?_⟩
  exact ((only_setGuest k g _).trans (only_ringAgent _ r.agent _)).mono (by constructor <;> simp [Change.and])

end Sys2Proof.Claims

namespace Sys2Proof.Proofs

open Machine Claims State

/-- Settles O49: the stale guest is freed by `freeGuest_guestFreed`, and what is left answers the offer. -/
theorem offersAreTakenOrDeclined : Obligations.OffersAreTakenOrDeclined := by
  intro s f x o delivered m stale
  have row : exec (.offer f) s = .next ((m.takeOffer x o).close s) := exec_offer delivered
  cases named : stale with
  | none =>
    have taken : m.takeOffer x o = m.answerOffer x o := State.takeOffer_fresh named
    exact ⟨m, _, _, rfl, answerOffer_offerAnswered m x o, rfl, taken ▸ row⟩
  | some g =>
    obtain ⟨r, hr⟩ := guestNamed_inUse named
    have taken : m.takeOffer x o = ((m.freeGuest g).answerOffer x o).reportAgent m r.agent (m.guestEndCause r.agent) :=
      State.takeOffer_stale named hr
    have answered := answerOffer_offerAnswered (m.freeGuest g) x o
    obtain ⟨now_kept, items_kept⟩ := freeGuest_now_items m g
    rw [now_kept, items_kept] at answered
    exact ⟨_, _, _, ⟨r, hr, freeGuest_guestFreed hr⟩, answered, ⟨r, hr, reportAgent_reported _ m r.agent _⟩, taken ▸ row⟩

/-- Settles O51: the displaced guests are released one by one, each still in use, and the matched guest is rung. -/
theorem connectsAndReleasesReachTheGuest : Obligations.ConnectsAndReleasesReachTheGuest := by
  refine ⟨fun s f x tag j delivered => ?_, fun s f x tag c delivered => ?_⟩
  · intro m
    have row : exec (.connect f) s = .next ((m.takeConnect x tag j).close s) := exec_connect delivered
    refine ⟨?_, fun unmatched => ?_⟩
    · rintro g r d named hr hp rfl
      have taken : m.takeConnect x tag r.junctor = (m.displace x r.junctor g).connectGuest g :=
        State.takeConnect_match named hr hp
      have guest : (m.displace x r.junctor g).ofu.guests[g] = some r := (displace_guest m x r.junctor g).trans hr
      obtain ⟨now_kept, items_kept⟩ := displace_now_items m x r.junctor g
      obtain ⟨guestRings, agentRings, leaves, only⟩ := connectGuest_writes guest
      rw [now_kept, items_kept] at agentRings
      exact ⟨_, _, displace_chain m x r.junctor g, guestRings, agentRings, leaves, only, taken ▸ row⟩
    · have taken : m.takeConnect x tag j = m.give x (.bounce tag .tooLate) := State.takeConnect_other unmatched
      exact taken ▸ row
  · intro m
    have row : exec c s = .next ((m.takeWithdraw x tag).close s) := by
      obtain ⟨rfl, h⟩ | ⟨rfl, h⟩ | ⟨rfl, h⟩ := delivered
      · exact exec_withdraw h
      · exact exec_releaseCallerGone h
      · exact exec_releaseTooLate h
    refine ⟨fun g named => ?_, fun unnamed => ?_⟩
    · obtain ⟨r, hr⟩ := guestNamed_inUse named
      have taken : m.takeWithdraw x tag = m.releaseGuest m g := State.takeWithdraw_named named
      exact ⟨_, releaseGuest_guestReleased m hr, taken ▸ row⟩
    · have taken : m.takeWithdraw x tag = m := State.takeWithdraw_unnamed unnamed
      exact taken ▸ row

end Sys2Proof.Proofs
end

section
/-! PROOF. The MORE_TIME key (MoreTimeKeyIsTaken) and the two deadlines of a wrap-up (WrapUpDeadlinesEndIt). -/

namespace Sys2Proof.Claims

open Machine State

variable {s : State} {p : Position} {b : Byte} {w : WrapFields}

/-! ## MORE_TIME (R74) -/

theorem exec_moreTimeKey (run : Scanning s) (hp : Names b p) :
    exec (.moreTimeKey b) s = .next ((s.keyMoreTime p).close s) :=
  congrArg _ (scanReceiveAll_key run hp .moreTime)

theorem clearPendingReady_eq (x : PendingAction) : clearPendingReady x = if x = .ready then .none else x := by
  cases x <;> rfl

theorem setPendingAction_setDuty (s : State) (p : Position) (d : Duty) (x : PendingAction) :
    (s.setDuty p d).setPendingAction p x = s.setAgent p { onDuty s.dsu.agents[p] d with pendingAction := x } := by
  simp [setDuty, setPendingAction, setAgent, onDuty]

theorem keyMoreTime_extends (hd : s.duty p = some (.wrapup w)) (left : w.extensions ≤ 1) :
    s.keyMoreTime p = s.setAgent p
      { onDuty s.dsu.agents[p] (.wrapup
          { w with wrapEnd := deadline w.wrapEnd (s.queueItems w.queue).wrapExt, extensions := w.extensions + 1 })
        with pendingAction := if s.dsu.agents[p].pendingAction = .ready then .none else s.dsu.agents[p].pendingAction } := by
  simp only [keyMoreTime, hd, if_pos (Nat.lt_succ_of_le left), setPendingAction_setDuty, clearPendingReady_eq]

theorem keyMoreTime_exhausted (hd : s.duty p = some (.wrapup w)) (spent : ¬w.extensions ≤ 1) :
    s.keyMoreTime p = s.refuseKey p := by
  simp only [keyMoreTime, hd, if_neg (mt Nat.le_of_lt_succ spent)]

/-! ## When a deadline of the wrap-up is reached (R69, R72) -/

theorem readyAtMinReached_iff (hd : s.duty p = some (.wrapup w)) :
    s.readyAtMinReached p = true ↔
      s.dsu.agents[p].pendingAction = .ready ∧ elapsed w.start w.minEnd ≤ elapsed w.start s.now := by
  simp only [readyAtMinReached, hd, minReached, Bool.and_eq_true, beq_iff_eq, decide_eq_true_eq]

theorem wrapExpiryReached_iff (hd : s.duty p = some (.wrapup w)) :
    s.wrapExpiryReached p = true ↔
      ¬s.readyAtMinReached p = true ∧ elapsed w.start w.wrapEnd ≤ elapsed w.start s.now := by
  simp only [wrapExpiryReached, hd, wrapReached, Bool.and_eq_true, Bool.not_eq_true', Bool.not_eq_true, decide_eq_true_eq]

/-- Each of the two deadlines belongs to a wrap-up. -/
theorem wrapup_of_reached (h : s.readyAtMinReached p = true ∨ s.wrapExpiryReached p = true) :
    ∃ w, s.duty p = some (.wrapup w) := by
  unfold readyAtMinReached wrapExpiryReached at h
  split at h
  next w hd => exact ⟨w, hd⟩
  next => simp at h

/-! ## The rows of the two deadlines -/

theorem exec_readyAtMin_reached (hd : s.duty p = some (.wrapup w)) (reached : s.readyAtMinReached p = true) :
    exec (.readyAtMin p) s = .next (((s.endWrap p w .readyAtMin .ready).reportAgent s p .wrapEnd).close s) := by
  have ended : s.readyAtMin p = (s.endWrap p w .readyAtMin .ready).reportAgent s p .wrapEnd := by
    simp only [readyAtMin, hd]
  rw [← ended]
  exact congrArg _ (if_pos reached)

theorem exec_readyAtMin_early (early : ¬s.readyAtMinReached p = true) : exec (.readyAtMin p) s = .next s :=
  congrArg _ (if_neg early)

theorem exec_wrapExpiry_reached (hd : s.duty p = some (.wrapup w)) (reached : s.wrapExpiryReached p = true) :
    exec (.wrapExpiry p) s = .next
      (((s.endWrap p w .expiry (expiryDestination s.dsu.agents[p])).reportAgent s p .wrapEnd).close s) := by
  have ended : s.wrapExpiry p = (s.endWrap p w .expiry (expiryDestination s.dsu.agents[p])).reportAgent s p .wrapEnd := by
    simp only [wrapExpiry, hd]
  rw [← ended]
  exact congrArg _ (if_pos reached)

theorem exec_wrapExpiry_early (early : ¬s.wrapExpiryReached p = true) : exec (.wrapExpiry p) s = .next s :=
  congrArg _ (if_neg early)

/-! ## The destination at expiry (TABLE 4-3) -/

section
variable {a : AgentRec}

theorem expiryDestination_signOff (h : a.pendingAction = .signOff) : expiryDestination a = .signedOff := by
  simp only [expiryDestination, h]

theorem expiryDestination_notReady (h : a.pendingAction = .notReady) : expiryDestination a = .notReady := by
  simp only [expiryDestination, h]

theorem expiryDestination_present (h : a.pendingAction = .none) (on_head : a.headset = .present) :
    expiryDestination a = .ready := by
  simp only [expiryDestination, h, if_pos on_head]

end

end Sys2Proof.Claims

namespace Sys2Proof.Proofs

open Machine Claims

/-- Settles O29: in WRAPUP by `keyMoreTime_extends` or `keyMoreTime_exhausted`; every other duty refuses the key. -/
theorem moreTimeKeyIsTaken : Obligations.MoreTimeKeyIsTaken := by
  intro s b p run hp a refused
  have row := exec_moreTimeKey run hp
  have refuses (h : s.keyMoreTime p = s.refuseKey p) : refused := row.trans (by rw [h]; rfl)
  cases hd : s.duty p with
  | none => exact refuses (by simp only [State.keyMoreTime, hd])
  | some d =>
    cases d with
    | wrapup w =>
      by_cases left : w.extensions ≤ 1
      · simp only [if_pos left]
        exact keyMoreTime_extends hd left ▸ row
      · simp only [if_neg left]
        exact refuses (keyMoreTime_exhausted hd left)
    | _ => exact refuses (by simp only [State.keyMoreTime, hd])

/-- Settles O31: a wrap-up ends by `endWrap_wrapEnded` at either deadline; any other duty holds none. -/
theorem wrapUpDeadlinesEndIt : Obligations.WrapUpDeadlinesEndIt := by
  intro s p a
  have idle (h : ∀ w, s.duty p ≠ some (.wrapup w)) :
      exec (.readyAtMin p) s = .next s ∧ exec (.wrapExpiry p) s = .next s := by
    have none_reached : ¬(s.readyAtMinReached p = true ∨ s.wrapExpiryReached p = true) := fun reached =>
      (wrapup_of_reached reached).elim h
    exact ⟨exec_readyAtMin_early (mt .inl none_reached), exec_wrapExpiry_early (mt .inr none_reached)⟩
  cases hd : s.duty p with
  | none => exact idle (by simp [hd])
  | some d =>
    cases d with
    | wrapup w =>
      have min_iff := readyAtMinReached_iff hd
      have end_iff := wrapExpiryReached_iff hd
      rw [min_iff] at end_iff
      refine ⟨fun h => ?_, fun h => exec_readyAtMin_early (mt min_iff.1 h), fun h => ?_,
        fun h => exec_wrapExpiry_early (mt end_iff.1 h)⟩
      · exact ⟨_, _, endWrap_wrapEnded s p w .readyAtMin .ready, reportAgent_reported _ s p .wrapEnd,
          exec_readyAtMin_reached hd (min_iff.2 h)⟩
      · exact ⟨_, _, _, endWrap_wrapEnded s p w .expiry _, reportAgent_reported _ s p .wrapEnd,
          exec_wrapExpiry_reached hd (end_iff.2 h), expiryDestination_signOff, expiryDestination_notReady,
          expiryDestination_present⟩
    | _ => exact idle (by simp [hd])

end Sys2Proof.Proofs
end

section
/-! PROOF. The handle sample, the expected wait and its band (EstimatesAreComputed). -/

namespace Sys2Proof.Claims

open Machine State

/-! ## The handle sample (R85) -/

/-- An eighth of the difference, rounded, is at most the difference: a sample does not carry AHT16 past it. -/
theorem smoothed_between (old n : Nat) : min old (16 * n) ≤ smoothed old n ∧ smoothed old n ≤ max old (16 * n) := by
  unfold smoothed
  split
  next up => omega
  next down => omega

theorem sample_rec (s : State) (q : QueueNo) (n : Nat) :
    (s.sample q n).est.recs[q] =
      { s.est.recs[q] with aht16 := smoothed s.est.recs[q].aht16 n, pendingFlag := true } :=
  Vector.getElem_set_self q.isLt

theorem only_sample (s : State) (q : QueueNo) (n : Nat) : Only { estimates := [q] } s (s.sample q n) := only_setEst s q _

/-! ## Waits and bands (R94, R95) -/

variable {s : State} {q : QueueNo} (p : Nat)

theorem expectedWait_unpublished (h : s.est.recs[q].nUsed = 0) : s.expectedWait q p = 65535 := if_pos h

theorem band_unpublished (h : s.est.recs[q].nUsed = 0) : s.band q p = 7 := if_pos h

theorem expectedWait_published (h : s.est.recs[q].nUsed ≠ 0) :
    s.expectedWait q p = min ((p * s.est.recs[q].step + 4095) / 4096) 65535 := if_neg h

theorem band_published (h : s.est.recs[q].nUsed ≠ 0) : s.band q p = min (s.expectedWait q p / s.items.bandWidth) 7 :=
  if_neg h

/-- The wait is the least whole number that 4096 times reaches the product, or the limit where that is less. -/
theorem wait_rounded_up (n : Nat) :
    let w := min ((n + 4095) / 4096) 65535
    (n ≤ 4096 * w ∨ w = 65535) ∧ w ≤ 65535 ∧ (w = 0 ∨ 4096 * (w - 1) < n) := by
  omega

/-- A quotient rounded down and limited. -/
theorem floor_limited (w d limit : Nat) (hd : 0 < d) :
    let b := min (w / d) limit
    b ≤ limit ∧ d * b ≤ w ∧ (b = limit ∨ w < d * (b + 1)) := by
  have below : d * min (w / d) limit ≤ w := (Nat.mul_le_mul_left d (Nat.min_le_left _ _)).trans (Nat.mul_div_le w d)
  refine ⟨Nat.min_le_right _ _, below, ?_⟩
  rcases Nat.le_total limit (w / d) with high | low
  · exact .inl (Nat.min_eq_right high)
  · rw [Nat.min_eq_left low]
    exact .inr (Nat.lt_mul_div_succ w hd)

end Sys2Proof.Claims

namespace Sys2Proof.Proofs

open Machine Claims

/-- Settles O38: the sample by `smoothed_spec` and `smoothed_between`, wait and band as limited quotients. -/
theorem estimatesAreComputed : Obligations.EstimatesAreComputed := by
  refine ⟨fun s q n => ?_, fun s q p => ⟨fun unpublished => ?_, fun published => ?_⟩⟩
  · have record := sample_rec s q n
    obtain ⟨above, below⟩ := smoothed_between s.est.recs[q].aht16 n
    simp only [record]
    exact ⟨smoothed_spec _ n, above, below, trivial, only_sample s q n⟩
  · exact ⟨expectedWait_unpublished p unpublished, band_unpublished p unpublished⟩
  · obtain ⟨reached, limited, least⟩ := wait_rounded_up (p * s.est.recs[q].step)
    simp only [band_published p published]
    simp only [expectedWait_published p published]
    exact ⟨reached, limited, least, floor_limited _ _ 7⟩

end Sys2Proof.Proofs
end

section
/-! PROOF. What the close of an event writes, and that it writes the map and ATTN alone where the event has left what it looks
at (CloseWritesNothingElse). -/

namespace Sys2Proof.Machine.State

variable {s v : State}

/-! ## What each part of the close writes -/

theorem abandonStale_writes (v : State) : ∃ e, v.abandonStale = { v with est := e } := by
  unfold abandonStale
  split
  next => exact ⟨_, rfl⟩
  next =>
    simp only
    split
    next => exact ⟨_, rfl⟩
    next => exact ⟨_, rfl⟩

theorem beginDivision_writes (v : State) : ∃ e, v.beginDivision = { v with est := e } := by
  unfold beginDivision
  split
  next => exact ⟨_, rfl⟩
  next =>
    split
    next => exact ⟨_, rfl⟩
    next => exact ⟨_, rfl⟩

theorem closeEst_writes (v before : State) : ∃ e, v.closeEst before = { v with est := e } := by
  obtain ⟨recs, marked⟩ := markStaffing_fold v before (List.finRange 8) v
  obtain ⟨e, abandoned⟩ := abandonStale_writes (v.markStaffing before)
  obtain ⟨e', begun⟩ := beginDivision_writes (v.markStaffing before).abandonStale
  refine ⟨e', begun.trans ?_⟩
  rw [abandoned, markStaffing, marked]

theorem askOnCrossing_writes (v before : State) : ∃ c, v.askOnCrossing before = { v with plc := c } := by
  unfold askOnCrossing requestNotice
  split
  next =>
    split
    next => exact ⟨_, rfl⟩
    next => exact ⟨_, rfl⟩
    next => exact ⟨_, rfl⟩
  next => exact ⟨_, rfl⟩

theorem beginAttempt_writes (v : State) : ∃ c, v.beginAttempt = { v with plc := c } := by
  unfold beginAttempt
  split
  next =>
    split
    next => exact ⟨_, rfl⟩
    next =>
      split
      next => exact ⟨_, rfl⟩
      next =>
        split
        next => exact ⟨_, rfl⟩
        next => exact ⟨_, rfl⟩
  next => exact ⟨_, rfl⟩

theorem close_writes (v before : State) :
    v.close before = { v with
      est := (v.close before).est
      plc := (v.close before).plc
      sps := { v.sps with map := (v.close before).sps.map }
      mpi := { v.mpi with attn := (v.close before).mpi.attn } } := by
  obtain ⟨e, estimated⟩ := closeEst_writes v before
  obtain ⟨c, asked⟩ := askOnCrossing_writes (v.closeEst before) before
  obtain ⟨c', begun⟩ := beginAttempt_writes ((v.closeEst before).askOnCrossing before)
  rw [close, begun, asked, estimated]
  rfl

/-- The close of an event leaves ATTN at the level of the state before it, since it writes no report. -/
theorem close_attn (v before : State) : (v.close before).mpi.attn = v.attnLevel := by
  obtain ⟨-, -, -, -, level⟩ := (settled_iff _).1 (close_settled v before)
  rw [level]
  exact attnLevel_congr (by simp) (by simp) (by simp)

theorem attnLevel_iff (v : State) :
    v.attnLevel = true ↔ v.mpi.mode = .run ∧ ∃ r ∈ v.mpi.fifo, v.items.attnEnable.raises r = true := by
  simp [attnLevel, running]

/-! ## An event after which nothing is left to do -/

theorem markStaffing_same {before : State} (h : ∀ q, v.staffedCount q = before.staffedCount q) : v.markStaffing before = v :=
  List.foldl_fixed' (fun q => if_pos (h q)) _

theorem divisionFresh_iff (v : State) : v.divisionFresh = true ↔ ∀ d, v.est.inFlight = some d → ¬v.Overtaken d := by
  unfold divisionFresh
  cases h : v.est.inFlight with
  | none => simp
  | some d => simp [Overtaken]

theorem beginDivision_of_dividerBusy (h : v.dividerBusy = true) : v.beginDivision = v := by
  cases free : v.est.inFlight with
  | some d => exact beginDivision_busy free
  | none =>
    have none_pending : ∀ k : QueueNo, v.est.recs[k].pendingFlag = false := by simpa [dividerBusy, free] using h
    exact beginDivision_idle free none_pending

/-- The EST has nothing to do where no staffed count has changed, the division is fresh and the divider busy. -/
theorem closeEst_same {before : State} (staffing : ∀ q, v.staffedCount q = before.staffedCount q)
    (fresh : v.divisionFresh = true) (busy : v.dividerBusy = true) : v.closeEst before = v := by
  rw [closeEst, markStaffing_same staffing, abandonStale_stays ((divisionFresh_iff v).1 fresh),
    beginDivision_of_dividerBusy busy]

theorem askOnCrossing_same {before : State} (idle : ∀ q, v.idleSet q = before.idleSet q) (room : v.room = before.room) :
    v.askOnCrossing before = v := by
  have none_crossed : v.crossed before = false := by simp [crossed, idle, room]
  rw [askOnCrossing, none_crossed, if_neg Bool.false_ne_true]

/-- What of the state the close looks at, beside the records that the map and ATTN follow, is as it was. -/
structure LeavesForClose (s v : State) : Prop where
  est : v.est = s.est
  plc : v.plc = s.plc
  staffed : ∀ q p, v.staffed q p = s.staffed q p
  idle : ∀ q p, v.idle q p = s.idle q p
  guests : v.guestsInUse = s.guestsInUse
  clk : v.clk = s.clk
  mode : v.mpi.mode = s.mpi.mode
  station : v.mpi.station = s.mpi.station
  image : v.mpi.image = s.mpi.image

namespace LeavesForClose

variable (h : LeavesForClose s v)
include h

theorem staffedCount (q : QueueNo) : v.staffedCount q = s.staffedCount q := by
  rw [State.staffedCount, funext (h.staffed q), State.staffedCount]

theorem idleSet (q : QueueNo) : v.idleSet q = s.idleSet q := by
  rw [State.idleSet, funext (h.idle q), State.idleSet]

theorem room : v.room = s.room := by simp only [State.room, State.items, h.guests, h.image]

theorem busy : v.dividerBusy = s.dividerBusy := by simp only [dividerBusy, h.est]

theorem fresh : v.divisionFresh = s.divisionFresh := by simp only [divisionFresh, h.est, h.staffedCount]

theorem linkWaits : v.linkWaits = s.linkWaits :=
  linkWaits_congr h.plc (congrArg _ h.clk) h.mode h.station

/-- The close of such an event, begun in a settled state, is the refresh of the map and ATTN alone. -/
theorem close_eq_refresh (settled : s.settled = true) : v.close s = v.refresh := by
  obtain ⟨busy, fresh, waits, -, -⟩ := (settled_iff s).1 settled
  rw [close, closeEst_same h.staffedCount (h.fresh.trans fresh) (h.busy.trans busy), askOnCrossing_same h.idleSet h.room,
    beginAttempt_of_linkWaits (h.linkWaits.trans waits)]

end LeavesForClose

end Sys2Proof.Machine.State

namespace Sys2Proof.Proofs

open Machine Claims

/-- Settles O45: each part of the close writes one block, and none has anything to do after an event that leaves what the
close looks at. -/
theorem closeWritesNothingElse : Obligations.CloseWritesNothingElse := by
  intro s v u
  refine ⟨v.close_writes s, ?_, fun settled est plc staffed idle guests clk mode station image => ?_⟩
  · rw [show u.mpi.attn = v.attnLevel from v.close_attn s]
    exact v.attnLevel_iff
  · have leaves : State.LeavesForClose s v := ⟨est, plc, staffed, idle, guests, clk, mode, station, image⟩
    have refreshed : u = v.refresh := leaves.close_eq_refresh settled
    have kept : v.refresh.est = v.est ∧ v.refresh.plc = v.plc := by simp
    exact ⟨(congrArg State.est refreshed).trans (kept.1.trans est), (congrArg State.plc refreshed).trans (kept.2.trans plc)⟩

end Sys2Proof.Proofs
end

section
/-! PROOF. What the entries of each table show (EntriesShowTheRecords). -/

namespace Sys2Proof.Claims

open Machine

/-! ## Rows of a statement as fields of an entry -/

/-- The field of an entry that a place in a row calls for. -/
def fieldOf (e : Nat × Option (List Byte)) : TableField := field e.1 e.2

theorem fieldOf_present (e : Nat × Option (List Byte)) : (fieldOf e).present = e.2.isSome := by
  obtain ⟨n, _ | b⟩ := e <;> rfl

theorem fieldOf_bytes (e : Nat × Option (List Byte)) : (fieldOf e).bytes = e.2.getD (List.replicate e.1 0) := by
  obtain ⟨n, _ | b⟩ := e <;> rfl

/-- Bits by their weights, from the weight `k` on, are the bits taken in by doubling. -/
theorem sum_weights {α : Type} (p : α → Bool) (l : List α) (k : Nat) :
    ((l.zipIdx k).map fun e => if p e.1 then 2 ^ e.2 else 0).sum =
      2 ^ k * l.foldr (fun a n => 2 * n + if p a then 1 else 0) 0 := by
  induction l generalizing k with
  | nil => rfl
  | cons a l ih =>
    rw [List.zipIdx_cons, List.map_cons, List.sum_cons, ih, List.foldr_cons, pow_succ]
    split <;> ring

theorem entryBytes_row (row : List (Nat × Option (List Byte))) : entryBytes (row.map fieldOf) = entryOf row := by
  have mask := sum_weights (fun e : Nat × Option (List Byte) => e.2.isSome) row 0
  rw [pow_zero, Nat.one_mul] at mask
  rw [entryBytes, presenceMask, entryOf, mask, List.foldr_map, List.flatMap_map]
  simp only [fieldOf_present, fieldOf_bytes]

/-- An entry of these fields shows the row. -/
theorem shows_row {s : State} {table : Fin 8} {i : Nat} {row : List (Nat × Option (List Byte))} {fields : List TableField}
    (entry : entryFields s table i = some fields) (h : fields = row.map fieldOf) :
    (entryFields s table i).map entryBytes = some (entryOf row) := by
  rw [entry, h, Option.map_some, entryBytes_row]

/-! ## Codes -/

theorem flagByte_eq (b : Bool) : flagByte b = byte (bit b) := by cases b <;> rfl

theorem headsetValue_eq (h : HeadsetState) : headsetValue h = bit (h == .present) := by cases h <;> rfl

theorem modeCode_eq (s : State) : s.mpi.mode.code = bit s.running := by
  unfold State.running
  cases s.mpi.mode <;> rfl

theorem isMusic_of_low {c : Channel} (h : c.val < 2) : isMusic c = false := decide_eq_false (Nat.not_le.2 h)

theorem isMusic_of_high {c : Channel} (h : ¬c.val < 2) : isMusic c = true := decide_eq_true (Nat.not_lt.1 h)

/-- A field of the music channels alone. -/
theorem ite_isMusic_eq {α : Type} (c : Channel) (v : Option α) :
    (if isMusic c then v else none) = if c.val < 2 then none else v := by
  by_cases low : c.val < 2
  · rw [isMusic_of_low low, if_neg Bool.false_ne_true, if_pos low]
  · rw [isMusic_of_high low, if_pos rfl, if_neg low]

/-- A channel below 2 is an announcement channel (TABLE 13-7). -/
theorem sourceCode_eq (source : Option Channel) :
    sourceCode source =
      match source with
      | none => 255
      | some k => if k.val < 2 then k.val + 4 else k.val - 2 := by
  cases source with
  | none => rfl
  | some k =>
    by_cases low : k.val < 2
    · simp only [sourceCode, isMusic_of_low low, Bool.false_eq_true, if_false, if_pos low]
    · simp only [sourceCode, isMusic_of_high low, if_true, if_neg low]

theorem waitingCode_eq (s : State) (t : Trunk) :
    waitingCode s t = ((s.htu.waiting.find? fun e => e.trunk = t).map (·.clip.val)).getD 255 := by
  unfold waitingCode
  cases s.htu.waiting.find? fun e => e.trunk = t <;> rfl

/-- The marks of the queues by their weights. -/
theorem declineBits_eq (f : QueueNo → Bool) :
    (List.finRange 8).foldr (fun q n => 2 * n + if f q then 1 else 0) 0 =
      ((List.finRange 8).map fun q : QueueNo => if f q then 2 ^ q.val else 0).sum := by
  have weights := sum_weights f (List.finRange 8) 0
  rw [pow_zero, Nat.one_mul] at weights
  exact weights.symm

theorem not_isFrame_eq (e : TxEntry) : (!e.isFrame) = (e.body == .notice) := by
  rw [Bool.eq_iff_iff, Bool.not_eq_true', ← Bool.not_eq_true, TxEntry.isFrame_iff, not_not, beq_iff_eq]

theorem placeholderCode_eq (c : Plc) :
    c.placeholder.code =
      match c.queue.find? fun e => e.body == .notice with
      | none => 0
      | some e => if e.tries = 0 then 1 else 2 := by
  simp only [Plc.placeholder, not_isFrame_eq]
  cases c.queue.find? fun e => e.body == .notice with
  | none => rfl
  | some e =>
    by_cases first : e.tries = 0 <;> simp [first, Placeholder.code]

/-! ## The entries -/

section
variable (s : State)

theorem entryFields_call (t : Trunk) : entryFields s 0 t.val = some (callFields s t) := by
  simp [entryFields, index?_of_lt]

theorem entryFields_agent (p : Position) : entryFields s 1 p.val = some (agentFields s p) := by
  simp [entryFields, index?_of_lt, p.isLt.ne]

theorem entryFields_estimate (q : QueueNo) : entryFields s 2 q.val = some (estimateFields s q) := by
  simp [entryFields, index?_of_lt]

theorem entryFields_channel (c : Channel) : entryFields s 3 c.val = some (channelFields s c) := by
  simp [entryFields, index?_of_lt]

theorem entryFields_junctor (j : Junctor) : entryFields s 4 j.val = some (junctorFields s j) := by
  simp [entryFields, index?_of_lt]

theorem entryFields_guest (g : GuestNo) : entryFields s 5 g.val = some (guestFields s g) := by
  simp [entryFields, index?_of_lt]

theorem entryFields_peer (x : Station) : entryFields s 6 x.val = some (peerFields s x) := by
  simp [entryFields, index?_of_lt]

end

end Sys2Proof.Claims

namespace Sys2Proof.Proofs

open Machine Claims

/-- Settles O58: the fields of each table are those of its row, by the codes of the table, in every state of the record; and
fields of a row are sent as the row by `entryBytes_row`. -/
theorem entriesShowTheRecords : Obligations.EntriesShowTheRecords := by
  intro s shows flag perQueue
  refine ⟨fun t => ?_, fun p => ?_, ?_, fun q => ?_, fun c => ?_, fun j => ?_, fun g => ?_, fun x => ?_, ?_, ?_, ?_, ?_⟩
  · refine shows_row (entryFields_call s t) ?_
    simp only [callFields, sourceCode_eq, waitingCode_eq]
    cases s.call t with
    | none => rfl
    | some b =>
      simp only [Option.map_some]
      cases b.phase <;> rfl
  · refine shows_row (entryFields_agent s p) ?_
    simp only [agentFields, State.duty, headsetValue_eq]
    rcases s.dsu.agents[p] with ⟨_ | ⟨profile, duty⟩, headset, action⟩
    · rfl
    · cases duty <;> rfl
  · exact shows_row (fields := huntFields s) rfl rfl
  · refine shows_row (entryFields_estimate s q) ?_
    simp only [estimateFields, flagByte_eq]
    cases s.est.inFlight <;> rfl
  · refine shows_row (entryFields_channel s c) ?_
    simp only [channelFields, flagByte_eq, ite_isMusic_eq]
    cases s.pbc.channels[c].state with
    | playing x b => cases b <;> rfl
    | _ => rfl
  · refine shows_row (entryFields_junctor s j) ?_
    unfold junctorFields
    cases s.sps.junctors[j] with
    | bound t =>
      simp only
      cases s.call t with
      | none => rfl
      | some b =>
        simp only [Option.bind_some]
        cases b.phase <;> rfl
    | _ => rfl
  · refine shows_row (entryFields_guest s g) ?_
    simp only [guestFields]
    cases s.ofu.guests[g] with
    | none => rfl
    | some r =>
      simp only [Option.map_some]
      cases r.phase <;> rfl
  · refine shows_row (entryFields_peer s x) ?_
    simp only [peerFields, declineBits_eq]
    cases s.pvt.peers[x] <;> rfl
  · refine shows_row (fields := counterFields s 0) rfl ?_
    simp only [counterFields, modeCode_eq]
    rfl
  · exact shows_row (fields := counterFields s 1) rfl rfl
  · exact shows_row (fields := counterFields s 2) rfl rfl
  · refine shows_row (fields := counterFields s 3) rfl ?_
    simp only [counterFields, placeholderCode_eq]
    rfl

end Sys2Proof.Proofs
end

section
/-! PROOF. The grant of the store's port, the entries of a clip that leave the waiting list together, the start of an
announcement, and the start check until no pair is left (ArbiterAndStartCheckAct). -/

namespace Sys2Proof.Machine

/-! ## Which channel requests a fetch (R103) -/

theorem requests_iff (r : ChannelRec) :
    r.requests = true ↔ ∃ x ∈ r.state.run, x.buffer.length < 2 ∧ x.fetching = false ∧ 0 < x.remaining := by
  unfold ChannelRec.requests
  cases r.state.run <;> simp [and_assoc]

theorem loadingClip_iff (r : ChannelRec) (k : Clip) : r.loadingClip = some k ↔ ∃ x, r.state = .loading x ∧ x.clip = k := by
  unfold ChannelRec.loadingClip
  cases r.state <;> simp

/-! ## The announcement channels -/

theorem mem_announcementChannels {k : Channel} : k ∈ announcementChannels ↔ k.val < 2 := by
  revert k
  decide

/-- The first of A0 and A1 is the lower-numbered one. -/
theorem find?_announcementChannels {p : Channel → Bool} {k : Channel} (announcement : k.val < 2) (hk : p k = true)
    (low : ∀ i < k, p i = false) : announcementChannels.find? p = some k := by
  have first_or_second : k = 0 ∨ k = 1 := by simpa [announcementChannels] using mem_announcementChannels.2 announcement
  rcases first_or_second with rfl | rfl
  · exact List.find?_cons_of_pos hk
  · rw [announcementChannels, List.find?_cons_of_neg (by simp [low 0 (by decide)])]
    exact List.find?_cons_of_pos hk

namespace State

variable {s : State} {k : Channel} {clip : Clip}

/-! ## The grant (R104) -/

theorem grant_idle (h : s.pbc.port ≠ none ∨ ∀ k : Channel, s.pbc.channels[k].requests = false) : s.grant = s := by
  unfold grant
  cases port : s.pbc.port with
  | some f => rfl
  | none => rw [find?_finRange_none (h.resolve_left (not_not.2 port))]

theorem grant_first {x : ClipRun} (port : s.pbc.port = none) (asks : s.pbc.channels[k].requests = true)
    (low : ∀ i < k, s.pbc.channels[i].requests = false) (run : s.pbc.channels[k].state.run = some x) :
    s.grant =
      (s.setChannel k
        { s.pbc.channels[k] with state := s.pbc.channels[k].state.withRun { x with fetching := true } }).setPort
        (some ⟨k, s.pbc.channels[k].startNumber, x.page, x.offset⟩) := by
  have first : ((List.finRange 6).find? fun c => s.pbc.channels[c].requests) = some k := find?_finRange_iff.2 ⟨asks, low⟩
  simp only [grant, port, first, run]

/-! ## The entries of a clip leave the waiting list together (R120, R121) -/

theorem mem_waitingFor {t : Trunk} : t ∈ s.waitingFor clip ↔ ⟨t, clip⟩ ∈ s.htu.waiting := by
  simp only [waitingFor, List.mem_map, List.mem_filter, decide_eq_true_eq]
  constructor
  · rintro ⟨e, ⟨listed, rfl⟩, rfl⟩
    exact listed
  · exact fun listed => ⟨_, ⟨listed, rfl⟩, rfl⟩

/-- The calls of some trunks after a change that looks at nothing it writes, and that a second time changes nothing: a trunk
may stand in the list more than once. -/
theorem modifyCalls_get (f : State → CallBody → CallBody) (same : ∀ u t, f (u.modifyCall t (f u)) = f u)
    (twice : ∀ u b, f u (f u b) = f u b) (s : State) (l : List Trunk) (t : Trunk) :
    (l.foldl (fun u t => u.modifyCall t (f u)) s).cqm.calls[t] =
      if t ∈ l then ⟨s.cqm.calls[t].gen, (s.call t).map (f s)⟩ else s.cqm.calls[t] := by
  induction l generalizing s with
  | nil => simp
  | cons a l ih =>
    rw [List.foldl_cons, ih, same]
    by_cases ht : t = a
    · subst ht
      simp [call, Function.comp_def, twice]
    · have other : (s.modifyCall a (f s)).cqm.calls[t] = s.cqm.calls[t] := Claims.getElem_set_other s.cqm.calls _ ht
      simp only [call, other, List.mem_cons, ht, false_or]

theorem refuseClip_calls (s : State) (clip : Clip) (t : Trunk) :
    (s.refuseClip clip).cqm.calls[t] =
      if ⟨t, clip⟩ ∈ s.htu.waiting then
        ⟨s.cqm.calls[t].gen, (s.call t).map fun b => { b with waiting := false, nextDue := s.freshDue b.queue }⟩
      else s.cqm.calls[t] := by
  simp only [← mem_waitingFor]
  exact modifyCalls_get (fun u b => { b with waiting := false, nextDue := u.freshDue b.queue }) (fun _ _ => rfl)
    (fun _ _ => rfl) (s.dropEntries clip) (s.waitingFor clip) t

theorem closeGate_calls (s : State) (k : Channel) (clip : Clip) (t : Trunk) :
    (s.closeGate k clip).cqm.calls[t] =
      if t ∈ s.waitingFor clip then
        ⟨s.cqm.calls[t].gen, (s.call t).map fun b => { b with waiting := false, source := some k }⟩
      else s.cqm.calls[t] :=
  modifyCalls_get (fun _ b => { b with waiting := false, source := some k }) (fun _ _ => rfl) (fun _ _ => rfl)
    (s.dropEntries clip) (s.waitingFor clip) t

theorem refuseClip_waiting (s : State) (clip : Clip) :
    (s.refuseClip clip).htu.waiting = s.htu.waiting.filter fun e => e.clip ≠ clip := by
  simp [refuseClip, dropEntries]

theorem closeGate_waiting (s : State) (k : Channel) (clip : Clip) :
    (s.closeGate k clip).htu.waiting = s.htu.waiting.filter fun e => e.clip ≠ clip := by
  simp [closeGate, dropEntries]

/-! ## The start of an announcement (R102, R120) -/

theorem startAnnouncement_valid (k : Channel) (h : (s.clipEntry clip).valid = true) :
    s.startAnnouncement k clip = s.loadChannel k clip := if_pos h

theorem startAnnouncement_invalid (k : Channel) (h : (s.clipEntry clip).valid = false) :
    s.startAnnouncement k clip = (s.storeFault k clip .invalidClip).refuseClip clip := if_neg (by simp [h])

theorem storeFault_pbc (s : State) (k : Channel) (clip : Clip) (e : StoreFaultCause) :
    (s.storeFault k clip e).pbc =
      { s.pbc with
        channels := s.pbc.channels.set k { s.pbc.channels[k] with faults := satUp 255 s.pbc.channels[k].faults } } := by
  simp [storeFault]

/-! ## The start check (R119) -/

/-- The clip is being loaded by an announcement channel. -/
def loads (s : State) (clip : Clip) : Prop :=
  ∃ k : Channel, k.val < 2 ∧ ∃ x, s.pbc.channels[k].state = .loading x ∧ x.clip = clip

theorem loads_iff :
    (announcementChannels.any fun c => s.pbc.channels[c].loadingClip == some clip) = true ↔ s.loads clip := by
  simp only [List.any_eq_true, beq_iff_eq, loadingClip_iff, mem_announcementChannels, loads]

theorem startable_eq_some {before after : List WaitEntry} {e : WaitEntry} (list : s.htu.waiting = before ++ e :: after)
    (loading : ∀ d ∈ before, s.loads d.clip) (free : ¬ s.loads e.clip) : s.startable = some e := by
  rw [startable, list]
  refine List.find?_eq_some_iff_append.2 ⟨?_, before, after, rfl, fun d hd => ?_⟩
  · simpa [← loads_iff] using free
  · simpa using loads_iff.2 (loading d hd)

theorem startable_eq_none : s.startable = none ↔ ∀ e ∈ s.htu.waiting, s.loads e.clip := by
  simp only [startable, List.find?_eq_none, Bool.not_eq_true', Bool.not_eq_false, loads_iff]

theorem idleAnnouncement_eq_some (announcement : k.val < 2) (idle : s.pbc.channels[k].state = .idle)
    (low : ∀ i < k, s.pbc.channels[i].state ≠ .idle) : s.idleAnnouncement = some k :=
  find?_announcementChannels announcement (beq_iff_eq.2 idle) fun i hi => beq_eq_false_iff_ne.2 (low i hi)

theorem idleAnnouncement_spec (h : s.idleAnnouncement = some k) : k.val < 2 ∧ s.pbc.channels[k].state = .idle :=
  ⟨mem_announcementChannels.1 (List.mem_of_find?_eq_some h), by simpa using List.find?_some (show _ = some k from h)⟩

theorem idleAnnouncement_eq_none (h : s.idleAnnouncement = none) (k : Channel) (announcement : k.val < 2) :
    s.pbc.channels[k].state ≠ .idle := by
  simpa using List.find?_eq_none.1 h k (mem_announcementChannels.2 announcement)

/-- The announcement channels in IDLE. -/
def idleChannels (s : State) : Finset Channel :=
  Finset.univ.filter fun k => k.val < 2 ∧ s.pbc.channels[k].state = .idle

theorem idleChannels_card (s : State) : s.idleChannels.card ≤ 2 := by
  have announcements : (Finset.univ.filter fun k : Channel => k.val < 2).card = 2 := by decide
  rw [← announcements]
  exact Finset.card_le_card fun k hk => by simp_all [idleChannels]

/-- What a turn of the start check uses up: each takes an IDLE channel or an entry. -/
def startsLeft (s : State) : Nat := s.htu.waiting.length + s.idleChannels.card

theorem startsLeft_loadChannel (announcement : k.val < 2) (idle : s.pbc.channels[k].state = .idle) :
    (s.loadChannel k clip).startsLeft < s.startsLeft := by
  have fewer : (s.loadChannel k clip).idleChannels ⊂ s.idleChannels := by
    refine Finset.ssubset_iff_of_subset (fun i hi => ?_) |>.2 ⟨k, ?_, ?_⟩
    · by_cases same : i = k
      · simp [idleChannels, loadChannel, same] at hi
      · simpa [idleChannels, loadChannel, Claims.getElem_set_other _ _ same] using hi
    · exact Finset.mem_filter.2 ⟨Finset.mem_univ k, announcement, idle⟩
    · simp [idleChannels, loadChannel]
  have list : (s.loadChannel k clip).htu = s.htu := by simp
  simpa [startsLeft, list] using Finset.card_lt_card fewer

theorem startsLeft_refused {e : WaitEntry} (listed : e ∈ s.htu.waiting) :
    ((s.storeFault k e.clip .invalidClip).refuseClip e.clip).startsLeft < s.startsLeft := by
  set v := (s.storeFault k e.clip .invalidClip).refuseClip e.clip with hv
  have shorter : v.htu.waiting.length < s.htu.waiting.length := by
    rw [hv, refuseClip_waiting]
    simpa using List.length_filter_lt_length_iff_exists (l := s.htu.waiting) (p := fun d => d.clip ≠ e.clip).2
      ⟨e, listed, by simp⟩
  have same : v.idleChannels = s.idleChannels := by
    refine Finset.filter_congr fun i _ => ?_
    have state : v.pbc.channels[i].state = s.pbc.channels[i].state := by
      simp only [hv, refuseClip_keeps, storeFault_pbc]
      by_cases h : i = k
      · simp [h]
      · simp [Claims.getElem_set_other _ _ h]
    rw [state]
  rw [startsLeft, startsLeft, same]
  omega

theorem startsLeft_startAnnouncement {e : WaitEntry} (listed : e ∈ s.htu.waiting) (h : s.idleAnnouncement = some k) :
    (s.startAnnouncement k e.clip).startsLeft < s.startsLeft := by
  obtain ⟨announcement, idle⟩ := idleAnnouncement_spec h
  cases valid : (s.clipEntry e.clip).valid with
  | true =>
    rw [startAnnouncement_valid k valid]
    exact startsLeft_loadChannel announcement idle
  | false =>
    rw [startAnnouncement_invalid k valid]
    exact startsLeft_refused listed

theorem startCheck_succ {e : WaitEntry} (entry : s.startable = some e) (channel : s.idleAnnouncement = some k) (n : Nat) :
    s.startCheck (n + 1) = (s.startAnnouncement k e.clip).startCheck n := by
  simp only [startCheck, entry, channel]

theorem startCheck_stops (h : s.startable = none ∨ s.idleAnnouncement = none) (n : Nat) : s.startCheck n = s := by
  cases n with
  | zero => rfl
  | succ n =>
    rcases h with entry | channel
    · simp only [startCheck, entry]
    · cases entry : s.startable <;> simp only [startCheck, entry, channel]

/-- With enough fuel the start check goes on until no pair of an entry and a channel is left. -/
theorem startCheck_ends (n : Nat) (s : State) (enough : s.startsLeft ≤ n) :
    (s.startCheck n).startable = none ∨ (s.startCheck n).idleAnnouncement = none := by
  induction n generalizing s with
  | zero =>
    have empty : s.htu.waiting = [] := List.length_eq_zero_iff.1 (by rw [startsLeft] at enough; omega)
    exact .inl (startable_eq_none.2 (by simp [startCheck, empty]))
  | succ n ih =>
    cases entry : s.startable with
    | none => exact .inl (by rwa [startCheck_stops (.inl entry)])
    | some e =>
      cases channel : s.idleAnnouncement with
      | none => exact .inr (by rwa [startCheck_stops (.inr channel)])
      | some k =>
        rw [startCheck_succ entry channel]
        have listed : e ∈ s.htu.waiting := List.mem_of_find?_eq_some entry
        have fewer := startsLeft_startAnnouncement listed channel
        exact ih _ (by omega)

end State
end Sys2Proof.Machine

namespace Sys2Proof.Claims

open Machine State

/-! ## What the operations of the playback may write -/

theorem only_setPort (s : State) (x : Option Fetch) : Only { port := true } s (s.setPort x) := by simp [Only]

theorem only_modifyCalls (f : State → CallBody → CallBody) (s : State) (l : List Trunk) :
    Only { calls := l } s (l.foldl (fun u t => u.modifyCall t (f u)) s) := by
  induction l generalizing s with
  | nil => exact Only.refl s
  | cons a l ih => exact (only_modifyCall s a (f s)).trans (ih _)

theorem only_refuseClip (s : State) (clip : Clip) :
    Only { waiting := true, calls := s.waitingFor clip } s (s.refuseClip clip) :=
  (only_setWaiting s _).trans (only_modifyCalls (fun u b => { b with waiting := false, nextDue := u.freshDue b.queue }) _ _)

theorem only_closeGate (s : State) (k : Channel) (clip : Clip) :
    Only { waiting := true, calls := s.waitingFor clip } s (s.closeGate k clip) :=
  (only_setWaiting s _).trans (only_modifyCalls (fun _ b => { b with waiting := false, source := some k }) _ _)

theorem only_storeFault (s : State) (k : Channel) (clip : Clip) (e : StoreFaultCause) :
    Only { channels := [k], reports := [.storeFault k clip e (min (s.pbc.channels[k].faults + 1) 255)] } s
      (s.storeFault k clip e) :=
  (only_setChannel s k _).trans (only_writeReport _ _)

end Sys2Proof.Claims

namespace Sys2Proof.Proofs

open Machine Claims

/-- Settles O41: the first request has the port; an announcement is loaded or refused; and the start check goes on while an
entry and a channel are left, which is at most once for each of 32 entries and 2 channels. -/
theorem arbiterAndStartCheckAct : Obligations.ArbiterAndStartCheckAct := by
  refine ⟨fun s => ?_, fun s k clip => ?_, fun s => ?_⟩
  · simp only [← requests_iff, Bool.not_eq_true]
    refine ⟨State.grant_idle, fun k x port asks low run => ?_⟩
    rw [State.grant_first port asks low run]
    exact ⟨rfl, by simp, (only_setChannel s k _).trans (only_setPort _ _)⟩
  · refine ⟨fun valid => ?_, fun invalid => ?_⟩
    · rw [State.startAnnouncement_valid k valid]
      exact ⟨by simp [State.loadChannel, State.clipEntry], only_setChannel s k _⟩
    · rw [State.startAnnouncement_invalid k invalid]
      refine ⟨?_, ?_, fun t => ?_, ?_⟩
      · simp [State.storeFault_pbc, satUp]
      · simp [State.refuseClip_waiting]
      · rw [State.refuseClip_calls]
        simp only [State.storeFault_keeps, State.call, State.freshDue, State.queueItems, State.now]
        rfl
      · exact ((only_storeFault s k clip _).trans (only_refuseClip _ clip)).mono
          (by constructor <;> simp [Change.and, List.subset_def])
  · refine ⟨fun n before after e k list loading free announcement idle low => ?_, fun size => ?_⟩
    · exact State.startCheck_succ (State.startable_eq_some list loading free)
        (State.idleAnnouncement_eq_some announcement idle low) n
    · have enough : s.startsLeft ≤ 35 := by
        have channels := s.idleChannels_card
        rw [State.startsLeft]
        omega
      exact (State.startCheck_ends 35 s enough).imp State.startable_eq_none.1 State.idleAnnouncement_eq_none

end Sys2Proof.Proofs
end

section
/-! PROOF. The end of a fetch (FetchesFillTheChannel): the fault of a read, the block that joins the channel's contents, and the
gate of an announcement that begins to play. -/

namespace Sys2Proof.Machine

/-- The contents of a channel after a fetch (TABLE 6-2, R99, R105). -/
theorem addBlock_eq (x : ClipRun) (a : Audio) (k : Channel) (entry : ClipEntry) :
    let again : Bool := (x.remaining ≤ 1) && 2 ≤ k.val
    x.addBlock a (isMusic k) entry =
      { clip := x.clip
        page := if again then entry.page else x.page
        offset := if again then entry.offset else x.offset + 1
        remaining := if again then entry.length else x.remaining - 1
        buffer := x.buffer ++ [⟨a, x.remaining ≤ 1⟩]
        segment := x.segment
        fetching := false } := by
  intro again
  cases h : again with
  | true => exact if_pos h
  | false => exact if_neg (by simpa [again, isMusic] using h)

/-- The state of a channel that has taken a block: PLAYING, with the block it was playing. -/
def ChannelState.filled (y : ClipRun) : ChannelState → ChannelState
  | .playing _ b => .playing y b
  | .idle | .loading _ => .playing y none

/-- An announcement channel that begins to play closes its gate (R107, R121). -/
def gateCloses (k : Channel) (c : ChannelState) : Bool :=
  k.val < 2 && (match c with | .loading _ => true | .idle | .playing _ _ => false)

namespace State

variable {s : State} {k : Channel} {x : ClipRun}

/-- A FREE record has no fields to change. -/
theorem record_of_free {t : Trunk} (free : s.call t = none) (f : CallBody → CallBody) :
    (⟨s.cqm.calls[t].gen, (s.call t).map f⟩ : CallRec) = s.cqm.calls[t] := by
  rw [free]
  exact congrArg (CallRec.mk s.cqm.calls[t].gen) free.symm

/-! ## The block joins the channel -/

/-- The channel with the block that has come. -/
def fill (s : State) (k : Channel) (x : ClipRun) (a : Audio) : State :=
  s.setChannel k { s.pbc.channels[k] with
    state := s.pbc.channels[k].state.filled (x.addBlock a (isMusic k) (s.clipEntry x.clip)) }

theorem fill_channel (s : State) (k : Channel) (x : ClipRun) (a : Audio) :
    (s.fill k x a).pbc.channels[k] = { s.pbc.channels[k] with
      state := s.pbc.channels[k].state.filled (x.addBlock a (isMusic k) (s.clipEntry x.clip)) } :=
  Vector.getElem_set_self k.isLt

theorem receiveBlock_eq (h : s.pbc.channels[k].state.run = some x) (a : Audio) :
    s.receiveBlock k x a =
      if gateCloses k s.pbc.channels[k].state then (s.fill k x a).closeGate k x.clip else s.fill k x a := by
  simp only [receiveBlock, fill]
  generalize s.pbc.channels[k] = r at h ⊢
  cases state : r.state with
  | idle => simp [state, ChannelState.run] at h
  | playing y b => simp [gateCloses, ChannelState.filled]
  | loading y =>
    by_cases music : 2 ≤ k.val
    · simp [gateCloses, isMusic, music, Nat.not_lt.2 music, ChannelState.filled]
    · simp [gateCloses, isMusic, music, Nat.lt_of_not_le music, ChannelState.filled]

/-! ## The fault of a read (R106) -/

/-- A read fault is counted and reported. -/
def readFault (s : State) (fault : Bool) (k : Channel) (x : ClipRun) : State :=
  if fault then s.storeFault k x.clip (.readFault x.page x.offset) else s

/-- What the store gives: its samples, or silence at a fault. -/
def fetched (samples : List Byte) (fault : Bool) : Audio := if fault then .silence else .samples samples

@[simp] theorem readFault_keeps (fault : Bool) :
    (s.readFault fault k x).htu = s.htu ∧ (s.readFault fault k x).cqm = s.cqm ∧
      (s.readFault fault k x).mpi.image = s.mpi.image := by
  cases fault <;> simp [readFault]

theorem readFault_pbc (fault : Bool) :
    (s.readFault fault k x).pbc =
      { s.pbc with
        channels := s.pbc.channels.set k { s.pbc.channels[k] with
          faults := if fault then min (s.pbc.channels[k].faults + 1) 255 else s.pbc.channels[k].faults } } := by
  cases fault with
  | true => exact storeFault_pbc s k x.clip _
  | false => exact congrArg (fun c => { s.pbc with channels := c }) (Vector.set_getElem_self k.isLt).symm

/-! ## The fetch completes -/

theorem fetchDone_discarded {f : Fetch} (port : s.pbc.port = some f)
    (h : s.pbc.channels[f.channel].state = .idle ∨ s.pbc.channels[f.channel].startNumber ≠ f.startNumber)
    (samples : List Byte) (fault : Bool) : s.fetchDone samples fault = (s.setPort none).grant := by
  unfold fetchDone
  simp only [port, setPort_fields]
  rcases h with idle | reloaded
  · rw [idle]
    rfl
  · cases s.pbc.channels[f.channel].state.run with
    | none => rfl
    | some x => exact if_pos reloaded

theorem fetchDone_taken {f : Fetch} (port : s.pbc.port = some f) (run : s.pbc.channels[f.channel].state.run = some x)
    (same : s.pbc.channels[f.channel].startNumber = f.startNumber) (samples : List Byte) (fault : Bool) :
    s.fetchDone samples fault =
      (((s.setPort none).readFault fault f.channel x).receiveBlock f.channel x (fetched samples fault)).grant := by
  unfold fetchDone
  simp only [port, setPort_fields, run, same, ne_eq, not_true_eq_false, if_false]
  cases fault <;> rfl

end State

theorem exec_fetchComplete {s : State} {f : Fetch} (port : s.pbc.port = some f) (samples : List Byte) (fault : Bool) :
    exec (.fetchComplete samples fault) s = .next ((s.fetchDone samples fault).close s) := by
  change execFetchComplete samples fault s = _
  simp only [execFetchComplete, port, Option.isSome_some, if_true]
  rfl

theorem exec_fetchComplete_none {s : State} (port : s.pbc.port = none) (samples : List Byte) (fault : Bool) :
    exec (.fetchComplete samples fault) s = .next s := by
  change execFetchComplete samples fault s = _
  simp [execFetchComplete, port]

end Sys2Proof.Machine

namespace Sys2Proof.Claims

open Machine State

variable {s : State} {k : Channel} {x : ClipRun}

theorem only_readFault (s : State) (fault : Bool) (k : Channel) (x : ClipRun) :
    Only
      { channels := [k],
        reports := if fault then [.storeFault k x.clip (.readFault x.page x.offset) (min (s.pbc.channels[k].faults + 1) 255)]
          else [] } s (s.readFault fault k x) := by
  cases fault with
  | true => exact only_storeFault s k x.clip _
  | false => exact (Only.refl s).mono (by constructor <;> simp)

/-- What a block that comes writes: its channel, and where the gate closes the list and the calls of the clip. -/
theorem receiveBlock_spec (run : s.pbc.channels[k].state.run = some x) (a : Audio) :
    let gate := gateCloses k s.pbc.channels[k].state
    let v := s.receiveBlock k x a
    v.pbc = (s.fill k x a).pbc ∧
    v.htu.waiting = (if gate then s.htu.waiting.filter fun e => e.clip ≠ x.clip else s.htu.waiting) ∧
    (∀ t : Trunk, v.cqm.calls[t] =
      if gate = true ∧ t ∈ s.waitingFor x.clip then
        ⟨s.cqm.calls[t].gen, (s.call t).map fun b => { b with waiting := false, source := some k }⟩
      else s.cqm.calls[t]) ∧
    Only { channels := [k], calls := if gate then s.waitingFor x.clip else [], waiting := true } s v := by
  intro gate v
  have filled : Only { channels := [k] } s (s.fill k x a) := only_setChannel s k _
  have received : v = if gate then (s.fill k x a).closeGate k x.clip else s.fill k x a := receiveBlock_eq run a
  cases closes : gate with
  | true =>
    rw [received, closes, if_pos rfl]
    refine ⟨by simp, closeGate_waiting _ k x.clip, fun t => ?_, ?_⟩
    · rw [closeGate_calls]
      simp only [true_and]
      rfl
    · exact (filled.trans (only_closeGate _ k x.clip)).mono
        (by constructor <;> simp [Change.and, waitingFor, fill])
  | false =>
    rw [received, closes, if_neg Bool.false_ne_true]
    exact ⟨rfl, rfl, fun t => by simp [fill], filled.mono (by constructor <;> simp)⟩

/-- What the part is before the grant, where a fetch completes for a channel that still wants it. -/
def fetchTaken (s : State) (k : Channel) (x : ClipRun) (samples : List Byte) (fault : Bool) : State :=
  ((s.setPort none).readFault fault k x).receiveBlock k x (fetched samples fault)

theorem fetchTaken_spec (run : s.pbc.channels[k].state.run = some x) (samples : List Byte) (fault : Bool) :
    let r := s.pbc.channels[k]
    let gate := gateCloses k r.state
    let counted := min (r.faults + 1) 255
    let v := fetchTaken s k x samples fault
    v.pbc.port = none ∧
    v.pbc.channels[k] = { r with
      state := r.state.filled (x.addBlock (fetched samples fault) (isMusic k) (s.clipEntry x.clip))
      faults := if fault then counted else r.faults } ∧
    v.htu.waiting = (if gate then s.htu.waiting.filter fun e => e.clip ≠ x.clip else s.htu.waiting) ∧
    (∀ t : Trunk, v.cqm.calls[t] =
      if gate = true ∧ t ∈ s.waitingFor x.clip then
        ⟨s.cqm.calls[t].gen, (s.call t).map fun b => { b with waiting := false, source := some k }⟩
      else s.cqm.calls[t]) ∧
    Only
      { channels := [k], port := true, calls := if gate then s.waitingFor x.clip else [], waiting := true,
        reports := if fault then [.storeFault k x.clip (.readFault x.page x.offset) counted] else [] } s v := by
  intro r gate counted v
  set u := (s.setPort none).readFault fault k x with hu
  have htu : u.htu = s.htu := by simp [hu]
  have cqm : u.cqm = s.cqm := by simp [hu]
  have entry : u.clipEntry x.clip = s.clipEntry x.clip := by simp [clipEntry, hu]
  have call (t : Trunk) : u.call t = s.call t := by rw [State.call, cqm]; rfl
  have taken : u.waitingFor x.clip = s.waitingFor x.clip := by rw [waitingFor, htu]; rfl
  have pbc : u.pbc = _ := readFault_pbc fault
  have channel : u.pbc.channels[k] = { r with faults := if fault then counted else r.faults } := by
    rw [pbc]
    exact Vector.getElem_set_self k.isLt
  have state : u.pbc.channels[k].state = r.state := by rw [channel]
  obtain ⟨filled, waiting, calls, only⟩ := receiveBlock_spec (state ▸ run) (fetched samples fault)
  simp only [state, htu, cqm, call, taken] at waiting calls only
  refine ⟨?_, ?_, waiting, calls, ?_⟩
  · exact (congrArg Pbc.port filled).trans (congrArg Pbc.port pbc)
  · change (u.receiveBlock k x _).pbc.channels[k] = _
    rw [filled, fill_channel, channel, entry]
  · exact (((only_setPort s none).trans (only_readFault (s.setPort none) fault k x)).trans only).mono
      (by constructor <;> simp [Change.and, counted, gate, r])

end Sys2Proof.Claims

namespace Sys2Proof.Proofs

open Machine Claims

/-- Settles O39: a fetch that comes too late is discarded; the block of another joins its channel, behind the report of a read
fault. -/
theorem fetchesFillTheChannel : Obligations.FetchesFillTheChannel := by
  intro s samples fault
  refine ⟨fun port => exec_fetchComplete_none port samples fault, fun f port => ?_⟩
  rw [exec_fetchComplete port]
  refine ⟨fun late => by rw [State.fetchDone_discarded port late], fun x run same => ?_⟩
  rw [State.fetchDone_taken port run same]
  obtain ⟨free, channel, waiting, calls, only⟩ := fetchTaken_spec run samples fault
  refine ⟨fetchTaken s f.channel x samples fault, rfl, free, ?_, waiting, fun t ht gate b hb => ?_, fun t absent => ?_, only⟩
  · rw [channel, addBlock_eq]
    rfl
  · rw [calls, if_pos ⟨gate, ht⟩, hb]
    rfl
  · rw [calls]
    split
    · exact State.record_of_free absent _
    · rfl

end Sys2Proof.Proofs
end

section
/-! PROOF. What the part sends on the slots of the two highways, and the paths of a frame (HighwaysCarryThePaths). -/

namespace Sys2Proof.Machine.State

variable (s : State) (localIn : List Byte) (junctorIn : List (Option Byte))

/-! ## The local highway (TABLE 8-1) -/

theorem localOut_trunk (t : Trunk) :
    s.localOut localIn junctorIn ⟨t.val, by omega⟩ = s.sourceSample localIn junctorIn s.sps.sending.trunks[t] := by
  simp only [localOut, t.isLt, dite_true]
  rfl

theorem localOut_position (p : Position) :
    s.localOut localIn junctorIn ⟨32 + p.val, by omega⟩ = s.sourceSample localIn junctorIn s.sps.sending.positions[p] := by
  have above : ¬ 32 + p.val < 32 := by omega
  have below : 32 + p.val < 56 := by omega
  simp only [localOut, above, below, dite_true, dite_false, Nat.add_sub_cancel_left]
  rfl

theorem localOut_music (m : Programme) :
    s.localOut localIn junctorIn ⟨56 + m.val, by omega⟩ = s.channelSample (musicChannel m) := by
  have above_trunks : ¬ 56 + m.val < 32 := by omega
  have above_positions : ¬ 56 + m.val < 56 := by omega
  have below : 56 + m.val < 60 := by omega
  have channel : (⟨56 + m.val - 54, by omega⟩ : Channel) = musicChannel m :=
    Fin.ext (show 56 + m.val - 54 = m.val + 2 by omega)
  simp only [localOut, above_trunks, above_positions, below, dite_true, dite_false, channel]

/-! ## The junctor highway (TABLE 8-2) -/

theorem junctorOut_none {n : Fin 256} (h : ∀ x, (n.val, x) ∉ s.sps.sending.driven) :
    s.junctorOut localIn junctorIn n = none := by
  have undriven : (s.sps.sending.driven.find? fun e => e.1 = n.val) = none := by
    refine List.find?_eq_none.2 ?_
    rintro ⟨slot, x⟩ driven here
    exact h x (of_decide_eq_true here ▸ driven)
  rw [junctorOut, undriven]
  rfl

theorem junctorOut_some {n : Fin 256} {x : PathSource} (h : (n.val, x) ∈ s.sps.sending.driven)
    (alone : ∀ y, (n.val, y) ∈ s.sps.sending.driven → y = x) :
    s.junctorOut localIn junctorIn n = some (s.sourceSample localIn junctorIn (some x)) := by
  have driver : (s.sps.sending.driven.find? fun e => e.1 = n.val) = some (n.val, x) := by
    cases found : s.sps.sending.driven.find? fun e => e.1 = n.val with
    | none => exact absurd (decide_eq_true rfl) (List.find?_eq_none.1 found _ h)
    | some e =>
      obtain ⟨slot, y⟩ := e
      obtain rfl : slot = n.val := by simpa using List.find?_some found
      rw [alone y (List.mem_of_find?_eq_some found)]
  rw [junctorOut, driver]
  rfl

/-! ## The paths of a frame (R133, R134) -/

theorem mem_junctorDriven (n : Nat) (x : PathSource) :
    (n, x) ∈ s.junctorDriven ↔
      (∃ j : Junctor, n = forwardSlot s.mpi.station j ∧ s.sps.map.forward[j] = some x) ∨
      ∃ (g : GuestNo) (r : GuestRec), s.ofu.guests[g] = some r ∧ n = returnSlot r.origin r.junctor ∧
        s.sps.map.returns[g] = some x := by
  have forward : (n, x) ∈ ((List.finRange 8).filterMap fun j =>
        (s.sps.map.forward[j]).map fun x => (forwardSlot s.mpi.station j, x)) ↔
      ∃ j : Junctor, n = forwardSlot s.mpi.station j ∧ s.sps.map.forward[j] = some x := by
    simp [and_comm, eq_comm]
  rw [junctorDriven, List.mem_append, forward]
  refine or_congr_right ?_
  simp only [List.mem_filterMap, List.mem_finRange, true_and]
  refine exists_congr fun g => ?_
  cases s.sps.map.returns[g] <;> cases s.ofu.guests[g] <;> simp [and_comm, eq_comm]

end Sys2Proof.Machine.State

namespace Sys2Proof.Proofs

open Machine

/-- Settles O44: each slot carries what the paths of the frame name for it. -/
theorem highwaysCarryThePaths : Obligations.HighwaysCarryThePaths := by
  intro s localIn junctorIn silence played sample sent
  have played_eq (k : Channel) : s.channelSample k = played k := by
    simp only [State.channelSample, played]
    rcases s.pbc.channels[k].state with _ | _ | ⟨_, _ | ⟨_ | _, _⟩ | _⟩ <;> rfl
  have sample_eq (x : Option PathSource) : s.sourceSample localIn junctorIn x = sample x := by
    rcases x with _ | _ | k | n
    case some.channel => exact played_eq k
    case some.junctorSlot =>
      simp only [State.sourceSample, sample, List.getD_eq_getElem?_getD]
      rcases junctorIn[n]? with _ | _ | _ <;> rfl
    all_goals rfl
  refine ⟨fun t => ?_, fun p => ?_, fun m => ?_, played_eq 0, played_eq 1, rfl, rfl, fun n => ⟨fun h => ?_, fun x h alone => ?_⟩,
    rfl, rfl, s.mem_junctorDriven⟩
  · rw [← sample_eq]
    exact s.localOut_trunk localIn junctorIn t
  · rw [← sample_eq]
    exact s.localOut_position localIn junctorIn p
  · rw [← played_eq]
    exact s.localOut_music localIn junctorIn m
  · exact s.junctorOut_none localIn junctorIn h
  · rw [← sample_eq]
    exact s.junctorOut_some localIn junctorIn h alone

end Sys2Proof.Proofs
end

section
/-! PROOF. The next-due of a call, and the end of the junctor holdoffs (NextDueAndHoldoffsAreReached). -/

namespace Sys2Proof.Machine.State

variable {s : State} {t : Trunk} {b : CallBody}

/-! ## Next-due (R116) -/

theorem dueReached_iff : s.dueReached t = true ↔ ∃ b, s.call t = some b ∧ b.nextDue = .at s.now := by
  unfold dueReached
  cases s.call t <;> simp

theorem becomeDue_eq (call : s.call t = some b) (due : b.nextDue = .at s.now) :
    s.becomeDue t = s.setCall t ⟨s.cqm.calls[t].gen, some { b with nextDue := .due }⟩ := by
  simp [becomeDue, modifyCall, call, due, NextDue.reach]

theorem exec_nextDueReached (reached : s.dueReached t = true) :
    exec (.nextDueReached t) s = .next ((s.becomeDue t).close s) :=
  congrArg Host.Outcome.next (if_pos reached)

theorem exec_nextDueReached_idle (waits : s.dueReached t = false) : exec (.nextDueReached t) s = .next s :=
  congrArg Host.Outcome.next (if_neg (by simp [waits]))

/-! ## The junctors that leave holdoff (R137) -/

/-- A junctor in HOLDOFF whose stamp is the present clock. -/
theorem holdoffReached_eq (s : State) (j : Junctor) : s.holdoffReached j = (s.sps.junctors[j] == .holdoff s.now) := by
  unfold holdoffReached
  cases s.sps.junctors[j] <;> simp [Bool.beq_eq_decide_eq]

theorem holdoffDue_iff : s.holdoffDue = true ↔ ∃ j ∈ s.sps.holdoffOrder, s.holdoffReached j = true := List.any_eq_true

theorem freed_junctors (s : State) (l : List Junctor) (j : Junctor) :
    (l.foldl (fun u i => u.setJunctor i .free) s).sps.junctors[j] = if j ∈ l then .free else s.sps.junctors[j] := by
  induction l generalizing s with
  | nil => simp
  | cons i l ih =>
    rw [List.foldl_cons, ih]
    by_cases h : j = i
    · simp [h]
    · simp [h, Claims.getElem_set_other _ _ h]

theorem endHoldoffs_junctor {j : Junctor} (held : j ∈ s.sps.holdoffOrder) (reached : s.holdoffReached j = true) :
    s.endHoldoffs.sps.junctors[j] = .free :=
  (s.freed_junctors (s.sps.holdoffOrder.filter s.holdoffReached) j).trans
    (if_pos (List.mem_filter.2 ⟨held, reached⟩))

theorem exec_junctorHoldoffEnd (due : s.holdoffDue = true) :
    exec .junctorHoldoffEnd s = .next (s.endHoldoffs.close s) :=
  congrArg Host.Outcome.next (if_pos due)

theorem exec_junctorHoldoffEnd_idle (waits : s.holdoffDue = false) : exec .junctorHoldoffEnd s = .next s :=
  congrArg Host.Outcome.next (if_neg (by simp [waits]))

end Sys2Proof.Machine.State

namespace Sys2Proof.Claims

open Machine

theorem only_setFreeOrder (s : State) (l : List Junctor) : Only { freeOrder := true } s (s.setFreeOrder l) := by simp [Only]

theorem only_freed (s : State) (l : List Junctor) :
    Only { junctors := l } s (l.foldl (fun u j => u.setJunctor j .free) s) := by
  induction l generalizing s with
  | nil => exact Only.refl s
  | cons j l ih => exact (only_setJunctor s j .free).trans (ih _)

theorem only_endHoldoffs (s : State) :
    Only { junctors := s.sps.holdoffOrder.filter s.holdoffReached, freeOrder := true, holdoffOrder := true } s
      s.endHoldoffs :=
  (((only_freed s _).trans (only_setHoldoffOrder _ _)).trans (only_setFreeOrder _ _)).mono
    (by constructor <;> simp [Change.and])

end Sys2Proof.Claims

namespace Sys2Proof.Proofs

open Machine Claims State

/-- Settles O32: each row finds what the clock has reached, and its event writes that alone. -/
theorem nextDueAndHoldoffsAreReached : Obligations.NextDueAndHoldoffsAreReached := by
  refine ⟨fun s t => ⟨fun b call due => ?_, fun waits => ?_⟩, fun s => ?_⟩
  · rw [exec_nextDueReached (dueReached_iff.2 ⟨b, call, due⟩), becomeDue_eq call due]
  · refine exec_nextDueReached_idle (Bool.eq_false_iff.2 fun reached => ?_)
    obtain ⟨b, call, due⟩ := dueReached_iff.1 reached
    exact waits b call due
  · have reached : (fun j : Junctor => s.sps.junctors[j] == .holdoff s.now) = s.holdoffReached :=
      funext fun j => (s.holdoffReached_eq j).symm
    rw [reached]
    refine ⟨fun due => ⟨s.endHoldoffs, exec_junctorHoldoffEnd (holdoffDue_iff.2 due), fun j => endHoldoffs_junctor, rfl, rfl,
      only_endHoldoffs s⟩, fun waits => exec_junctorHoldoffEnd_idle (Bool.eq_false_iff.2 fun due => ?_)⟩
    obtain ⟨j, held, at_now⟩ := holdoffDue_iff.1 due
    exact absurd at_now (by simp [waits j held])

end Sys2Proof.Proofs
end

section
/-! PROOF. The waiting list and the waiting flags agree (WaitingFlags) through every write of either, and so through every
operation that the blocks share and every operation of the playback (R118, R120, R121). -/

namespace Sys2Proof.Machine

/-- The waiting flag of a trunk's call; a FREE record has none. -/
def State.waits (s : State) (t : Trunk) : Bool := (s.call t).any (·.waiting)

theorem State.waits_setCall (s : State) (t r : Trunk) (x : CallRec) :
    (s.setCall t x).waits r = if r = t then x.body.any (·.waiting) else s.waits r := by
  by_cases h : r = t
  · subst h; simp [waits, call]
  · simp [waits, call, h, Claims.getElem_set_other _ _ h]

end Sys2Proof.Machine

namespace Sys2Proof.Claims

open Machine

theorem waitingFlags_iff (s : State) :
    WaitingFlags s ↔ ∀ t, s.htu.waiting.countP (·.trunk == t) = if s.waits t then 1 else 0 := by
  refine forall_congr' fun t => ?_
  unfold State.waits
  cases s.call t <;> rfl

namespace WaitingFlags

variable {u v : State} {t : Trunk}

/-! ## The writes of the list and the flags -/

theorem congr (h : WaitingFlags u) (flags : v.waits = u.waits) (list : v.htu = u.htu) : WaitingFlags v := by
  rw [waitingFlags_iff] at h ⊢
  rwa [flags, list]

/-- A write of neither. -/
theorem same (h : WaitingFlags u) (kept : v.cqm.calls = u.cqm.calls ∧ v.htu = u.htu) : WaitingFlags v := by
  obtain ⟨calls, list⟩ := kept
  exact h.congr (funext fun t => by simp only [State.waits, State.call, calls]) list

/-- A record with the flag that the trunk has. -/
theorem setCall (h : WaitingFlags u) {x : CallRec} (flag : x.body.any (·.waiting) = u.waits t) :
    WaitingFlags (u.setCall t x) := by
  refine h.congr (funext fun r => ?_) rfl
  rw [State.waits_setCall]
  split
  next hr => rw [flag, hr]
  next => rfl

theorem modifyCall (h : WaitingFlags u) {f : CallBody → CallBody} (flag : ∀ b, (f b).waiting = b.waiting) :
    WaitingFlags (u.modifyCall t f) := by
  refine h.setCall ?_
  cases hc : u.call t <;> simp [State.waits, hc, flag]

theorem setPhase (h : WaitingFlags u) {p : CallPhase} : WaitingFlags (u.setPhase t p) := h.modifyCall fun _ => rfl

theorem sourceToMusic (h : WaitingFlags u) : WaitingFlags (u.sourceToMusic t) := h.modifyCall fun _ => rfl

theorem sourceToNone (h : WaitingFlags u) : WaitingFlags (u.sourceToNone t) := h.modifyCall fun _ => rfl

theorem removeEntry_waits (s : State) (t r : Trunk) : (s.removeEntry t).waits r = if r = t then false else s.waits r := by
  have cleared : ((s.call t).map fun b => { b with waiting := false }).any (·.waiting) = false := by
    cases s.call t <;> rfl
  exact (State.waits_setCall _ t r _).trans (if_congr Iff.rfl cleared rfl)

/-- The entry of a trunk leaves with its flag (R118). -/
theorem removeEntry (h : WaitingFlags u) : WaitingFlags (u.removeEntry t) := by
  rw [waitingFlags_iff] at h ⊢
  intro r
  have list : (u.removeEntry t).htu.waiting = u.htu.waiting.filter fun e => e.trunk ≠ t := rfl
  rw [list, removeEntry_waits, List.countP_filter]
  by_cases hr : r = t
  · simp +contextual [hr]
  · rw [if_neg hr, ← h r]
    refine List.countP_congr fun e _ => ?_
    simp +contextual [hr]

/-- The entry of a trunk that does not wait joins with its flag (R118). -/
theorem joinWaiting (h : WaitingFlags u) {b : CallBody} (call : u.call t = some b) (idle : b.waiting = false) {k : Clip} :
    WaitingFlags (u.joinWaiting t k) := by
  rw [waitingFlags_iff] at h ⊢
  intro r
  have list : (u.joinWaiting t k).htu.waiting = u.htu.waiting ++ [⟨t, k⟩] := rfl
  have flag : (u.joinWaiting t k).waits r = if r = t then true else u.waits r := by
    have set : ((u.call t).map fun b => { b with waiting := true }).any (·.waiting) = true := by rw [call]; rfl
    exact (State.waits_setCall _ t r _).trans (if_congr Iff.rfl set rfl)
  rw [list, flag, List.countP_append, h r]
  by_cases hr : r = t
  · subst hr; simp [State.waits, call, idle]
  · simp [hr, Ne.symm hr]

/-- The entries of a clip leave with their flags (R120, R121): a trunk has one entry, so none of another clip is left under a
flag that is cleared. -/
theorem clipLeaves (h : WaitingFlags u) {k : Clip} (list : v.htu.waiting = u.htu.waiting.filter fun e => e.clip ≠ k)
    (flags : ∀ t, v.waits t = if ⟨t, k⟩ ∈ u.htu.waiting then false else u.waits t) : WaitingFlags v := by
  rw [waitingFlags_iff] at h ⊢
  intro t
  rw [list, flags]
  split
  next listed =>
    have leaving : 0 < (u.htu.waiting.filter fun e => !decide (e.clip ≠ k)).countP (·.trunk == t) :=
      List.countP_pos_iff.2 ⟨_, List.mem_filter.2 ⟨listed, by simp⟩, by simp⟩
    have parts := (h t).symm.trans
      (List.countP_eq_countP_filter_add u.htu.waiting (·.trunk == t) fun e => decide (e.clip ≠ k))
    have one : (if u.waits t then 1 else 0) ≤ 1 := by split <;> decide
    simp only [Bool.false_eq_true, if_false]
    omega
  next absent =>
    rw [← h t, List.countP_filter]
    refine List.countP_congr fun e he => ?_
    have other (ht : e.trunk = t) : e.clip ≠ k := fun hk => absent (by obtain ⟨_, _⟩ := e; subst ht hk; exact he)
    simpa using other

/-! ## What is built of many -/

theorem foldl {α : Type} {f : State → α → State} (l : List α) (h : WaitingFlags u)
    (hf : ∀ v a, WaitingFlags v → WaitingFlags (f v a)) : WaitingFlags (l.foldl f u) :=
  List.foldlRecOn l f h fun v hv a _ => hf v a hv

theorem event (h : WaitingFlags u) {f : State → State} (hf : WaitingFlags u → WaitingFlags (f u)) :
    WaitingFlags (u.event f) :=
  (hf h).same (by simp [State.event])

/-! ## Agents -/

variable {p : Position}

theorem issue (h : WaitingFlags u) {o : Order} : WaitingFlags (u.issue o) := h.same (by simp)

theorem give (h : WaitingFlags u) {x : Station} {c : Payload} : WaitingFlags (u.give x c) := h.same (by simp)

theorem writeReport (h : WaitingFlags u) {r : Report} : WaitingFlags (u.writeReport r) := h.same (by simp)

theorem reportAgent (h : WaitingFlags u) {before : State} {c : AgentCause} : WaitingFlags (u.reportAgent before p c) :=
  h.same (by simp)

theorem toNotReady (h : WaitingFlags u) : WaitingFlags (u.toNotReady p) := h.same (by simp)

theorem toSignedOff (h : WaitingFlags u) : WaitingFlags (u.toSignedOff p) := h.same (by simp)

theorem removeCall (h : WaitingFlags u) {q : QueueNo} : WaitingFlags (u.removeCall q t) := h.same ⟨rfl, rfl⟩

theorem insertCall (h : WaitingFlags u) {q : QueueNo} : WaitingFlags (u.insertCall q t) := h.same ⟨rfl, rfl⟩

/-- The call of an agent that is rung waits no more (R123). -/
theorem ringForCall (h : WaitingFlags u) : WaitingFlags (u.ringForCall p t) := by
  unfold State.ringForCall
  split
  · exact h
  · have rung : WaitingFlags (u.ringAgent p (.call t)) := h.same (by simp)
    exact rung.removeCall.setPhase.removeEntry.sourceToMusic

theorem chooseAgent (h : WaitingFlags u) {q : QueueNo} (hv : u.chooseAgent q = some (p, v)) : WaitingFlags v := by
  obtain ⟨-, rfl | rfl⟩ := State.chooseAgent_cases u hv
  · exact h
  · exact h.same (by simp)

theorem matchCall (h : WaitingFlags u) : WaitingFlags (u.matchCall t) := by
  unfold State.matchCall
  split
  · exact h
  · split
    · exact h
    next hv => exact (h.chooseAgent hv).ringForCall

theorem becomeReady (h : WaitingFlags u) : WaitingFlags (u.becomeReady p) := by
  have cleared : WaitingFlags (u.setPendingAction p .none) := h.same (by simp)
  unfold State.becomeReady
  simp only
  split
  · exact cleared.ringForCall
  · exact cleared.same (by simp)

theorem takePending (h : WaitingFlags u) : WaitingFlags (u.takePending p) := by
  unfold State.takePending
  split
  · exact h.toNotReady
  · exact h.toSignedOff
  all_goals exact h.becomeReady

theorem endWrap (h : WaitingFlags u) {w : WrapFields} {b : EndedBy} {d : Destination} :
    WaitingFlags (u.endWrap p w b d) := by
  have sampled : WaitingFlags ((u.writeReport (.wrapEnd p w.queue (elapsed w.start u.now) b)).sample w.queue
      (clamp16 (w.talk + elapsed w.start u.now))) := h.same (by simp)
  cases d with
  | ready => exact sampled.becomeReady
  | notReady => exact sampled.toNotReady
  | signedOff => exact sampled.toSignedOff

theorem openWrap (h : WaitingFlags u) {q : QueueNo} {n : Nat} : WaitingFlags (u.openWrap p q n) := by
  unfold State.openWrap
  simp only
  split
  · exact (h.same (v := u.setDuty p _) (by simp)).endWrap
  · exact h.same (by simp)

/-! ## Calls, guests and the loss of a peer -/

/-- A call that ends leaves the waiting list first, so its FREE record takes no flag with it (R33). -/
theorem endCall (h : WaitingFlags u) : WaitingFlags (u.endCall t) := by
  unfold State.endCall
  split
  · exact h
  next b _ =>
    have freed : WaitingFlags ((u.clearTrunk t).freeOverflow b.phase) := h.same (by simp)
    exact (freed.removeCall.removeEntry.setCall (by simp [removeEntry_waits])).writeReport

theorem failOffer (h : WaitingFlags u) : WaitingFlags (u.failOffer t) := by
  unfold State.failOffer
  split
  next o x j _ _ _ _ _ _ _ _ _ =>
    have freed : WaitingFlags (u.freeOverflow (.offered o x j)) := h.same (by simp)
    exact freed.setPhase.matchCall
  next => exact h

theorem requeue (h : WaitingFlags u) {q : QueueNo} : WaitingFlags (u.requeue q t) :=
  h.insertCall.removeEntry.sourceToMusic.matchCall

theorem returnCall (h : WaitingFlags u) : WaitingFlags (u.returnCall t) := by
  unfold State.returnCall
  split
  · exact h
  next b _ =>
    have freed : WaitingFlags (u.freeOverflow b.phase) := h.same (by simp)
    split
    case h_1 | h_2 => exact freed.setPhase.requeue
    case h_3 =>
      exact (freed.modifyCall (f := fun c => { c with phase := .queued, priority := 3, recovered := true })
        fun _ => rfl).requeue
    all_goals exact h

theorem callerRelease (h : WaitingFlags u) {before : State} : WaitingFlags (u.callerRelease before t) := by
  unfold State.callerRelease
  split
  · exact h
  · simp only
    split
    case h_1 => exact h.endCall
    case h_3 => exact h.issue.endCall.takePending.reportAgent
    case h_4 => exact h.endCall.openWrap.reportAgent
    all_goals exact h.give.endCall

theorem freeGuest (h : WaitingFlags u) {g : GuestNo} : WaitingFlags (u.freeGuest g) := by
  unfold State.freeGuest
  split
  · exact h
  · have freed : WaitingFlags (u.setGuest g none) := h.same (by simp)
    simp only
    split
    · split
      · exact freed.openWrap
      · exact freed.openWrap
    · exact freed.issue.takePending
    · exact freed.takePending

theorem releaseGuest (h : WaitingFlags u) {before : State} {g : GuestNo} : WaitingFlags (u.releaseGuest before g) := by
  unfold State.releaseGuest
  split
  · exact h
  · exact h.freeGuest.reportAgent

theorem settleCall (h : WaitingFlags u) : WaitingFlags (u.settleCall t) := by
  unfold State.settleCall
  split
  · exact h.failOffer
  · exact h.returnCall

theorem losePeer (h : WaitingFlags u) {before : State} {x : Station} : WaitingFlags (u.losePeer before x) :=
  (h.foldl _ fun _ _ k => k.settleCall).foldl _ fun _ _ k => k.releaseGuest

/-! ## Playback -/

theorem refuseClip (h : WaitingFlags u) {k : Clip} : WaitingFlags (u.refuseClip k) := by
  refine h.clipLeaves (State.refuseClip_waiting u k) fun t => ?_
  rw [State.waits, State.call, State.refuseClip_calls]
  split
  · cases u.call t <;> rfl
  · rfl

theorem closeGate (h : WaitingFlags u) {c : Channel} {k : Clip} : WaitingFlags (u.closeGate c k) := by
  refine h.clipLeaves (State.closeGate_waiting u c k) fun t => ?_
  rw [State.waits, State.call, State.closeGate_calls]
  simp only [State.mem_waitingFor]
  split
  · cases u.call t <;> rfl
  · rfl

theorem storeFault (h : WaitingFlags u) {c : Channel} {k : Clip} {e : StoreFaultCause} :
    WaitingFlags (u.storeFault c k e) :=
  h.same (by simp)

theorem startAnnouncement (h : WaitingFlags u) {c : Channel} {k : Clip} : WaitingFlags (u.startAnnouncement c k) := by
  unfold State.startAnnouncement
  split
  · exact h.same (by simp)
  · exact h.storeFault.refuseClip

theorem startCheck (n : Nat) (h : WaitingFlags u) : WaitingFlags (u.startCheck n) := by
  induction n generalizing u with
  | zero => exact h
  | succ n ih =>
    unfold State.startCheck
    split
    · exact ih h.startAnnouncement
    · exact h

theorem grant (h : WaitingFlags u) : WaitingFlags u.grant := h.same (by simp)

/-- A call joins the list at a segment boundary only where it does not wait already (R117). -/
theorem takeUp (h : WaitingFlags u) {c : Channel} : WaitingFlags (u.takeUp c t) := by
  unfold State.takeUp
  split
  · exact h
  next b call =>
    split
    case h_1 | h_2 =>
      split
      next taken =>
        obtain ⟨⟨-, idle⟩, -⟩ : (b.source = some c ∧ b.waiting = false) ∧ b.nextDue = .due := by
          simpa using taken
        split
        · exact h.joinWaiting call idle
        · exact h
      next => exact h
    all_goals exact h

theorem returnListener (h : WaitingFlags u) {c : Channel} : WaitingFlags (u.returnListener c t) := by
  unfold State.returnListener
  split
  · split
    · exact h.modifyCall fun _ => rfl
    · exact h
  · exact h

theorem boundaryOf (h : WaitingFlags u) {c : Channel} : WaitingFlags (u.boundaryOf c) := by
  have played : WaitingFlags (u.channelBoundary c).1 := h.same (by simp)
  unfold State.boundaryOf
  split
  next e => rwa [e] at played
  next e =>
    rw [e] at played
    exact played.foldl _ fun _ _ k => k.takeUp
  next e =>
    rw [e] at played
    exact played.foldl _ fun _ _ k => k.returnListener

theorem boundaryWork (h : WaitingFlags u) {c : Channel} : WaitingFlags (u.boundaryWork c) := by
  unfold State.boundaryWork
  simp only
  split
  · exact (h.boundaryOf.startCheck 35).grant
  · exact h.boundaryOf.grant

theorem receiveBlock (h : WaitingFlags u) {c : Channel} {x : ClipRun} {a : Audio} : WaitingFlags (u.receiveBlock c x a) := by
  unfold State.receiveBlock
  simp only
  split
  · split
    · exact h.same (by simp)
    · exact (h.same (v := u.setChannel c _) (by simp)).closeGate
  · exact h.same (by simp)
  · exact h

theorem fetchDone (h : WaitingFlags u) {l : List Byte} {fault : Bool} : WaitingFlags (u.fetchDone l fault) := by
  unfold State.fetchDone
  split
  · exact h
  · have free : WaitingFlags (u.setPort none) := h.same (by simp)
    simp only
    split
    · exact free.grant
    · split
      · exact free.grant
      · split
        · exact free.storeFault.receiveBlock.grant
        · exact free.receiveBlock.grant

end WaitingFlags
end Sys2Proof.Claims
end

section
/-! PROOF. Every step keeps the waiting list and the waiting flags in agreement (WaitingFlagsAreKept): the keys, the scanner,
the frames of the peers, the deadlines and the maintenance port write neither but by what the blocks share. -/

namespace Sys2Proof.Claims

open Machine

namespace WaitingFlags

variable {u v : State} {t : Trunk} {p : Position} {x : Station} {tag : Tag} {g : GuestNo}

/-! ## Keys and headset loss -/

theorem refuseKey (h : WaitingFlags u) : WaitingFlags (u.refuseKey p) := h.issue

theorem setPendingAction (h : WaitingFlags u) {a : PendingAction} : WaitingFlags (u.setPendingAction p a) := h.same (by simp)

theorem bounceGuest (h : WaitingFlags u) {c : BounceCause} : WaitingFlags (u.bounceGuest g c) := h.same (by simp)

theorem keyReady (h : WaitingFlags u) : WaitingFlags (u.keyReady p) := by
  unfold State.keyReady
  simp only
  split
  · split
    · exact h.becomeReady.reportAgent
    · exact h.refuseKey
  · split
    · exact h.refuseKey
    · split
      · exact h.endWrap.reportAgent
      · exact h.setPendingAction
  all_goals exact h.refuseKey

theorem keyNotReady (h : WaitingFlags u) : WaitingFlags (u.keyNotReady p) := by
  unfold State.keyNotReady
  split
  · exact h.toNotReady.reportAgent
  case h_2 | h_3 | h_4 => exact h.setPendingAction
  · exact h.endWrap.reportAgent
  all_goals exact h.refuseKey

theorem keyAnswer (h : WaitingFlags u) : WaitingFlags (u.keyAnswer p) := by
  unfold State.keyAnswer
  split
  next r _ _ =>
    have talking : WaitingFlags (u.setDuty p (.talking (.call r))) := h.same (by simp)
    exact talking.setPhase.sourceToNone
  · exact h.same (by simp)
  all_goals exact h.refuseKey

theorem keyRelease (h : WaitingFlags u) : WaitingFlags (u.keyRelease p) := by
  unfold State.keyRelease
  split
  · unfold State.releaseCall
    split
    · exact h
    · exact h.endCall.openWrap.reportAgent
  · unfold State.releaseByAgent
    split
    · exact h
    · exact h.give.freeGuest.reportAgent
  all_goals exact h.refuseKey

theorem giveUp (h : WaitingFlags u) {before : State} {b : Bound} {c : AgentCause} {d : BounceCause} :
    WaitingFlags (u.giveUp before p b c d) := by
  have stopped : WaitingFlags (((u.issue (.stopRing p)).outOfService p).reportAgent before p c) := h.same (by simp)
  cases b with
  | call t => exact stopped.returnCall
  | guest g => exact stopped.bounceGuest

theorem headsetLoss (h : WaitingFlags u) {before : State} : WaitingFlags (u.headsetLoss before p) := by
  unfold State.headsetLoss
  simp only
  split
  case h_5 => exact (h.same (v := u.setAgent p _) (by simp)).giveUp
  all_goals exact h.same (by simp)

theorem ringExpiry (h : WaitingFlags u) : WaitingFlags (u.ringExpiry p) := by
  unfold State.ringExpiry
  split
  · exact h.giveUp
  · exact h

theorem readyAtMin (h : WaitingFlags u) : WaitingFlags (u.readyAtMin p) := by
  unfold State.readyAtMin
  split
  · exact h.endWrap.reportAgent
  · exact h

theorem wrapExpiry (h : WaitingFlags u) : WaitingFlags (u.wrapExpiry p) := by
  unfold State.wrapExpiry
  split
  · exact h.endWrap.reportAgent
  · exact h

/-! ## The scanner -/

/-- An admitted call does not wait; it joins the list before its match attempt (R115, R24). -/
theorem admitSeize (h : WaitingFlags u) (free : u.call t = none) {e : ServiceEntry} : WaitingFlags (u.admitSeize t e) := by
  unfold State.admitSeize
  extract_lets body w
  have queued : WaitingFlags w := (h.setCall (by simp [State.waits, free, body])).insertCall
  have call : w.call t = some body := by simp [w, State.call, State.insertCall]
  split
  · exact queued.matchCall
  · exact ((queued.joinWaiting call rfl).matchCall.startCheck 35).grant

theorem takeSeize (h : WaitingFlags u) {k : Fin 64} : WaitingFlags (u.takeSeize t k) := by
  unfold State.takeSeize
  split
  · exact h.same (by simp)
  next free =>
    simp only
    split
    · exact h.same (by simp)
    · split
      · exact h.same (by simp)
      · exact (h.admitSeize free).same ⟨rfl, rfl⟩

theorem takeCharRun (h : WaitingFlags u) (c : ScanChar) : WaitingFlags (u.takeCharRun c) := by
  unfold State.takeCharRun
  split
  · exact h.takeSeize
  case h_5 => exact h.keyReady
  case h_6 => exact h.keyNotReady
  case h_8 => exact h.keyAnswer
  case h_9 => exact h.keyRelease
  all_goals exact h.same (by simp)

theorem takeScan (h : WaitingFlags u) (r : ScanResult) : WaitingFlags (u.takeScan r) := by
  unfold State.takeScan
  split
  · exact h
  · split
    · exact h.same (by simp)
    · exact h
  next c =>
    split
    · exact h.event fun k => k.takeCharRun c
    · exact h.same (by simp)

theorem scanReceiveAll (h : WaitingFlags u) (l : List Byte) : WaitingFlags (u.scanReceiveAll l) :=
  h.foldl l fun v b k => (k.same (v := v.setScanOpen (scanByte v.lsi.scanOpen b).1) (by simp)).takeScan _

theorem disconnectExpiry (h : WaitingFlags u) : WaitingFlags (u.disconnectExpiry t) :=
  (h.same (v := u.setTrunkSup t _) (by simp)).callerRelease

theorem headsetExpiry (h : WaitingFlags u) : WaitingFlags (u.headsetExpiry p) :=
  (h.same (v := u.setPositionSup p _) (by simp)).headsetLoss

/-! ## The frames for the origin of an offer -/

/-- A call that is lent waits no more (R124). -/
theorem lendCall (h : WaitingFlags u) {j : Junctor} : WaitingFlags (u.lendCall t x j) := by
  unfold State.lendCall
  split
  · exact (h.same (v := u.setSlot _ none) (by simp)).removeCall.setPhase.removeEntry.sourceToNone
  · exact h

theorem takeTake (h : WaitingFlags u) {j : Junctor} : WaitingFlags (u.takeTake x tag j) := by
  unfold State.takeTake
  split
  · exact h.lendCall.give
  · exact h.give

theorem takeDecline (h : WaitingFlags u) : WaitingFlags (u.takeDecline x tag) := by
  unfold State.takeDecline
  split
  · split
    · exact (h.same (v := u.markDecline x _) (by simp)).failOffer
    · exact h
  · exact h

theorem takeAnswered (h : WaitingFlags u) : WaitingFlags (u.takeAnswered x tag) := by
  unfold State.takeAnswered
  split
  · split
    · exact h.setPhase
    · exact h.give
  · exact h.give

theorem takeBounce (h : WaitingFlags u) : WaitingFlags (u.takeBounce x tag) := by
  unfold State.takeBounce
  split
  · split
    · exact h.returnCall
    · exact h
  · exact h

theorem takeAgentDone (h : WaitingFlags u) : WaitingFlags (u.takeAgentDone x tag) := by
  unfold State.takeAgentDone
  split
  · split
    · exact h.endCall
    · exact h
  · exact h

/-! ## The frames for the host of a guest -/

theorem takeOffer (h : WaitingFlags u) {o : OfferData} : WaitingFlags (u.takeOffer x o) := by
  unfold State.takeOffer
  extract_lets stale w v
  clear_value stale
  have freed : WaitingFlags w := by
    unfold w
    split
    · exact h.freeGuest
    · exact h
  have answered : WaitingFlags v := by
    unfold v
    split
    · exact freed.give
    · exact freed.same (by simp)
  split
  · exact answered.reportAgent
  · exact answered

theorem takeConnect (h : WaitingFlags u) {j : Junctor} : WaitingFlags (u.takeConnect x tag j) := by
  unfold State.takeConnect
  split
  · exact h.give
  next g _ =>
    have displaced := h.foldl (f := fun v i => v.releaseGuest u i)
      ((List.finRange 16).filter fun i => i != g && u.guestHolds x j i) fun _ _ k => k.releaseGuest
    exact displaced.same (by simp)

theorem takeWithdraw (h : WaitingFlags u) : WaitingFlags (u.takeWithdraw x tag) := by
  unfold State.takeWithdraw
  split
  · exact h
  · exact h.releaseGuest

/-! ## The deadlines and the scan of the overflow -/

theorem offerExpiry (h : WaitingFlags u) {o : SlotNo} : WaitingFlags (u.offerExpiry o) := by
  unfold State.offerExpiry
  split
  · exact h.failOffer
  · exact h

theorem lentExpiry (h : WaitingFlags u) : WaitingFlags (u.lentExpiry t) := by
  unfold State.lentExpiry
  split
  · exact h.give.returnCall
  · exact h

theorem connectExpiry (h : WaitingFlags u) : WaitingFlags (u.connectExpiry g) := by
  unfold State.connectExpiry
  split
  · exact h
  · exact h.give.freeGuest.reportAgent

/-- An OFFERED call keeps its flag: an offer is no end of its hold. -/
theorem makeOffer (h : WaitingFlags u) {q : QueueNo} {b : CallBody} {o : SlotNo} {j : Junctor} :
    WaitingFlags (u.makeOffer q t b o j x) := by
  have taken : WaitingFlags (((u.setSlot o (some ⟨t, q, deadline u.now u.items.offerLimit⟩)).setFreeOrder
      u.sps.freeOrder.tail).setJunctor j (.bound t)) := h.same (by simp)
  exact (taken.setPhase (t := t) (p := .offered o x j)).same (by simp [State.makeOffer])

theorem scanQueue (h : WaitingFlags u) {q : QueueNo} : WaitingFlags (u.scanQueue q) := by
  unfold State.scanQueue
  split
  · exact h
  · split
    · exact h
    · split
      · split
        · exact h.makeOffer
        · exact h
      · exact h

theorem offerScan (h : WaitingFlags u) : WaitingFlags u.offerScan := h.foldl _ fun _ _ k => k.scanQueue

/-! ## Peers, the link and the clock -/

theorem takeNotice (h : WaitingFlags u) {n : Notice} : WaitingFlags (u.takeNotice x n) := by
  unfold State.takeNotice
  extract_lets was restart w v
  clear_value was
  have entered : WaitingFlags w := by
    have lost : WaitingFlags (if restart then u.losePeer u x else u) := by
      split
      · exact h.losePeer
      · exact h
    exact lost.same ⟨rfl, rfl⟩
  have told : WaitingFlags v := by
    unfold v
    split
    · exact entered.writeReport
    · split
      · exact entered
      all_goals exact entered.writeReport
  exact told.foldl _ fun _ _ k => k.releaseGuest

theorem presenceExpiry (h : WaitingFlags u) : WaitingFlags (u.presenceExpiry x) := by
  unfold State.presenceExpiry
  split
  · exact (h.losePeer.same (v := (u.losePeer u x).setPeer x _) ⟨rfl, rfl⟩).writeReport
  · exact h
  · exact h

theorem tellDropped (h : WaitingFlags u) {entry : TxEntry} : WaitingFlags (u.tellDropped entry) := by
  unfold State.tellDropped
  split
  · exact h.same (by simp)
  · unfold State.failDropped
    split
    · split
      · exact h.failOffer
      · exact h
    · exact h

theorem attemptLost (h : WaitingFlags u) : WaitingFlags u.attemptLost := by
  unfold State.attemptLost
  extract_lets _ w
  split
  · exact h.same (v := w) ⟨rfl, rfl⟩
  next entry _ =>
    extract_lets v z
    have lost : WaitingFlags v := by
      unfold v
      split
      all_goals exact h.same ⟨rfl, rfl⟩
    split
    · exact lost
    · have counted : WaitingFlags (z.setPlc { z.plc with contentionDrop := satUp 65535 z.plc.contentionDrop }) :=
        lost.same ⟨rfl, rfl⟩
      exact counted.tellDropped

theorem deliver (h : WaitingFlags u) {c : Payload} : WaitingFlags (u.deliver x c) := by
  unfold State.deliver
  split
  · exact h.takeNotice
  · exact h.takeOffer
  · exact h.takeTake
  · exact h.takeDecline
  · exact h.takeConnect
  · exact h.takeAnswered
  · exact h.takeBounce
  · exact h.takeAgentDone
  all_goals exact h.takeWithdraw

theorem frameReceived (h : WaitingFlags u) (l : List Byte) (damaged marked : Bool) :
    WaitingFlags (u.frameReceived l damaged marked) := by
  have ends : WaitingFlags (u.frameEnds marked) := h.same (by simp)
  have taken (r : RxResult) : WaitingFlags ((u.frameEnds marked).takeRx r) := by
    cases r with
    | deliver y c => exact ends.deliver
    | _ => exact ends.same ⟨rfl, rfl⟩
  unfold State.frameReceived
  split
  · refine h.event fun _ => ?_
    simp only
    split
    · exact ends
    · exact taken _
  · exact ends

/-- Whatever deadline the tick takes keeps the list and the flags. -/
theorem tickWork {d : TickEvent} {f : State → State} (h : WaitingFlags u) (hf : u.tickWork d = some f) :
    WaitingFlags (f u) := by
  cases d <;> simp only [State.tickWork, Option.map_eq_some_iff, Option.ite_none_right_eq_some, Option.some.injEq] at hf
  case presence => obtain ⟨x, -, rfl⟩ := hf; exact h.presenceExpiry
  case offer => obtain ⟨o, -, rfl⟩ := hf; exact h.offerExpiry
  case lent => obtain ⟨t, -, rfl⟩ := hf; exact h.lentExpiry
  case connect => obtain ⟨g, -, rfl⟩ := hf; exact h.connectExpiry
  all_goals obtain ⟨-, rfl⟩ := hf
  case disconnectFilter => exact h.disconnectExpiry
  case headsetFilter => exact h.headsetExpiry
  case ring => exact h.ringExpiry
  case readyAtMin => exact h.readyAtMin
  case wrapExpiry => exact h.wrapExpiry
  case nextDue => exact h.modifyCall fun _ => rfl
  case spacingEnd => exact h
  all_goals exact h.same (by simp)

theorem tickEvent (h : WaitingFlags u) {d : TickEvent} : WaitingFlags (u.tickEvent d) := by
  unfold State.tickEvent
  split
  next hf => exact h.event fun k => k.tickWork hf
  next => exact h

theorem tickEvents (h : WaitingFlags u) (l : List TickEvent) : WaitingFlags (u.tickEvents l) :=
  h.foldl l fun _ _ k => k.tickEvent

theorem tick (h : WaitingFlags u) (plan : TickPlan) : WaitingFlags (u.tick plan) := by
  unfold State.tick
  extract_lets ready worked
  have drained : WaitingFlags ready := (h.tickEvents defaultTick).tickEvents _
  clear_value ready
  have advanced : WaitingFlags ready.advance := drained.same (by simp)
  have done : WaitingFlags worked := (advanced.tickEvents plan.first).tickEvents (restOfTick plan)
  exact (done.event fun k => k.offerScan).tickEvent

theorem blockBoundary (h : WaitingFlags u) (order : List Channel) : WaitingFlags (u.blockBoundary order) := by
  unfold State.blockBoundary
  extract_lets w
  have counted : WaitingFlags (w.setBoundariesDue (w.pbc.boundariesDue - 1)) := h.same (by simp [w])
  refine counted.foldl _ fun v c k => ?_
  rcases State.takeBoundary_cases v c with ⟨-, hb⟩ | ⟨-, hb⟩ <;> rw [hb]
  · exact k.event fun k => k.boundaryWork
  · exact k

/-! ## The maintenance port, and every command -/

/-- After a reset no call stands and none waits. -/
theorem resetTo (s : State) (m : Image) (y : Station) (o : List Order) : WaitingFlags (s.resetTo m y o) :=
  waitingFlags_reset.same ⟨rfl, rfl⟩

theorem respond (h : WaitingFlags u) {c : StatusCode} {l : List Byte} : WaitingFlags (u.respond c l) := h.same ⟨rfl, rfl⟩

theorem command (h : WaitingFlags u) (k : Command) (l : List Byte) : WaitingFlags (u.command k l) := by
  cases k with
  | start =>
    change WaitingFlags (u.commandStart l)
    unfold State.commandStart
    split
    · exact h.respond
    · split
      · exact h.respond
      · split
        · exact h.respond
        · have entered : WaitingFlags u.enterRun :=
            h.same (by simp [State.enterRun_eq, State.started])
          exact (h.event fun _ => entered).respond
  | restart =>
    change WaitingFlags (u.commandRestart l)
    unfold State.commandRestart
    split
    · exact (resetTo u u.mpi.image u.mpi.station (u.lsi.orders.take 1)).respond
    · exact h.respond
  | reportNext =>
    change WaitingFlags (u.commandReportNext l)
    unfold State.commandReportNext
    split
    · exact h.respond
    · split
      · exact h.respond
      next rest _ => exact (h.same (v := (u.setFifo rest).refresh) (by simp)).respond
  | set =>
    change WaitingFlags (u.commandSet l)
    unfold State.commandSet
    (repeat' split) <;> exact h.same ⟨rfl, rfl⟩
  | select =>
    change WaitingFlags (u.commandSelect l)
    unfold State.commandSelect
    (repeat' split) <;> exact h.same ⟨rfl, rfl⟩
  | readNext =>
    change WaitingFlags (u.commandReadNext l)
    unfold State.commandReadNext
    split <;> exact h.same ⟨rfl, rfl⟩
  | status =>
    change WaitingFlags (u.commandStatus l)
    unfold State.commandStatus
    split <;> exact h.same ⟨rfl, rfl⟩

theorem transact (h : WaitingFlags u) (l : List Byte) : WaitingFlags (u.transact l) := by
  unfold State.transact
  split
  · exact h.same (by simp)
  · split
    · exact h.same (by simp)
    · split
      · exact h.respond
      · split
        · exact h.respond
        · exact h.command _ _

theorem nextOf_rowOf (h : WaitingFlags u) (d : TickEvent) : WaitingFlags (nextOf (rowOf d) u) := by
  by_cases run : u.running = true ∨ d ≠ .sweepEnd
  · rw [Machine.nextOf_rowOf u d run]
    exact h.tickEvent
  · obtain ⟨stop, rfl⟩ := not_or.1 run |>.imp_right not_not.1
    have idle : nextOf (rowOf .sweepEnd) u = u := by
      simp [nextOf, rowOf, exec, execStartSweepEnd, stop]
    rwa [idle]

theorem busSeen (h : WaitingFlags u) (sign : BusSign) :
    WaitingFlags (if u.running then u.event (·.busSeen sign) else u.busSeen sign) := by
  have seen : WaitingFlags (u.busSeen sign) := h.same (by simp)
  split
  · exact h.event fun _ => seen
  · exact seen

/-- Every command keeps the waiting list and the waiting flags in agreement. -/
theorem nextOf (h : WaitingFlags u) (c : Instr) : WaitingFlags (nextOf c u) :=
  nextOf_induct (P := WaitingFlags) c h (fun y _ => resetTo u _ y _) (fun _ => h.tick) (fun _ => h.blockBoundary)
    (fun l _ => h.scanReceiveAll l) (h.same ⟨rfl, rfl⟩) h.nextOf_rowOf (fun _ _ => h.event fun k => k.fetchDone)
    h.busSeen (h.event fun k => k.attemptLost) (fun _ => h.event fun k => k.same (by simp)) h.frameReceived
    (fun k l _ => h.command k l) fun l _ => h.transact l

end WaitingFlags
end Sys2Proof.Claims

namespace Sys2Proof.Proofs

open Machine Claims

/-- Settles O8: the list and the flags are written together, a call joins only where it does not wait, and the entries that
leave with a clip are the only ones of their trunks. -/
theorem waitingFlagsAreKept : Obligations.WaitingFlagsAreKept := by
  intro s u h e
  rw [step_eq] at e
  cases e
  cases s.pending with
  | nil => exact h
  | cons c rest =>
    have taken : WaitingFlags { s with pending := rest } := h.same ⟨rfl, rfl⟩
    exact taken.nextOf c

end Sys2Proof.Proofs
end

section
/-! PROOF. The orders of the junctors agree with their states (JunctorOrders) through the three acts that move a junctor: it
is bound at the head of the free order (R136), freed into holdoff, and freed from holdoff (R137); and so through every
operation of the calls and the overflow, which move junctors by these alone. -/

namespace Sys2Proof.Claims

open Machine

namespace JunctorOrders

variable {u v : State} {j : Junctor} {t : Trunk}

/-! ## The acts that move a junctor -/

/-- The orders, read off the state of a junctor. -/
theorem iff_mem (s : State) : JunctorOrders s ↔
    s.sps.freeOrder.Nodup ∧ s.sps.holdoffOrder.Nodup ∧ ∀ j : Junctor,
      (j ∈ s.sps.freeOrder ↔ s.sps.junctors[j] = .free) ∧
        (j ∈ s.sps.holdoffOrder ↔ ∃ a, s.sps.junctors[j] = .holdoff a) :=
  junctorOrders_iff s

/-- Neither the junctors nor their orders are written. -/
theorem same (h : JunctorOrders u) (kept : v.sps.junctors = u.sps.junctors ∧ v.sps.freeOrder = u.sps.freeOrder ∧
    v.sps.holdoffOrder = u.sps.holdoffOrder) : JunctorOrders v := by
  obtain ⟨junctors, free, holdoff⟩ := kept
  unfold JunctorOrders
  rwa [junctors, free, holdoff]

/-- The junctor at the head of the free order is bound (R136). -/
theorem bindHead (h : JunctorOrders u) (head : u.sps.freeOrder.head? = some j) :
    JunctorOrders ((u.setFreeOrder u.sps.freeOrder.tail).setJunctor j (.bound t)) := by
  rw [iff_mem] at h ⊢
  obtain ⟨freeNodup, holdoffNodup, mem⟩ := h
  obtain ⟨rest, order⟩ := List.head?_eq_some_iff.1 head
  have free : u.sps.junctors[j] = .free := (mem j).1.1 (order ▸ List.mem_cons_self)
  rw [order, List.nodup_cons] at freeNodup
  obtain ⟨gone, restNodup⟩ := freeNodup
  refine ⟨by simpa [order] using restNodup, holdoffNodup, fun i => ?_⟩
  by_cases hi : i = j
  · subst hi
    have not_held : i ∉ u.sps.holdoffOrder := by simp [(mem i).2, free]
    simp [order, gone, not_held]
  · simpa [order, hi, getElem_set_other _ _ hi] using mem i

/-- A junctor is freed into holdoff from BOUND alone, in which it stands in neither order (R137). -/
theorem freeJunctor (h : JunctorOrders u) : JunctorOrders (u.freeJunctor j) := by
  unfold State.freeJunctor
  split
  next t bound =>
    rw [iff_mem] at h ⊢
    obtain ⟨freeNodup, holdoffNodup, mem⟩ := h
    have not_free : j ∉ u.sps.freeOrder := by simp [(mem j).1, bound]
    have not_held : j ∉ u.sps.holdoffOrder := by simp [(mem j).2, bound]
    refine ⟨freeNodup, List.concat_eq_append ▸ holdoffNodup.concat not_held, fun i => ?_⟩
    by_cases hi : i = j
    · subst hi
      simp [not_free]
    · simpa [hi, getElem_set_other _ _ hi] using mem i
  next => exact h

/-- The junctors that leave holdoff join the free order, in which none of them stands (R137). -/
theorem endHoldoffs (h : JunctorOrders u) : JunctorOrders u.endHoldoffs := by
  rw [iff_mem] at h ⊢
  obtain ⟨freeNodup, holdoffNodup, mem⟩ := h
  have free : u.endHoldoffs.sps.freeOrder = u.sps.freeOrder ++ u.sps.holdoffOrder.filter u.holdoffReached := rfl
  have held : u.endHoldoffs.sps.holdoffOrder = u.sps.holdoffOrder.filter fun j => !u.holdoffReached j := rfl
  have junctor (j : Junctor) : u.endHoldoffs.sps.junctors[j] =
      if j ∈ u.sps.holdoffOrder.filter u.holdoffReached then .free else u.sps.junctors[j] := u.freed_junctors _ j
  have not_free {j : Junctor} (hj : j ∈ u.sps.holdoffOrder) : j ∉ u.sps.freeOrder := by
    obtain ⟨a, holdoff⟩ := (mem j).2.1 hj
    simp [(mem j).1, holdoff]
  rw [free, held]
  refine ⟨freeNodup.append (holdoffNodup.filter _) fun j hj reached => not_free (List.mem_of_mem_filter reached) hj,
    holdoffNodup.filter _, fun j => ?_⟩
  simp only [junctor, List.mem_append, List.mem_filter]
  by_cases hj : j ∈ u.sps.holdoffOrder
  · obtain ⟨a, holdoff⟩ := (mem j).2.1 hj
    cases u.holdoffReached j <;> simp [hj, not_free hj, holdoff]
  · simpa [hj] using mem j

/-! ## What is built of many -/

theorem foldl {α : Type} {f : State → α → State} (l : List α) (h : JunctorOrders u)
    (hf : ∀ v a, JunctorOrders v → JunctorOrders (f v a)) : JunctorOrders (l.foldl f u) :=
  List.foldlRecOn l f h fun v hv a _ => hf v a hv

theorem event (h : JunctorOrders u) {f : State → State} (hf : JunctorOrders u → JunctorOrders (f u)) :
    JunctorOrders (u.event f) :=
  (hf h).same (by simp [State.event])

/-! ## Calls and the loss of a peer -/

variable {p : Position} {before : State}

theorem issue (h : JunctorOrders u) {o : Order} : JunctorOrders (u.issue o) := h.same (by simp)

theorem give (h : JunctorOrders u) {x : Station} {c : Payload} : JunctorOrders (u.give x c) := h.same (by simp)

theorem setPhase (h : JunctorOrders u) {c : CallPhase} : JunctorOrders (u.setPhase t c) := h.same (by simp)

theorem matchCall (h : JunctorOrders u) : JunctorOrders (u.matchCall t) := h.same (by simp)

theorem requeue (h : JunctorOrders u) {q : QueueNo} : JunctorOrders (u.requeue q t) := h.same (by simp)

theorem takePending (h : JunctorOrders u) : JunctorOrders (u.takePending p) := h.same (by simp)

theorem openWrap (h : JunctorOrders u) {q : QueueNo} {n : Nat} : JunctorOrders (u.openWrap p q n) := h.same (by simp)

theorem reportAgent (h : JunctorOrders u) {c : AgentCause} : JunctorOrders (u.reportAgent before p c) := h.same (by simp)

theorem releaseGuest (h : JunctorOrders u) {g : GuestNo} : JunctorOrders (u.releaseGuest before g) := h.same (by simp)

theorem freeOverflow (h : JunctorOrders u) {c : CallPhase} : JunctorOrders (u.freeOverflow c) := by
  cases c with
  | offered o x j => exact (h.same (v := u.setSlot o none) (by simp)).freeJunctor
  | lentAlerting | lentTalking => exact h.freeJunctor
  | queued | alerting | talking => exact h

theorem endCall (h : JunctorOrders u) : JunctorOrders (u.endCall t) := by
  unfold State.endCall
  split
  · exact h
  next b _ =>
    have freed : JunctorOrders ((u.clearTrunk t).freeOverflow b.phase) := (h.same (v := u.clearTrunk t) (by simp)).freeOverflow
    exact freed.same (by simp)

theorem failOffer (h : JunctorOrders u) : JunctorOrders (u.failOffer t) := by
  unfold State.failOffer
  split
  · exact h.freeOverflow.setPhase.matchCall
  · exact h

theorem returnCall (h : JunctorOrders u) : JunctorOrders (u.returnCall t) := by
  unfold State.returnCall
  split
  · exact h
  next b _ =>
    split
    case h_1 | h_2 => exact h.freeOverflow.setPhase.requeue
    case h_3 =>
      have recovered : JunctorOrders ((u.freeOverflow b.phase).modifyCall t
          fun c => { c with phase := .queued, priority := 3, recovered := true }) :=
        (h.freeOverflow (c := b.phase)).same (by simp)
      exact recovered.requeue
    all_goals exact h

theorem callerRelease (h : JunctorOrders u) : JunctorOrders (u.callerRelease before t) := by
  unfold State.callerRelease
  split
  · exact h
  · simp only
    split
    case h_1 => exact h.endCall
    case h_3 => exact h.issue.endCall.takePending.reportAgent
    case h_4 => exact h.endCall.openWrap.reportAgent
    all_goals exact h.give.endCall

theorem settleCall (h : JunctorOrders u) : JunctorOrders (u.settleCall t) := by
  unfold State.settleCall
  split
  · exact h.failOffer
  · exact h.returnCall

theorem losePeer (h : JunctorOrders u) {x : Station} : JunctorOrders (u.losePeer before x) :=
  (h.foldl _ fun _ _ k => k.settleCall).foldl _ fun _ _ k => k.releaseGuest

/-! ## Keys and headset loss -/

theorem bounceGuest (h : JunctorOrders u) {g : GuestNo} {c : BounceCause} : JunctorOrders (u.bounceGuest g c) :=
  h.same (by simp)

/-- Of the keys RELEASE alone may end a call, and ends it as every call ends. -/
theorem keyRelease (h : JunctorOrders u) : JunctorOrders (u.keyRelease p) := by
  unfold State.keyRelease
  split
  · unfold State.releaseCall
    split
    · exact h
    · exact h.endCall.openWrap.reportAgent
  · exact h.same (by simp)
  all_goals exact h.same (by simp)

theorem giveUp (h : JunctorOrders u) {b : Bound} {c : AgentCause} {d : BounceCause} :
    JunctorOrders (u.giveUp before p b c d) := by
  have stopped : JunctorOrders (((u.issue (.stopRing p)).outOfService p).reportAgent before p c) := h.same (by simp)
  cases b with
  | call t => exact stopped.returnCall
  | guest g => exact stopped.bounceGuest

theorem headsetLoss (h : JunctorOrders u) : JunctorOrders (u.headsetLoss before p) := by
  unfold State.headsetLoss
  simp only
  split
  case h_5 => exact (h.same (v := u.setAgent p _) (by simp)).giveUp
  all_goals exact h.same (by simp)

theorem ringExpiry (h : JunctorOrders u) : JunctorOrders (u.ringExpiry p) := by
  unfold State.ringExpiry
  split
  · exact h.giveUp
  · exact h

/-! ## The scanner -/

theorem takeCharRun (h : JunctorOrders u) (c : ScanChar) : JunctorOrders (u.takeCharRun c) := by
  unfold State.takeCharRun
  split
  case h_9 => exact h.keyRelease
  all_goals exact h.same (by simp)

theorem takeScan (h : JunctorOrders u) (r : ScanResult) : JunctorOrders (u.takeScan r) := by
  unfold State.takeScan
  split
  · exact h
  · split
    · exact h.same (by simp)
    · exact h
  next c =>
    split
    · exact h.event fun k => k.takeCharRun c
    · exact h.same (by simp)

theorem scanReceiveAll (h : JunctorOrders u) (l : List Byte) : JunctorOrders (u.scanReceiveAll l) :=
  h.foldl l fun v b k => (k.same (v := v.setScanOpen (scanByte v.lsi.scanOpen b).1) (by simp)).takeScan _

theorem disconnectExpiry (h : JunctorOrders u) : JunctorOrders (u.disconnectExpiry t) :=
  (h.same (v := u.setTrunkSup t _) (by simp)).callerRelease

theorem headsetExpiry (h : JunctorOrders u) : JunctorOrders (u.headsetExpiry p) :=
  (h.same (v := u.setPositionSup p _) (by simp)).headsetLoss

/-! ## The overflow -/

variable {x : Station} {tag : Tag}

theorem takeDecline (h : JunctorOrders u) : JunctorOrders (u.takeDecline x tag) := by
  unfold State.takeDecline
  split
  · split
    · exact (h.same (v := u.markDecline x _) (by simp)).failOffer
    · exact h
  · exact h

theorem takeBounce (h : JunctorOrders u) : JunctorOrders (u.takeBounce x tag) := by
  unfold State.takeBounce
  split
  · split
    · exact h.returnCall
    · exact h
  · exact h

theorem takeAgentDone (h : JunctorOrders u) : JunctorOrders (u.takeAgentDone x tag) := by
  unfold State.takeAgentDone
  split
  · split
    · exact h.endCall
    · exact h
  · exact h

theorem offerExpiry (h : JunctorOrders u) {o : SlotNo} : JunctorOrders (u.offerExpiry o) := by
  unfold State.offerExpiry
  split
  · exact h.failOffer
  · exact h

theorem lentExpiry (h : JunctorOrders u) : JunctorOrders (u.lentExpiry t) := by
  unfold State.lentExpiry
  split
  · exact h.give.returnCall
  · exact h

theorem makeOffer (h : JunctorOrders u) {q : QueueNo} {b : CallBody} {o : SlotNo} (head : u.sps.freeOrder.head? = some j) :
    JunctorOrders (u.makeOffer q t b o j x) := by
  have busy : JunctorOrders (u.setSlot o (some ⟨t, q, deadline u.now u.items.offerLimit⟩)) := h.same (by simp)
  exact (busy.bindHead (t := t) head).same (by simp [State.makeOffer])

/-- The junctor of an offer is the head of the free order (R136). -/
theorem scanQueue (h : JunctorOrders u) {q : QueueNo} : JunctorOrders (u.scanQueue q) := by
  unfold State.scanQueue
  split
  · exact h
  · split
    · exact h
    · split
      next head _ =>
        split
        · exact h.makeOffer head
        · exact h
      next => exact h

theorem offerScan (h : JunctorOrders u) : JunctorOrders u.offerScan := h.foldl _ fun _ _ k => k.scanQueue

end JunctorOrders
end Sys2Proof.Claims
end

section
/-! PROOF. Every step keeps the orders of the junctors in agreement with their states (JunctorOrdersAreKept). -/

namespace Sys2Proof.Claims

open Machine

namespace JunctorOrders

variable {u v : State} {x : Station}

/-! ## Peers, the link and the clock -/

theorem takeNotice (h : JunctorOrders u) {n : Notice} : JunctorOrders (u.takeNotice x n) := by
  unfold State.takeNotice
  extract_lets was restart w v
  clear_value was
  have lost : JunctorOrders (if restart then u.losePeer u x else u) := by
    split
    · exact h.losePeer
    · exact h
  have entered : JunctorOrders w := lost.same ⟨rfl, rfl, rfl⟩
  have told : JunctorOrders v := by
    unfold v
    split
    · exact entered.same (by simp)
    · split
      · exact entered
      all_goals exact entered.same (by simp)
  exact told.same (by simp)

theorem presenceExpiry (h : JunctorOrders u) : JunctorOrders (u.presenceExpiry x) := by
  unfold State.presenceExpiry
  split
  · exact (h.losePeer (before := u) (x := x)).same (by simp)
  all_goals exact h

theorem tellDropped (h : JunctorOrders u) {entry : TxEntry} : JunctorOrders (u.tellDropped entry) := by
  unfold State.tellDropped
  split
  · exact h.same (by simp)
  · unfold State.failDropped
    split
    · split
      · exact h.failOffer
      · exact h
    · exact h

/-- Before a dropped entry is told of, a lost attempt writes the link's record alone. -/
theorem attemptLost (h : JunctorOrders u) : JunctorOrders u.attemptLost := by
  unfold State.attemptLost
  extract_lets _ w
  split
  · exact h.same (v := w) ⟨rfl, rfl, rfl⟩
  next entry _ =>
    extract_lets v z
    have lost : JunctorOrders v := by
      unfold v
      split
      all_goals exact h.same ⟨rfl, rfl, rfl⟩
    split
    · exact lost
    · have counted : JunctorOrders (z.setPlc { z.plc with contentionDrop := satUp 65535 z.plc.contentionDrop }) :=
        lost.same ⟨rfl, rfl, rfl⟩
      exact counted.tellDropped

/-- Of the frames, those that can end or return a call move a junctor, and a notice of a restart. -/
theorem deliver (h : JunctorOrders u) {c : Payload} : JunctorOrders (u.deliver x c) := by
  unfold State.deliver
  split
  case h_1 => exact h.takeNotice
  case h_4 => exact h.takeDecline
  case h_7 => exact h.takeBounce
  case h_8 => exact h.takeAgentDone
  all_goals exact h.same (by simp)

theorem frameReceived (h : JunctorOrders u) (l : List Byte) (damaged marked : Bool) :
    JunctorOrders (u.frameReceived l damaged marked) := by
  have ends : JunctorOrders (u.frameEnds marked) := h.same (by simp)
  have taken (r : RxResult) : JunctorOrders ((u.frameEnds marked).takeRx r) := by
    cases r with
    | deliver y c => exact ends.deliver
    | _ => exact ends.same ⟨rfl, rfl, rfl⟩
  unfold State.frameReceived
  split
  · refine h.event fun _ => ?_
    simp only
    split
    · exact ends
    · exact taken _
  · exact ends

/-- Whatever deadline the tick takes keeps the orders. -/
theorem tickWork {d : TickEvent} {f : State → State} (h : JunctorOrders u) (hf : u.tickWork d = some f) :
    JunctorOrders (f u) := by
  cases d <;> simp only [State.tickWork, Option.map_eq_some_iff, Option.ite_none_right_eq_some, Option.some.injEq] at hf
  case presence => obtain ⟨x, -, rfl⟩ := hf; exact h.presenceExpiry
  case offer => obtain ⟨o, -, rfl⟩ := hf; exact h.offerExpiry
  case lent => obtain ⟨t, -, rfl⟩ := hf; exact h.lentExpiry
  case connect => obtain ⟨g, -, rfl⟩ := hf; exact h.same (by simp)
  all_goals obtain ⟨-, rfl⟩ := hf
  case disconnectFilter => exact h.disconnectExpiry
  case headsetFilter => exact h.headsetExpiry
  case ring => exact h.ringExpiry
  case holdoffEnd => exact h.endHoldoffs
  case spacingEnd => exact h
  all_goals exact h.same (by simp)

theorem tickEvent (h : JunctorOrders u) {d : TickEvent} : JunctorOrders (u.tickEvent d) := by
  unfold State.tickEvent
  split
  next hf => exact h.event fun k => k.tickWork hf
  next => exact h

theorem tickEvents (h : JunctorOrders u) (l : List TickEvent) : JunctorOrders (u.tickEvents l) :=
  h.foldl l fun _ _ k => k.tickEvent

theorem tick (h : JunctorOrders u) (plan : TickPlan) : JunctorOrders (u.tick plan) := by
  unfold State.tick
  extract_lets ready worked
  have drained : JunctorOrders ready := (h.tickEvents defaultTick).tickEvents _
  clear_value ready
  have advanced : JunctorOrders ready.advance := drained.same (by simp)
  have done : JunctorOrders worked := (advanced.tickEvents plan.first).tickEvents (restOfTick plan)
  exact (done.event fun k => k.offerScan).tickEvent

/-! ## The maintenance port, and every command -/

/-- After a reset every junctor is FREE, in the order of their numbers. -/
theorem resetTo (s : State) (m : Image) (y : Station) (o : List Order) : JunctorOrders (s.resetTo m y o) :=
  (junctorOrders_iff _).2 ((State.Sound.resetTo (n := 2) (F := fun _ => False) s m y o).orders le_rfl)

theorem respond (h : JunctorOrders u) {c : StatusCode} {l : List Byte} : JunctorOrders (u.respond c l) :=
  h.same ⟨rfl, rfl, rfl⟩

/-- Of the maintenance commands RESTART alone writes the junctors. -/
theorem command (h : JunctorOrders u) (k : Command) (l : List Byte) : JunctorOrders (u.command k l) := by
  cases k with
  | restart =>
    change JunctorOrders (u.commandRestart l)
    unfold State.commandRestart
    split
    · exact (resetTo u u.mpi.image u.mpi.station (u.lsi.orders.take 1)).respond
    · exact h.respond
  | start =>
    change JunctorOrders (u.commandStart l)
    unfold State.commandStart
    split
    · exact h.respond
    · split
      · exact h.respond
      · split
        · exact h.respond
        · have entered : JunctorOrders u.enterRun := h.same (by simp [State.enterRun_eq, State.started])
          exact (h.event fun _ => entered).respond
  | reportNext =>
    change JunctorOrders (u.commandReportNext l)
    unfold State.commandReportNext
    split
    · exact h.respond
    · split
      · exact h.respond
      next rest _ => exact (h.same (v := (u.setFifo rest).refresh) (by simp)).respond
  | set =>
    change JunctorOrders (u.commandSet l)
    unfold State.commandSet
    (repeat' split) <;> exact h.same ⟨rfl, rfl, rfl⟩
  | select =>
    change JunctorOrders (u.commandSelect l)
    unfold State.commandSelect
    (repeat' split) <;> exact h.same ⟨rfl, rfl, rfl⟩
  | readNext =>
    change JunctorOrders (u.commandReadNext l)
    unfold State.commandReadNext
    split <;> exact h.same ⟨rfl, rfl, rfl⟩
  | status =>
    change JunctorOrders (u.commandStatus l)
    unfold State.commandStatus
    split <;> exact h.same ⟨rfl, rfl, rfl⟩

theorem transact (h : JunctorOrders u) (l : List Byte) : JunctorOrders (u.transact l) := by
  unfold State.transact
  split
  · exact h.same (by simp)
  · split
    · exact h.same (by simp)
    · split
      · exact h.respond
      · split
        · exact h.respond
        · exact h.command _ _

theorem nextOf_rowOf (h : JunctorOrders u) (d : TickEvent) : JunctorOrders (nextOf (rowOf d) u) := by
  by_cases run : u.running = true ∨ d ≠ .sweepEnd
  · rw [Machine.nextOf_rowOf u d run]
    exact h.tickEvent
  · obtain ⟨stop, rfl⟩ := not_or.1 run |>.imp_right not_not.1
    have idle : nextOf (rowOf .sweepEnd) u = u := by
      simp [nextOf, rowOf, exec, execStartSweepEnd, stop]
    rwa [idle]

theorem busSeen (h : JunctorOrders u) (sign : BusSign) :
    JunctorOrders (if u.running then u.event (·.busSeen sign) else u.busSeen sign) := by
  have seen : JunctorOrders (u.busSeen sign) := h.same (by simp)
  split
  · exact h.event fun _ => seen
  · exact seen

/-- Every command keeps the orders. -/
theorem nextOf (h : JunctorOrders u) (c : Instr) : JunctorOrders (nextOf c u) :=
  nextOf_induct (P := JunctorOrders) c h (fun y _ => resetTo u _ y _) (fun _ => h.tick) (fun _ _ => h.same (by simp))
    (fun l _ => h.scanReceiveAll l) (h.same ⟨rfl, rfl, rfl⟩) h.nextOf_rowOf
    (fun _ _ => h.event fun k => k.same (by simp)) h.busSeen (h.event fun k => k.attemptLost)
    (fun _ => h.event fun k => k.same (by simp)) h.frameReceived (fun k l _ => h.command k l) fun l _ => h.transact l

end JunctorOrders
end Sys2Proof.Claims

namespace Sys2Proof.Proofs

open Machine Claims

/-- Settles O7: a junctor is bound from FREE, freed into holdoff from BOUND and freed again from HOLDOFF, and at each of the
three its place in the orders moves with its state. -/
theorem junctorOrdersAreKept : Obligations.JunctorOrdersAreKept := by
  intro s u h e
  rw [step_eq] at e
  cases e
  cases s.pending with
  | nil => exact h
  | cons c rest =>
    have taken : JunctorOrders { s with pending := rest } := h.same ⟨rfl, rfl, rfl⟩
    exact taken.nextOf c

end Sys2Proof.Proofs
end

section
/-! PROOF. The period timer, the end of the spacing hold, and the contents of a notice (NoticesAreTimedAndBuilt). -/

namespace Sys2Proof.Machine.State

variable {s : State}

/-! ## The period timer (R157) -/

theorem periodReached_iff : s.periodReached = true ↔ s.pvt.periodDeadline = some s.now := beq_iff_eq

theorem exec_availPeriodExpiry (reached : s.pvt.periodDeadline = some s.now) :
    exec .availPeriodExpiry s =
      .next ((s.requestNotice.setPeriod (some (deadline s.now s.items.availPeriod))).close s) :=
  congrArg Host.Outcome.next (if_pos (periodReached_iff.2 reached))

theorem exec_availPeriodExpiry_idle (waits : s.pvt.periodDeadline ≠ some s.now) : exec .availPeriodExpiry s = .next s :=
  congrArg Host.Outcome.next (if_neg (waits ∘ periodReached_iff.1))

/-! ## The end of the spacing hold (R148) -/

theorem spacingEnded_iff : s.spacingEnded = true ↔
    (∃ c, s.plc.lastAvail = some c ∧ 2 ≤ elapsed c s.now) ∧ s.plc.placeholder = .waiting := by
  unfold spacingEnded
  cases s.plc.lastAvail <;> simp [Config.availGap]

theorem exec_availSpacingEnd (ended : s.spacingEnded = true) : exec .availSpacingEnd s = .next (s.close s) :=
  congrArg Host.Outcome.next (if_pos ended)

theorem exec_availSpacingEnd_idle (held : ¬s.spacingEnded = true) : exec .availSpacingEnd s = .next s :=
  congrArg Host.Outcome.next (if_neg held)

/-! ## The contents of a notice (R156, R138) -/

theorem length_idleSet (s : State) (q : QueueNo) : (s.idleSet q).length = (List.finRange 24).countP (s.idle q) :=
  List.countP_eq_length_filter.symm

theorem buildNotice_idle (s : State) (q : QueueNo) : s.buildNotice.idle[q] = min (s.idleSet q).length 15 :=
  Vector.getElem_ofFn _

theorem buildNotice_band (s : State) (q : QueueNo) : s.buildNotice.band[q] = s.band q (s.cqm.lists[q].length + 1) :=
  Vector.getElem_ofFn _

theorem peerOf_eq_some {c : CallPhase} {x : Station} : peerOf c = some x ↔
    (∃ o j, c = .offered o x j) ∨ (∃ j d, c = .lentAlerting x j d) ∨ ∃ j a, c = .lentTalking x j a := by
  cases c <;> simp [peerOf]

/-- The junctor map shows a junctor that is BOUND with the peer that the record of its call names (R138). -/
theorem buildNotice_map (s : State) (j : Junctor) (x : Station) : s.buildNotice.map[j] = some x ↔
    ∃ t b, s.sps.junctors[j] = .bound t ∧ s.call t = some b ∧ peerOf b.phase = some x := by
  rw [show s.buildNotice.map[j] = _ from Vector.getElem_ofFn _]
  cases s.sps.junctors[j] with
  | free | holdoff => simp
  | bound t => simp [Option.bind_eq_some_iff]

end Sys2Proof.Machine.State

namespace Sys2Proof.Proofs

open Machine State

/-- Settles O34: each of the two rows takes its event exactly where its condition holds, and each field of a notice is a count
or a reading of the records. -/
theorem noticesAreTimedAndBuilt : Obligations.NoticesAreTimedAndBuilt := by
  refine ⟨fun s => ⟨exec_availPeriodExpiry, exec_availPeriodExpiry_idle, fun c last passed waiting => ?_, fun kept => ?_⟩,
    fun s => ⟨rfl, rfl, fun q => ⟨?_, s.buildNotice_band q⟩, fun j x => ?_⟩⟩
  · exact exec_availSpacingEnd (spacingEnded_iff.2 ⟨⟨c, last, passed⟩, waiting⟩)
  · refine exec_availSpacingEnd_idle fun ended => ?_
    obtain ⟨⟨c, last, passed⟩, waiting⟩ := spacingEnded_iff.1 ended
    rcases kept with other | early
    · exact other waiting
    · exact absurd passed (Nat.not_le.2 (early c last))
  · rw [buildNotice_idle, length_idleSet]
    refine congrArg (min · 15) (List.countP_congr fun p _ => ?_)
    rw [idle_iff]
    rcases s.dsu.agents[p].post with _ | ⟨f, _ | _ | _ | _ | _ | _⟩ <;> simp
  · simp only [buildNotice_map, peerOf_eq_some]

end Sys2Proof.Proofs
end

section
/-! PROOF. The connection map after every event (PathsFollowTheRecords). -/

namespace Sys2Proof.Machine.State

/-- The close of an event leaves the map that the records of the state before it call for, since it writes none of them. -/
theorem close_map (v before : State) : (v.close before).sps.map = v.connections := by
  obtain ⟨-, -, -, paths, -⟩ := (settled_iff _).1 (close_settled v before)
  exact paths.trans (connections_congr (by simp) (by simp) (by simp) (by simp) (by simp))

theorem connections_trunk (v : State) (t : Trunk) : v.connections.trunks[t] = v.trunkSource t :=
  Vector.getElem_ofFn _

theorem connections_position (v : State) (p : Position) : v.connections.positions[p] = v.positionSource p :=
  Vector.getElem_ofFn _

theorem connections_forward (v : State) (j : Junctor) : v.connections.forward[j] = v.forwardSource j :=
  Vector.getElem_ofFn _

theorem connections_return (v : State) (g : GuestNo) : v.connections.returns[g] = v.returnSource g :=
  Vector.getElem_ofFn _

end Sys2Proof.Machine.State

namespace Sys2Proof.Proofs

open Machine State

/-- Settles O43: the close writes the map that the records call for, and each entry of it is read by the state of its
record. -/
theorem pathsFollowTheRecords : Obligations.PathsFollowTheRecords := by
  intro s v map
  have followed : map = v.connections := v.close_map s
  rw [followed]
  refine ⟨fun t => ?_, fun p => ?_, fun j => ?_, fun g => ?_⟩
  · rw [connections_trunk, trunkSource]
    cases v.call t with
    | none => rfl
    | some b => cases b.phase <;> rfl
  · rw [connections_position, positionSource]
    rcases v.duty p with _ | _ | _ | _ | _ | (t | g) | _ <;> rfl
  · rw [connections_forward, forwardSource]
    cases v.sps.junctors[j] with
    | free | holdoff => rfl
    | bound t =>
      dsimp only
      cases v.call t with
      | none => rfl
      | some b =>
        obtain ⟨phase⟩ := b
        cases phase <;> rfl
  · rw [connections_return, returnSource]
    rcases v.ofu.guests[g] with _ | ⟨_ | _ | _, _⟩ <;> rfl

end Sys2Proof.Proofs
end

section
/-! PROOF. The frames of the peer bus: every kind reads as it was sent (FramesReadAsSent), and which of them are taken, skipped,
found damaged, an echo or a clash (FramesAreFiltered). -/

namespace Sys2Proof.Machine

/-! ## Fields read back from their bytes (R192, R193) -/

@[simp] theorem readTag_bytes (t : Tag) : readTag (byte t.trunk.val) (byte t.gen.toNat) = some t := by
  have gen : (byte t.gen.toNat).toNat = t.gen.toNat := byte_toNat_of_lt (by omega)
  simp [readTag, gen, t.gen.isLt]

theorem number2_bytes2 {n : Nat} (h : n ≤ 65535) : number2 (byte (n / 256)) (byte n) = n := by
  rw [number2, byte_mod, byte_mod]
  omega

theorem stamp4_bytes4 (c : Stamp) : stamp4 (byte (c.toNat / 16777216)) (byte (c.toNat / 65536)) (byte (c.toNat / 256))
    (byte c.toNat) = c := by
  refine BitVec.eq_of_toNat_eq ?_
  have := c.isLt
  simp only [stamp4, byte_mod, BitVec.toNat_ofNat]
  omega

@[simp] theorem DeclineReason.ofCode_byte_code (r : DeclineReason) : DeclineReason.ofCode (byte r.code).toNat = some r := by
  cases r <;> rfl

@[simp] theorem BounceCause.ofCode_byte_code (c : BounceCause) : BounceCause.ofCode (byte c.code).toNat = some c := by
  cases c <;> rfl

@[simp] theorem ReleaseCause.ofCode_byte_code (c : ReleaseCause) : ReleaseCause.ofCode (byte c.code).toNat = some c := by
  cases c <;> rfl

@[simp] theorem readMapByte_mapByte (m : Option Station) : readMapByte (mapByte m) = m := by
  cases m with
  | none => rfl
  | some x =>
    have bits : (mapByte (some x)).toNat = 128 + x.val := byte_toNat_of_lt (by omega)
    simp only [readMapByte, bits, Nat.not_lt.2 (Nat.le_add_right 128 x.val), if_false, Option.some.injEq, Fin.ext_iff]
    omega

/-- Both counts of a byte, within the ranges to which R156 clamps them. -/
theorem idleBandByte_toNat {idle band : Nat} (hi : idle ≤ 15) (hb : band ≤ 7) :
    (idleBandByte idle band).toNat = idle * 16 + band := byte_toNat_of_lt (by omega)

/-! ## Contents read back (TABLE 13-2) -/

theorem ofFn_eight {α : Type} (f : Fin 8 → α) : #v[f 0, f 1, f 2, f 3, f 4, f 5, f 6, f 7] = Vector.ofFn f := by
  ext i hi
  interval_cases i <;> simp

/-- The fields of a notice are read from the eight counts and the eight map bytes each in its place. -/
theorem readNotice_fields (c3 c2 c1 c0 room : Byte) (counts maps : QueueNo → Byte) :
    readNotice ([c3, c2, c1, c0] ++ [room] ++ (List.finRange 8).map counts ++ (List.finRange 8).map maps) = some {
      clock := stamp4 c3 c2 c1 c0
      room := min room.toNat 15
      idle := Vector.ofFn fun q => (counts q).toNat / 16
      band := Vector.ofFn fun q => min ((counts q).toNat % 16) 7
      map := Vector.ofFn fun j => readMapByte (maps j) } := by
  have places : List.finRange 8 = [0, 1, 2, 3, 4, 5, 6, 7] := by decide
  simp [places, readNotice, ← ofFn_eight]

theorem readNotice_bytes {n : Notice} (h : Claims.InRange (.avail n)) : readNotice (Payload.avail n).bytes = some n := by
  obtain ⟨room, counts⟩ := h
  have places (q : QueueNo) : (idleBandByte n.idle[q] n.band[q]).toNat = n.idle[q] * 16 + n.band[q] :=
    idleBandByte_toNat (counts q).1 (counts q).2
  have idle (q : QueueNo) : (n.idle[q] * 16 + n.band[q]) / 16 = n.idle[q] := by
    have := (counts q).2
    omega
  have band (q : QueueNo) : min ((n.idle[q] * 16 + n.band[q]) % 16) 7 = n.band[q] := by
    have := (counts q).2
    omega
  have room_byte : min (byte n.room).toNat 15 = n.room := by
    rw [byte_toNat_of_lt (by omega), min_eq_left room]
  refine (readNotice_fields _ _ _ _ _ _ _).trans ?_
  simp only [stamp4_bytes4, room_byte, places, idle, band, readMapByte_mapByte]
  exact congrArg some (by simp)

/-- The queue, the priority and the programme of an OFFER share a byte (TABLE 13-2). -/
theorem readPayload_offer {o : OfferData} (h : o.waited ≤ 65535) :
    readPayload .offer (Payload.offer o).bytes = some (.offer o) := by
  obtain ⟨tag, queue, priority, programme, junctor, waited⟩ := o
  have shared : (byte (programme.val * 32 + priority.val * 8 + queue.val)).toNat =
      programme.val * 32 + priority.val * 8 + queue.val := byte_toNat_of_lt (by omega)
  have programme_bits : (programme.val * 32 + priority.val * 8 + queue.val) / 32 % 4 = programme.val := by omega
  have priority_bits : (programme.val * 32 + priority.val * 8 + queue.val) / 8 % 4 = priority.val := by omega
  have queue_bits : (programme.val * 32 + priority.val * 8 + queue.val) % 8 = queue.val := by omega
  simp only [Payload.bytes, Tag.bytes, bytes2, List.cons_append, List.nil_append, readPayload, readTag_bytes,
    index?_byte 8 (by decide), number2_bytes2 h, shared, programme_bits, priority_bits, queue_bits, Fin.eta]
  rfl

/-- The contents of every kind of frame are read from the bytes that they are sent as (R193). -/
theorem readPayload_bytes (c : Payload) (h : Claims.InRange c) : readPayload c.kind c.bytes = some c := by
  cases c with
  | avail n => exact congrArg (Option.map Payload.avail) (readNotice_bytes h)
  | offer o => exact readPayload_offer h
  | take tag j | connect tag j =>
    simp [Payload.kind, Payload.bytes, Tag.bytes, readPayload, index?_byte 8 (by decide)]
  | decline tag code | bounce tag code | release tag code => simp [Payload.kind, Payload.bytes, Tag.bytes, readPayload]
  | answered tag | withdraw tag => simp [Payload.kind, Payload.bytes, Tag.bytes, readPayload]

/-! ## The checks of a whole frame (R142) -/

@[simp] theorem FrameKind.ofCode_code (k : FrameKind) : FrameKind.ofCode k.code = some k := by cases k <;> rfl

theorem FrameKind.code_le (k : FrameKind) : k.code ≤ 9 := by cases k <;> decide

theorem kindByte_toNat (k : FrameKind) (source : Station) :
    (kindByte k (BitVec.ofNat 4 source.val)).toNat = k.code * 16 + source.val := by
  have low : (BitVec.ofNat 4 source.val).toNat = source.val := Nat.mod_eq_of_lt source.isLt
  have := k.code_le
  rw [kindByte, low, byte_toNat_of_lt (by omega)]

/-- The second character of a frame gives its kind and its source. -/
theorem kindByte_fields (k : FrameKind) (source : Station) :
    FrameKind.ofCode ((kindByte k (BitVec.ofNat 4 source.val)).toNat / 16) = some k ∧
      (kindByte k (BitVec.ofNat 4 source.val)).toNat % 16 = source.val := by
  rw [kindByte_toNat]
  have code : (k.code * 16 + source.val) / 16 = k.code := by omega
  rw [code]
  exact ⟨k.ofCode_code, by omega⟩

theorem byte_msb_of_lt {n : Nat} (h : n < 128) : (byte n).msb = false := by
  rw [BitVec.msb_eq_false_iff_two_mul_lt, byte_toNat_of_lt (by omega)]
  omega

/-- The broadcast flag stands in the first character of an AVAIL alone. -/
theorem broadcastFlag_headByte (dest : Station) (c : Payload) : broadcastFlag (headByte dest c) = (c.kind == .avail) := by
  have addressed : (byte dest.val).msb = false := byte_msb_of_lt (by omega)
  cases c with
  | avail n => exact (rfl : BitVec.msb 0x80#8 = true)
  | _ => exact addressed

/-- The characters that a frame is sent as: the two of its header, its contents and the check character (TABLE 13-1). -/
theorem frameChars_eq (x dest : Station) (c : Payload) :
    frameChars x ⟨dest, c⟩ = headByte dest c :: kindByte c.kind (BitVec.ofNat 4 x.val) ::
      (c.bytes ++ [checkCharacter (frameBody x ⟨dest, c⟩)]) := rfl

theorem length_frameChars (x dest : Station) (c : Payload) : (frameChars x ⟨dest, c⟩).length = c.kind.length := by
  cases c <;> rfl

/-- The check character of a frame as it is sent is that of the characters before it (R192). -/
theorem getLast?_frameChars (x dest : Station) (c : Payload) :
    (frameChars x ⟨dest, c⟩).getLast? = some (checkCharacter (frameChars x ⟨dest, c⟩).dropLast) := by
  simp [frameChars]

/-- A frame as it is sent has the length of its kind, so that a damaged character is what the checks find first. -/
theorem checkFrame_damaged (x dest : Station) (c : Payload) : checkFrame (frameChars x ⟨dest, c⟩) true = .crcError := by
  obtain ⟨kind, -⟩ := kindByte_fields c.kind x
  have whole := length_frameChars x dest c
  rw [frameChars_eq] at whole ⊢
  rw [checkFrame, kind]
  simp only [whole, ne_eq, not_true_eq_false, if_false, Bool.true_or, if_true]

theorem checkFrame_frameChars (x dest : Station) (c : Payload) (h : Claims.InRange c) :
    checkFrame (frameChars x ⟨dest, c⟩) false = .good x c := by
  obtain ⟨kind, source⟩ := kindByte_fields c.kind x
  have whole := length_frameChars x dest c
  have last := getLast?_frameChars x dest c
  rw [frameChars_eq] at whole last ⊢
  rw [checkFrame, kind]
  simp only [whole, last, broadcastFlag_headByte, List.dropLast_concat, readPayload_bytes c h, source, ne_eq,
    not_true_eq_false, if_false, Bool.false_or, decide_false, Bool.false_eq_true, Fin.eta]

/-! ## The address filter (R141) -/

/-- A frame as it is sent is addressed to its destination, and an AVAIL to every station. -/
theorem addressed_headByte (me dest : Station) (c : Payload) :
    addressed me (headByte dest c) = true ↔ dest = me ∨ c.kind = .avail := by
  have bits : (byte dest.val).toNat = dest.val := byte_toNat_of_lt (by omega)
  have named : destination (byte dest.val) = me.val ↔ dest = me := by
    rw [destination, bits, Fin.ext_iff, Nat.mod_eq_of_lt dest.isLt]
  rw [addressed, broadcastFlag_headByte, Bool.or_eq_true, beq_iff_eq, beq_iff_eq, or_comm]
  cases c with
  | avail n => simp [Payload.kind]
  | _ => exact or_congr_left named

theorem receive_skipped {me : Station} {head : Byte} (h : ¬addressed me head = true) (echo : Option (List Byte))
    (rest : List Byte) (damaged : Bool) : receive me echo (head :: rest) damaged = .skipped := by
  simp [receive, h]

theorem receive_crcError {me : Station} {head : Byte} {rest : List Byte} {damaged : Bool} (h : addressed me head = true)
    (check : checkFrame (head :: rest) damaged = .crcError) (echo : Option (List Byte)) :
    receive me echo (head :: rest) damaged = .crcError := by
  simp [receive, h, check]

/-- A good frame that is addressed here is examined for this station's own number (R143). -/
theorem receive_good {me x : Station} {head : Byte} {rest : List Byte} {damaged : Bool} {c : Payload}
    (h : addressed me head = true) (check : checkFrame (head :: rest) damaged = .good x c) (echo : Option (List Byte)) :
    receive me echo (head :: rest) damaged =
      if x = me then (if echo = some (head :: rest) then .echo else .clash) else .deliver x c := by
  simp [receive, h, check]

end Sys2Proof.Machine

namespace Sys2Proof.Proofs

open Machine Claims

/-- Settles O15: the header, the contents and the check character are each read back. -/
theorem framesReadAsSent : Obligations.FramesReadAsSent := fun x dest c h => checkFrame_frameChars x dest c h

/-- Settles O16: the address filter, the checks, and the examination of a frame under this station's own number. -/
theorem framesAreFiltered : Obligations.FramesAreFiltered := by
  intro me x dest c echo range chars here
  have filter : addressed me (headByte dest c) = true ↔ here := addressed_headByte me dest c
  have good (h : here) : receive me echo chars false =
      if x = me then (if echo = some chars then .echo else .clash) else .deliver x c :=
    receive_good (filter.2 h) (checkFrame_frameChars x dest c range) echo
  refine ⟨fun h other => ?_, fun h => ?_, fun h own same => ?_, fun h own differs => ?_, fun elsewhere damaged => ?_⟩
  · rw [good h, if_neg other]
  · exact receive_crcError (filter.2 h) (checkFrame_damaged x dest c) echo
  · rw [good h, if_pos own, if_pos same]
  · rw [good h, if_pos own, if_neg differs]
  · exact receive_skipped (elsewhere ∘ filter.1) echo _ damaged

end Sys2Proof.Proofs
end

section
/-! PROOF. What is seen on the bus and how an attempt of this station ends (AttemptsBeginAndEnd). -/

namespace Sys2Proof.Machine.State

variable {s : State} {e : TxEntry} {before after : List TxEntry} {chars : List Byte}

/-! ## What each end of an attempt writes -/

/-- The attempt is over and lost: the bus is busy, and a notice's renew mark is gone (R147, R150). -/
def afterLoss (s : State) (e : TxEntry) : State :=
  s.setPlc { s.plc with attempt := none, busIdle := 0, renew := s.plc.renew && e.isFrame }

/-- An entry is dropped, the rest of the queue being `rest` (R151). -/
def afterDrop (s : State) (rest : List TxEntry) : State :=
  s.setPlc { s.plc with queue := rest, contentionDrop := min (s.plc.contentionDrop + 1) 65535 }

/-- The attempt of the characters `chars` is complete, the rest of the queue being `rest` (R152). -/
def afterCompletion (s : State) (rest : List TxEntry) (chars : List Byte) : State :=
  s.setPlc { s.plc with queue := rest, attempt := none, busIdle := 0, echo := some chars }

/-- A notice is sent: its completion is stamped, and its renew mark is used up (R147, R148). -/
def afterNotice (s : State) : State := s.setPlc { s.plc with lastAvail := some s.now, renew := false }

/-! ## The entry under way -/

/-- The first entry whose attempts have begun is the one under way. -/
theorem triedEntry_eq (hq : s.plc.queue = before ++ e :: after) (hb : ∀ d ∈ before, d.tries = 0) (he : 0 < e.tries) :
    s.triedEntry = some e := by
  have none_before : before.find? (fun d => 0 < d.tries) = none := by simpa using hb
  rw [triedEntry, hq, List.find?_append, none_before, Option.none_or, List.find?_cons_of_pos (by simpa using he)]

theorem dropTried_eq (hq : s.plc.queue = before ++ e :: after) (hb : ∀ d ∈ before, d.tries = 0) (he : 0 < e.tries) :
    s.dropTried = s.setPlc { s.plc with queue := before ++ after } := by
  have erased : s.plc.queue.eraseP (fun d => 0 < d.tries) = before ++ after := by
    rw [hq, List.eraseP_append_right _ (by simpa using hb), List.eraseP_cons_of_pos (by simpa using he)]
  rw [dropTried, erased]

/-! ## The loss of an attempt (R150, R151) -/

/-- Both branches of a loss write the same fields: a frame's leaves the renew mark as it was. -/
theorem lost_renew (s : State) (e : TxEntry) :
    (let u := s.setPlc { s.plc with attempt := none, busIdle := 0 }
     if e.isFrame then u else u.setPlc { u.plc with renew := false }) = s.afterLoss e := by
  cases h : e.isFrame <;> simp [afterLoss, h, setPlc]

theorem attemptLost_retried (tried : s.triedEntry = some e) (few : e.tries < 8) : s.attemptLost = s.afterLoss e := by
  simp only [attemptLost, tried]
  rw [if_pos few]
  exact s.lost_renew e

theorem attemptLost_dropped (hq : s.plc.queue = before ++ e :: after) (hb : ∀ d ∈ before, d.tries = 0) (he : 0 < e.tries)
    (eighth : 8 ≤ e.tries) : s.attemptLost = ((s.afterLoss e).afterDrop (before ++ after)).tellDropped e := by
  have dropped : (s.afterLoss e).dropTried = _ := dropTried_eq hq hb he
  simp only [attemptLost, triedEntry_eq hq hb he]
  rw [if_neg (Nat.not_lt.2 eighth)]
  simp only [s.lost_renew e, dropped]
  rfl

/-! ## Who is told of a dropped entry (R151, R159, R175) -/

theorem tellDropped_notice (h : e.body = .notice) : s.tellDropped e = s.requestNotice := by
  rw [tellDropped, h]

theorem tellDropped_offer {x : Station} {o : OfferData} (h : e.body = .frame ⟨x, .offer o⟩) :
    s.tellDropped e = if s.takeMatches x o.tag o.junctor then s.failOffer o.tag.trunk else s := by
  rw [tellDropped, h]
  rfl

theorem tellDropped_other (frame : e.body ≠ .notice) (other : ∀ x o, e.body ≠ .frame ⟨x, .offer o⟩) :
    s.tellDropped e = s := by
  unfold tellDropped failDropped
  split
  next h => exact absurd h frame
  next f h =>
    obtain ⟨x, payload⟩ := f
    cases payload with
    | offer o => exact absurd h (other x o)
    | _ => rfl

/-! ## The completion of an attempt (R152) -/

theorem attemptDone_frame (hq : s.plc.queue = before ++ e :: after) (hb : ∀ d ∈ before, d.tries = 0) (he : 0 < e.tries)
    (frame : e.body ≠ .notice) : s.attemptDone chars = s.afterCompletion (before ++ after) chars := by
  simp only [attemptDone, triedEntry_eq hq hb he, dropTried_eq hq hb he, if_pos (e.isFrame_iff.2 frame)]
  rfl

theorem attemptDone_notice (hq : s.plc.queue = before ++ e :: after) (hb : ∀ d ∈ before, d.tries = 0) (he : 0 < e.tries)
    (notice : e.body = .notice) :
    s.attemptDone chars =
      let sent := (s.afterCompletion (before ++ after) chars).afterNotice
      if s.plc.renew then sent.requestNotice else sent := by
  simp only [attemptDone, triedEntry_eq hq hb he, dropTried_eq hq hb he, if_neg (not_not_intro notice ∘ e.isFrame_iff.1)]
  rfl

/-! ## The commands -/

theorem exec_attemptLost (h : s.plc.attempt = some chars) : exec .attemptLost s = .next (s.attemptLost.close s) :=
  congrArg Host.Outcome.next (if_pos (by rw [h]; rfl))

theorem exec_attemptComplete (h : s.plc.attempt = some chars) :
    exec .attemptComplete s = .next ((s.attemptDone chars).close s) := by
  change execAttemptComplete s = _
  rw [execAttemptComplete, h]
  rfl

theorem exec_attemptLost_none (h : s.plc.attempt = none) : exec .attemptLost s = .next s :=
  congrArg Host.Outcome.next (if_neg (by simp [h]))

theorem exec_attemptComplete_none (h : s.plc.attempt = none) : exec .attemptComplete s = .next s := by
  change execAttemptComplete s = _
  rw [execAttemptComplete, h]

theorem exec_attemptBegin_busy (sign : BusSign) (h : s.plc.attempt ≠ none) : exec (.attemptBegin sign) s = .next s :=
  congrArg Host.Outcome.next (if_pos (Option.isSome_iff_ne_none.2 h))

theorem exec_attemptBegin_free (sign : BusSign) (h : s.plc.attempt = none) :
    exec (.attemptBegin sign) s = .next (if s.running then (s.busSeen sign).close s else s.busSeen sign) :=
  congrArg Host.Outcome.next (if_neg (by simp [h]))

end Sys2Proof.Machine.State

namespace Sys2Proof.Claims

open Machine State

variable {s : State} {e : TxEntry} {x : Station} {o : OfferData}

/-- A dropped OFFER that is still outstanding under its tag, peer and junctor fails (R175). -/
theorem tellDropped_outstanding {b : CallBody} {slot : SlotNo} (h : e.body = .frame ⟨x, .offer o⟩)
    (live : s.cqm.calls[o.tag.trunk] = ⟨o.tag.gen, some b⟩) (hp : b.phase = .offered slot x o.junctor) :
    OfferFailed s (s.tellDropped e) o.tag.trunk b slot o.junctor := by
  have tagged := taggedCall_iff.2 live
  rw [tellDropped_offer h, if_pos (Sound.takeMatches_iff.2 ⟨b, slot, tagged, hp⟩)]
  exact failOffer_offerFailed (Sound.taggedCall_eq_some.1 tagged).2 hp

theorem tellDropped_settled (h : e.body = .frame ⟨x, .offer o⟩)
    (other : ∀ b slot, s.cqm.calls[o.tag.trunk] = ⟨o.tag.gen, some b⟩ → b.phase ≠ .offered slot x o.junctor) :
    s.tellDropped e = s := by
  rw [tellDropped_offer h]
  refine if_neg fun outstanding => ?_
  obtain ⟨b, slot, tagged, hp⟩ := Sound.takeMatches_iff.1 outstanding
  exact other b slot (taggedCall_iff.1 tagged) hp

end Sys2Proof.Claims

namespace Sys2Proof.Proofs

open Machine State Claims

/-- Settles O46: the bus as it is seen, and the two ends of the attempt under way by the entry that it is for. -/
theorem attemptsBeginAndEnd : Obligations.AttemptsBeginAndEnd := by
  intro s
  refine ⟨?_, fun idle => ⟨exec_attemptLost_none idle, exec_attemptComplete_none idle⟩, ?_⟩
  · intro sign m
    have seen : s.busSeen sign = m := by rcases sign with n | (_ | _) <;> rfl
    refine ⟨exec_attemptBegin_busy sign, fun idle run => ?_, fun idle stop => ?_⟩
    · rw [exec_attemptBegin_free sign idle, if_pos run, seen]
    · rw [exec_attemptBegin_free sign idle, if_neg (by simp [stop]), seen]
  · intro chars before after e under_way hq hb he notice lost dropped done sent
    have loss := exec_attemptLost under_way
    have eighth_loss (eighth : 8 ≤ e.tries) : exec .attemptLost s = .next ((dropped.tellDropped e).close s) := by
      rw [loss, attemptLost_dropped hq hb he eighth]
      rfl
    refine ⟨fun few => ?_, fun eighth is_notice => ?_, fun eighth other frame => ?_, fun eighth x o offer => ⟨?_, ?_⟩,
      fun frame => ?_, fun is_notice => ?_⟩
    · rw [loss, attemptLost_retried (triedEntry_eq hq hb he) few]
      rfl
    · rw [eighth_loss eighth, tellDropped_notice is_notice]
    · rw [eighth_loss eighth, tellDropped_other frame other]
    · exact fun b slot live hp => ⟨_, tellDropped_outstanding offer live hp, eighth_loss eighth⟩
    · intro settled
      have kept : dropped.tellDropped e = dropped := tellDropped_settled offer settled
      rw [eighth_loss eighth, kept]
    · rw [exec_attemptComplete under_way, attemptDone_frame hq hb he frame]
      rfl
    · rw [exec_attemptComplete under_way, attemptDone_notice hq hb he is_notice]
      rfl

end Sys2Proof.Proofs
end

section
/-! PROOF. The frames that are not delivered (UndeliveredFramesAreCounted). -/

namespace Sys2Proof.Claims

open Machine State

variable {s : State} {chars : List Byte} {damaged endedByMark : Bool}

/-! ## The rows that bring a frame -/

/-- The rows of the peer bus that bring the frame `f`, each with the kind of which the row gives the code. -/
def frameRows (f : RxFrame) : List (Instr × FrameKind) :=
  [(.avail f, .avail), (.offer f, .offer), (.take f, .take), (.decline f, .decline), (.connect f, .connect),
    (.answered f, .answered), (.bounce f, .bounce), (.releaseAgentDone f, .release), (.releaseCallerGone f, .release),
    (.releaseTooLate f, .release), (.withdraw f, .withdraw)]

theorem exec_frameRow {f : RxFrame} {row : Instr × FrameKind} (h : row ∈ frameRows f) :
    exec row.1 s = .next (s.frameReceived (rxChars row.2 f) f.damaged f.endedByMark) := by
  simp only [frameRows, List.mem_cons, List.not_mem_nil, or_false] at h
  rcases h with rfl | rfl | rfl | rfl | rfl | rfl | rfl | rfl | rfl | rfl | rfl <;> rfl

theorem exec_lengthErrorFrame (g : RawFrame) :
    exec (.lengthErrorFrame g) s = .next (s.frameReceived (g.head :: g.rest) g.damaged g.endedByMark) := rfl

/-! ## A frame that ends on the bus (R140, R144) -/

theorem frameReceived_stopped (stop : s.running = false) :
    s.frameReceived chars damaged endedByMark = afterFrame s endedByMark :=
  if_neg (by simp [stop])

theorem frameReceived_passedOver (run : s.running = true) (midst : s.plc.onBus = .passedOver) :
    s.frameReceived chars damaged endedByMark = (afterFrame s endedByMark).close s := by
  rw [frameReceived, if_pos run, event, if_pos midst]
  rfl

theorem frameReceived_taken (run : s.running = true) (whole : s.plc.onBus ≠ .passedOver) :
    s.frameReceived chars damaged endedByMark =
      ((afterFrame s endedByMark).takeRx (receive s.mpi.station s.plc.echo chars damaged)).close s := by
  rw [frameReceived, if_pos run, event, if_neg whole]
  rfl

/-! ## A frame of no known kind (R142) -/

theorem checkFrame_kindMissing {head : Byte} {rest : List Byte} (h : kindMissing rest = true) :
    checkFrame (head :: rest) damaged = .lengthError := by
  cases rest with
  | nil => rfl
  | cons second rest =>
    have unknown : FrameKind.ofCode (second.toNat / 16) = none := by simpa [kindMissing] using h
    rw [checkFrame, unknown]

theorem addressed_iff (me : Station) (head : Byte) :
    addressed me head = true ↔ head.toNat / 128 = 1 ∨ head.toNat % 16 = me.val := by
  have flag : broadcastFlag head = true ↔ head.toNat / 128 = 1 := by
    have := head.isLt
    rw [broadcastFlag, BitVec.msb_eq_true_iff_two_mul_ge]
    omega
  rw [addressed, Bool.or_eq_true, flag, beq_iff_eq, destination]

theorem receive_kindMissing {me : Station} {echo : Option (List Byte)} {head : Byte} {rest : List Byte}
    (h : kindMissing rest = true) : receive me echo (head :: rest) damaged =
      if head.toNat / 128 = 1 ∨ head.toNat % 16 = me.val then .lengthError else .skipped := by
  split
  next here => simp [receive, (addressed_iff me head).2 here, checkFrame_kindMissing h]
  next elsewhere => exact receive_skipped (elsewhere ∘ (addressed_iff me head).1) echo rest damaged

end Sys2Proof.Claims

namespace Sys2Proof.Proofs

open Machine Claims

/-- Settles O47: every row that brings a frame takes it in one way, and each finding but a delivery writes at most a count. -/
theorem undeliveredFramesAreCounted : Obligations.UndeliveredFramesAreCounted := by
  intro s f g c chars damaged endedByMark brings heard
  have row : exec c s = .next (s.frameReceived chars damaged endedByMark) := by
    rcases brings with listed | raw
    · obtain ⟨bringer, member, same⟩ := List.mem_map.1 listed
      cases same
      exact exec_frameRow member
    · cases raw
      exact exec_lengthErrorFrame g
  refine ⟨fun stop => ?_, fun run midst => ?_, ?_, fun g' hc missing => ?_⟩
  · rw [row, frameReceived_stopped stop]
  · rw [row, frameReceived_passedOver run midst]
  · intro run whole found
    have taken : exec c s = .next ((heard.takeRx found).close s) := row.trans (congrArg _ (frameReceived_taken run whole))
    refine ⟨?_, fun bad => ?_, fun bad => ?_, fun bad => ?_⟩
    · rintro (bad | bad) <;> rw [taken, bad] <;> rfl
    all_goals
      rw [taken, bad]
      rfl
  · subst hc
    rcases brings with listed | raw
    · simp at listed
    · cases raw
      exact receive_kindMissing missing

end Sys2Proof.Proofs
end

section
/-! PROOF. What the close of an event does to the link: the request that a crossing makes, and the attempt that begins
(CloseAsksAndBegins). -/

namespace Sys2Proof.Machine.State

variable {s v w : State} {e : TxEntry} {before after : List TxEntry}

/-! ## Crossings (R158) -/

theorem crossed_iff (v s : State) : v.crossed s = true ↔
    (∃ q : QueueNo, ¬(v.idleSet q = [] ↔ s.idleSet q = [])) ∨ ¬(v.room = 0 ↔ s.room = 0) := by
  have differ (a b : Bool) : (a != b) = true ↔ ¬(a = true ↔ b = true) := by rw [bne_iff_ne, ne_eq, Bool.eq_iff_iff]
  simp only [crossed, Bool.or_eq_true, List.any_eq_true, List.mem_finRange, true_and, differ, List.isEmpty_iff, beq_iff_eq]

/-- The EST writes nothing that a crossing is seen in. -/
theorem crossed_closeEst (v s : State) : (v.closeEst s).crossed s = v.crossed s := by
  obtain ⟨e, estimated⟩ := closeEst_writes v s
  rw [estimated]
  rfl

/-! ## The entry that may begin (R148, R149, R151) -/

/-- The hold of R148 does not keep the entry from beginning. -/
def Unheld (w : State) (e : TxEntry) : Prop :=
  e.isFrame = true ∨ ∀ c, w.plc.lastAvail = some c → 2 ≤ elapsed c w.now

/-- The entry `e`, which stands behind `before` in the queue, is the next to begin: it awaits its retry, or none does and it is
the first that is not held. -/
def NextToBegin (w : State) (before : List TxEntry) (e : TxEntry) (after : List TxEntry) : Prop :=
  w.plc.queue = before ++ e :: after ∧ (∀ d ∈ before, d.tries = 0) ∧
    (0 < e.tries ∨ (∀ d ∈ w.plc.queue, d.tries = 0) ∧ (∀ d ∈ before, ¬w.Unheld d) ∧ w.Unheld e)

theorem unheld_iff : (e.isFrame || !w.noticeHeld) = true ↔ w.Unheld e := by
  unfold Unheld noticeHeld
  cases w.plc.lastAvail <;> simp [Config.availGap, Nat.lt_iff_add_one_le]

/-- The place at which the first entry with a property stands. -/
theorem findIdx?_append_cons {α : Type} {p : α → Bool} {x : α} {l r : List α} (hl : ∀ d ∈ l, ¬p d = true) (hx : p x = true) :
    (l ++ x :: r).findIdx? p = some l.length := by
  have none_before : l.findIdx? p = none := List.findIdx?_eq_none_iff.2 fun d hd => by simpa using hl d hd
  simp [List.findIdx?_append, List.findIdx?_cons, none_before, hx]

theorem exists_of_findIdx? {α : Type} {p : α → Bool} {q : List α} {i : Nat} (h : q.findIdx? p = some i) :
    ∃ l x r, q = l ++ x :: r ∧ l.length = i ∧ (∀ d ∈ l, ¬p d = true) ∧ p x = true := by
  obtain ⟨hi, found, first⟩ := List.findIdx?_eq_some_iff_getElem.1 h
  refine ⟨q.take i, q[i], q.drop (i + 1), by simp, by simp [hi.le], fun d hd => ?_, found⟩
  obtain ⟨j, hj, rfl⟩ := List.mem_take_iff_getElem.1 hd
  exact first j (by omega)

theorem beginPlace_of_next (h : w.NextToBegin before e after) : w.beginPlace = some before.length := by
  obtain ⟨queue, fresh_before, next⟩ := h
  have untried : ∀ d ∈ before, ¬decide (0 < d.tries) = true := by simpa using fresh_before
  rcases next with tried | ⟨fresh, held, free⟩
  · rw [beginPlace, queue, findIdx?_append_cons untried (by simpa using tried)]
  · have none_tried : w.plc.queue.findIdx? (fun d => 0 < d.tries) = none := by simpa [List.findIdx?_eq_none_iff] using fresh
    rw [beginPlace, none_tried]
    dsimp only
    rw [queue, findIdx?_append_cons (fun d hd => held d hd ∘ unheld_iff.1) (unheld_iff.2 free)]

theorem next_of_beginPlace {i : Nat} (h : w.beginPlace = some i) :
    ∃ before e after, w.NextToBegin before e after ∧ before.length = i := by
  unfold beginPlace at h
  split at h
  next j tried =>
    cases h
    obtain ⟨before, e, after, queue, place, untried, found⟩ := exists_of_findIdx? tried
    exact ⟨before, e, after, ⟨queue, by simpa using untried, .inl (by simpa using found)⟩, place⟩
  next none_tried =>
    have fresh : ∀ d ∈ w.plc.queue, d.tries = 0 := by simpa [List.findIdx?_eq_none_iff] using none_tried
    obtain ⟨before, e, after, queue, place, held, found⟩ := exists_of_findIdx? h
    refine ⟨before, e, after, ⟨queue, fun d hd => fresh d ?_, .inr ⟨fresh, fun d hd => held d hd ∘ unheld_iff.2,
      unheld_iff.1 found⟩⟩, place⟩
    rw [queue]
    exact List.mem_append_left _ hd

theorem NextToBegin.getElem? (h : w.NextToBegin before e after) : w.plc.queue[before.length]? = some e := by
  obtain ⟨queue, -⟩ := h
  simp [queue]

/-! ## What begins -/

/-- The next entry begins where the bus has been idle for the time that it needs. -/
theorem beginAttempt_of_next (h : w.NextToBegin before e after) (run : w.running = true) (free : w.plc.attempt = none)
    (idle : w.idleNeeded e ≤ w.plc.busIdle) :
    w.beginAttempt = w.setPlc { w.plc with
      queue := before ++ { e with tries := e.tries + 1 } :: after
      attempt := some (w.attemptChars e)
      busIdle := 0
      onBus := .begun } := by
  have queue : w.plc.queue.set before.length { e with tries := e.tries + 1 } =
      before ++ { e with tries := e.tries + 1 } :: after := by
    obtain ⟨queue, -⟩ := h
    simp [queue]
  rw [beginAttempt, if_pos (by simp [run, free])]
  simp only [beginPlace_of_next h, h.getElem?, queue]
  rw [if_pos idle]

/-- Nothing begins where nothing may, or where the bus has not been idle for long enough. -/
theorem linkWaits_of_not_next (h : w.running = false ∨ w.plc.attempt ≠ none ∨
    ∀ before e after, w.NextToBegin before e after → w.plc.busIdle < w.idleNeeded e) : w.linkWaits = true := by
  rcases h with stop | under_way | early
  · simp [linkWaits, stop]
  · simp [linkWaits, Option.isSome_iff_ne_none.2 under_way]
  · cases place : w.beginPlace with
    | none => simp [linkWaits, place]
    | some i =>
      obtain ⟨before, e, after, next, rfl⟩ := next_of_beginPlace place
      simp [linkWaits, place, next.getElem?, early before e after next]

theorem close_plc (v s : State) : (v.close s).plc = ((v.closeEst s).askOnCrossing s).beginAttempt.plc := by
  simp [close]

end Sys2Proof.Machine.State

namespace Sys2Proof.Proofs

open Machine State

/-- Settles O42: the close asks where something has crossed, and then the next entry begins, if it may. -/
theorem closeAsksAndBegins : Obligations.CloseAsksAndBegins := by
  intro s v u crossed ready
  have crossed_eq : ready.crossed s = true ↔ crossed := by
    rw [crossed_closeEst]
    exact crossed_iff v s
  refine ⟨ready.askOnCrossing s, fun h => if_pos (crossed_eq.2 h), fun h => if_neg (h ∘ crossed_eq.1), ?_⟩
  set w := ready.askOnCrossing s
  intro free next wait
  have link : u.plc = w.beginAttempt.plc := close_plc v s
  refine ⟨fun before e after begins run idle waited => ?_, fun stays => ?_⟩
  · rw [link, beginAttempt_of_next (before := before) (after := after) begins run idle waited]
    obtain ⟨_ | _, tries⟩ := e <;> rfl
  · rw [link, beginAttempt_of_linkWaits (linkWaits_of_not_next stays)]

end Sys2Proof.Proofs
end

section
/-! PROOF. The loss of a peer: the calls and guests shared with it are settled, and counted (R163, R165); and the presence
timeout (PresenceTimeoutLosesThePeer). -/

namespace Sys2Proof.Machine.State

open Claims

variable {s : State} {x : Station} {t : Trunk} {g : GuestNo} {b : CallBody}

/-! ## The calls that name a peer -/

theorem callNames_iff : s.callNames x t = true ↔ ∃ b, s.call t = some b ∧ peerOf b.phase = some x := by
  unfold callNames
  cases s.call t <;> simp

theorem callNames_standing (s : State) (x : Station) (t : Trunk) :
    s.callNames x t = (s.links.standing t).any fun y => peerOf y.2 == some x := by
  unfold callNames
  cases hc : s.call t <;> simp [links, hc]

/-- The settling of one call leaves what another names. -/
theorem settleCall_callNames {r : Trunk} (other : r ≠ t) : (s.settleCall t).callNames x r = s.callNames x r := by
  rw [callNames_standing, callNames_standing, Sound.settleCall_standing other]

theorem callNames_of_offeredTo (h : s.offeredTo x t = true) : s.callNames x t = true := by
  unfold offeredTo at h
  split at h
  next hc => exact callNames_iff.2 ⟨_, hc, congrArg some (eq_of_beq h)⟩
  next => cases h

/-! ## The calls settled -/

theorem settleCall_of_offered {o : SlotNo} {j : Junctor} (hc : s.call t = some b) (hp : b.phase = .offered o x j) :
    s.settleCall t = s.failOffer t := by
  obtain ⟨phase⟩ := b
  cases hp
  simp only [settleCall, hc]

theorem settleCall_of_no_slot (hc : s.call t = some b) (hp : b.phase.slot = none) : s.settleCall t = s.returnCall t := by
  unfold settleCall
  split
  next hb =>
    cases hc.symm.trans hb
    cases hp
  next => rfl

/-- A call that names a peer is returned by the rule of its state. -/
theorem settleCall_settled (h : s.callNames x t = true) : Settled t s (s.settleCall t) := by
  obtain ⟨b, hc, peer⟩ := callNames_iff.1 h
  refine ⟨b, hc, ?_⟩
  cases hp : b.phase with
  | offered o y j =>
    rw [settleCall_of_offered hc hp]
    exact failOffer_offerFailed hc hp
  | lentAlerting y j d =>
    rw [settleCall_of_no_slot hc (by rw [hp]; rfl)]
    exact returnCall_returned hc (.inr (.inl ⟨y, j, d, hp⟩))
  | lentTalking y j a =>
    rw [settleCall_of_no_slot hc (by rw [hp]; rfl)]
    exact returnCall_returned hc (.inr (.inr ⟨y, j, a, hp⟩))
  | queued | alerting p | talking p a => simp [hp, peerOf] at peer

/-- Calls settled one after another: the settling of one leaves the peers that the others name. -/
theorem settleCalls_chain (l : List Trunk) (nodup : l.Nodup) (named : ∀ t ∈ l, s.callNames x t = true) :
    Chain Settled l s (l.foldl (fun v t => v.settleCall t) s) := by
  induction l generalizing s with
  | nil => rfl
  | cons t l ih =>
    obtain ⟨fresh, nodup⟩ := List.nodup_cons.1 nodup
    refine ⟨_, settleCall_settled (named t List.mem_cons_self), ih nodup fun r hr => ?_⟩
    rw [settleCall_callNames (ne_of_mem_of_not_mem hr fresh)]
    exact named r (List.mem_cons_of_mem t hr)

theorem settleCall_guests (s : State) (t : Trunk) : (s.settleCall t).ofu.guests = s.ofu.guests := by
  have failed : (s.failOffer t).ofu.guests = s.ofu.guests := by
    unfold failOffer
    split <;> simp
  have returned : (s.returnCall t).ofu.guests = s.ofu.guests := by
    unfold returnCall
    split
    · rfl
    · split <;> simp
  unfold settleCall
  split
  · exact failed
  · exact returned

theorem settleCalls_guests (l : List Trunk) :
    (l.foldl (fun v t => v.settleCall t) s).ofu.guests = s.ofu.guests :=
  List.foldlRecOn (motive := fun v : State => v.ofu.guests = s.ofu.guests) l _ rfl fun v kept t _ =>
    (v.settleCall_guests t).trans kept

/-! ## The loss, and its report -/

theorem guestFrom_inUse (h : s.guestFrom x g = true) : s.ofu.guests[g] ≠ none := by
  intro free
  simp [guestFrom, free] at h

/-- The calls are settled and the guests released: each still stands as the event found it when its turn comes. -/
theorem losePeer_lossSettled (s : State) (x : Station) : LossSettled s (s.losePeer s x) x := by
  refine ⟨_, settleCalls_chain _ ((List.nodup_finRange 32).filter _) fun t ht => (List.mem_filter.1 ht).2,
    releaseGuests_chain s _ ((List.nodup_finRange 16).filter _) fun g hg => ?_⟩
  rw [settleCalls_guests]
  exact guestFrom_inUse (List.mem_filter.1 hg).2

/-- Every call that is offered to the peer names it, so the offers may be counted among the calls that do. -/
theorem countP_offeredTo (s : State) (x : Station) :
    ((List.finRange 32).filter (s.callNames x)).countP (s.offeredTo x) = (List.finRange 32).countP (s.offeredTo x) := by
  rw [List.countP_filter]
  refine List.countP_congr fun t _ => ?_
  rw [Bool.and_eq_true]
  exact and_iff_left_of_imp callNames_of_offeredTo

theorem lossReport_eq (s : State) (x : Station) (after : PeerKind) (cause : PeerCause) (clock : Stamp) :
    s.lossReport x after cause clock =
      .peerState x .present after cause clock (min (lossCounts s x).1 255) (min (lossCounts s x).2.1 255)
        (min (lossCounts s x).2.2 255) := by
  simp only [lossReport, lossCounts, countP_offeredTo, ← List.countP_eq_length_filter]

/-! ## The presence limit (R162) -/

theorem presenceReached_iff : s.presenceReached x = true ↔
    ∃ d, s.pvt.peers[x] = .present d ∧ s.items.presenceLimit ≤ elapsed d.lastHeard s.now := by
  unfold presenceReached
  cases s.pvt.peers[x] <;> simp

theorem exec_presenceTimeout_reached {d : PeerData} (hd : s.pvt.peers[x] = .present d)
    (silent : s.items.presenceLimit ≤ elapsed d.lastHeard s.now) (first : ∀ y < x, s.presenceReached y = false) :
    exec .presenceTimeout s = .next ((((s.losePeer s x).setPeer x (.absent d.lastClock d.lastHeard)).writeReport
      (s.lossReport x .absent .timeout d.lastClock)).close s) := by
  have due : s.presenceDue = some x := find?_finRange_iff.2 ⟨presenceReached_iff.2 ⟨d, hd, silent⟩, first⟩
  have row : exec .presenceTimeout s = .next ((s.presenceExpiry x).close s) := by
    change execPresenceTimeout s = _
    simp only [execPresenceTimeout, due]
    rfl
  rw [row]
  simp only [presenceExpiry, hd]

theorem exec_presenceTimeout_none (heard : ∀ x, s.presenceReached x = false) : exec .presenceTimeout s = .next s := by
  have due : s.presenceDue = none := find?_finRange_none heard
  change execPresenceTimeout s = _
  simp only [execPresenceTimeout, due]

end Sys2Proof.Machine.State

namespace Sys2Proof.Proofs

open Machine State

/-- Settles O35: the first silent peer is lost by `losePeer_lossSettled`, and the report counts what was settled. -/
theorem presenceTimeoutLosesThePeer : Obligations.PresenceTimeoutLosesThePeer := by
  refine fun s => ⟨fun x d hd silent first => ⟨_, losePeer_lossSettled s x, ?_⟩, fun heard => ?_⟩
  · rw [exec_presenceTimeout_reached hd silent first, lossReport_eq]
  · refine exec_presenceTimeout_none fun x => Bool.eq_false_iff.2 fun reached => ?_
    obtain ⟨d, hd, silent⟩ := presenceReached_iff.1 reached
    exact absurd silent (Nat.not_le.2 (heard x d hd))

end Sys2Proof.Proofs
end

section
/-! PROOF. A notice received (NoticesAreApplied): the restart, the entry and its report, and the guests that the junctor map
does not show. -/

namespace Sys2Proof.Machine.State

open Claims

variable {s : State} {x : Station} {n : Notice}

/-! ## A restart (R160) -/

theorem restarted_iff : s.restarted x n = true ↔
    ∃ d, s.pvt.peers[x] = .present d ∧ n.clock.toNat < d.lastClock.toNat := by
  unfold restarted
  cases s.pvt.peers[x] <;> simp

/-- What a notice does first: where it shows a restart, the loss is settled. -/
def afterRestart (s : State) (x : Station) (n : Notice) : State := if s.restarted x n then s.losePeer s x else s

theorem afterRestart_lossSettled (h : s.restarted x n = true) : LossSettled s (s.afterRestart x n) x := by
  rw [afterRestart, if_pos h]
  exact losePeer_lossSettled s x

theorem afterRestart_of_not (h : ¬s.restarted x n = true) : s.afterRestart x n = s := if_neg h

theorem afterRestart_station (s : State) (x : Station) (n : Notice) :
    (s.afterRestart x n).mpi.station = s.mpi.station := by
  unfold afterRestart
  split <;> simp

/-! ## The entry and its report (R160, R165) -/

/-- The entry is what the notice shows. -/
def noted (s : State) (x : Station) (n : Notice) : State := (s.afterRestart x n).setPeer x (.present (n.view s.now))

/-- A restart and an entry that was not PRESENT are reported. -/
def noticed (s : State) (x : Station) (n : Notice) : State :=
  if s.restarted x n then (s.noted x n).writeReport (s.lossReport x .present .restart n.clock)
  else
    match s.pvt.peers[x] with
    | .present _ => s.noted x n
    | .unknown | .absent _ _ =>
      (s.noted x n).writeReport (.peerState x s.pvt.peers[x].kind .present .notice n.clock 0 0 0)

theorem takeNotice_eq (s : State) (x : Station) (n : Notice) :
    s.takeNotice x n = (s.noticed x n).reconcile s x n.map := rfl

theorem noticed_of_restart (h : s.restarted x n = true) :
    s.noticed x n = (s.noted x n).writeReport (s.lossReport x .present .restart n.clock) := if_pos h

theorem noticed_of_unknown (h : s.pvt.peers[x] = .unknown) :
    s.noticed x n = (s.noted x n).writeReport (.peerState x .unknown .present .notice n.clock 0 0 0) := by
  have continues : ¬s.restarted x n = true := by simp [restarted_iff, h]
  rw [noticed, if_neg continues, h]
  rfl

theorem noticed_of_absent {c h : Stamp} (absent : s.pvt.peers[x] = .absent c h) :
    s.noticed x n = (s.noted x n).writeReport (.peerState x .absent .present .notice n.clock 0 0 0) := by
  have continues : ¬s.restarted x n = true := by simp [restarted_iff, absent]
  rw [noticed, if_neg continues, absent]
  rfl

theorem noticed_of_present {d : PeerData} (h : s.pvt.peers[x] = .present d) (continues : ¬s.restarted x n = true) :
    s.noticed x n = s.noted x n := by
  rw [noticed, if_neg continues, h]

theorem noticed_station (s : State) (x : Station) (n : Notice) : (s.noticed x n).mpi.station = s.mpi.station := by
  have noted_station : (s.noted x n).mpi.station = s.mpi.station := by simp [noted, afterRestart_station]
  unfold noticed
  split
  · simp [noted_station]
  · split <;> simp [noted_station]

/-! ## Guest reconciliation (R161) -/

theorem staleGuest_inUse {map : Vector (Option Station) 8} {g : GuestNo} (h : s.staleGuest x map g = true) :
    s.ofu.guests[g] ≠ none := by
  intro free
  simp [staleGuest, free] at h

/-- The guests that the map does not show are released in record order. -/
theorem reconcile_chain (s before : State) (x : Station) (map : Vector (Option Station) 8) :
    Chain (fun g u w => GuestReleased u w before g) ((List.finRange 16).filter (s.staleGuest x map)) s
      (s.reconcile before x map) :=
  releaseGuests_chain before _ ((List.nodup_finRange 16).filter _) fun _ hg => staleGuest_inUse (List.mem_filter.1 hg).2

/-! ## The row -/

theorem exec_avail {f : RxFrame} (h : Delivers s .avail f x (.avail n)) :
    exec (.avail f) s = .next (((heard s f).takeNotice x n).close s) := by
  change Host.Outcome.next (s.frameReceived _ _ _) = _
  rw [frameReceived_delivers h, deliver]

end Sys2Proof.Machine.State

namespace Sys2Proof.Proofs

open Machine Claims State

/-- Settles O48: a restart is a loss as at the presence limit, each state of the entry has its report, and the guests that
are released are those of the state in which the entry stands. -/
theorem noticesAreApplied : Obligations.NoticesAreApplied := by
  intro s f x n delivered m was restart counts
  have restart_iff : m.restarted x n = true ↔ restart := restarted_iff
  refine ⟨m.afterRestart x n, m.noticed x n, _, fun h => afterRestart_lossSettled (restart_iff.2 h),
    fun h => afterRestart_of_not (h ∘ restart_iff.1), ⟨fun h => ?_, fun unknown => noticed_of_unknown unknown,
      fun c h absent => noticed_of_absent absent, fun d present h => noticed_of_present present (h ∘ restart_iff.1)⟩, ?_,
    exec_avail delivered⟩
  · rw [noticed_of_restart (restart_iff.2 h), lossReport_eq]
    rfl
  · have station : (m.noticed x n).mpi.station = s.mpi.station := noticed_station m x n
    rw [← station]
    exact reconcile_chain (m.noticed x n) m x n.map

end Sys2Proof.Proofs
end

section
/-! PROOF. One queue's turn of the offer scan (OffersAreMade): the peer that is chosen, what an offer needs, and what it
writes. -/

namespace Sys2Proof.Machine.State

variable {s : State} {q : QueueNo} {t : Trunk} {b : CallBody} {o : SlotNo} {j : Junctor} {x : Station}

/-! ## The peer chosen (R169) -/

/-- The viewed idle count of queue `q` at `x`, read as 0 where `x` is not eligible. -/
def viewedIdle (s : State) (q : QueueNo) (x : Station) : Nat :=
  match s.pvt.peers[x] with
  | .present d => if 1 ≤ d.room ∧ d.decline[q] = false then d.idle[q] else 0
  | .unknown | .absent _ _ => 0

/-- A peer is eligible where that count is not 0. -/
theorem eligibleIdle_eq (s : State) (q : QueueNo) (x : Station) :
    s.eligibleIdle q x = if 1 ≤ s.viewedIdle q x then some (s.viewedIdle q x) else none := by
  unfold eligibleIdle viewedIdle
  cases s.pvt.peers[x] with
  | present d =>
    by_cases room : 1 ≤ d.room
    · cases mark : d.decline[q] <;> simp [room, mark]
    · simp [room]
  | unknown => rfl
  | absent => rfl

/-- The stations in cyclic order after this one. -/
def stationsAfter (s : State) : List Station := (List.finRange 16).map fun i => s.mpi.station + 1 + i

theorem idxOf_stationsAfter (s : State) (x : Station) : s.stationsAfter.idxOf x = (x - s.mpi.station - 1).val := by
  have each_once : s.stationsAfter.Nodup := (List.nodup_finRange 16).map (add_right_injective (s.mpi.station + 1))
  have place : (x - s.mpi.station - 1).val < s.stationsAfter.length := by simp [stationsAfter]
  have there : s.stationsAfter[(x - s.mpi.station - 1).val] = x := by
    simp only [stationsAfter, List.getElem_map, List.getElem_finRange]
    exact (congrArg _ (sub_sub x _ _)).trans (add_sub_cancel _ _)
  conv_lhs => rw [← there]
  exact each_once.idxOf_getElem _ place

theorem mem_stationsAfter (s : State) (x : Station) : x ∈ s.stationsAfter := by
  rw [← List.idxOf_lt_length_iff, idxOf_stationsAfter]
  simp [stationsAfter]

/-- One comparison of the choice is one of `argmax`, where a choice that is not eligible counts as none. -/
theorem betterPeer_filter (s : State) (q : QueueNo) (best : Option Station) (x : Station) :
    s.betterPeer q (best.filter fun y => 1 ≤ s.viewedIdle q y) x =
      (List.argAux (fun x y => s.viewedIdle q y < s.viewedIdle q x) best x).filter fun y => 1 ≤ s.viewedIdle q y := by
  simp only [betterPeer, eligibleIdle_eq, List.argAux]
  by_cases able : 1 ≤ s.viewedIdle q x
  · cases best with
    | none => simp [Option.filter_some, able]
    | some y =>
      by_cases chosen : 1 ≤ s.viewedIdle q y
      · by_cases higher : s.viewedIdle q y < s.viewedIdle q x <;> simp [Option.filter_some, able, chosen, higher]
      · have higher : s.viewedIdle q y < s.viewedIdle q x := by omega
        simp [Option.filter_some, able, chosen, higher]
  · cases best with
    | none => simp [Option.filter_some, able]
    | some y =>
      have lower : ¬s.viewedIdle q y < s.viewedIdle q x := by omega
      simp [Option.filter_some, able, lower]

theorem choosePeer_eq_argmax (s : State) (q : QueueNo) :
    s.choosePeer q = (s.stationsAfter.argmax (s.viewedIdle q)).filter fun y => 1 ≤ s.viewedIdle q y :=
  List.foldl_hom (l := s.stationsAfter) (init := none) (Option.filter fun y => 1 ≤ s.viewedIdle q y) (s.betterPeer_filter q)

/-- The highest viewed idle count is chosen, and of several that have it the first in cyclic order (R169). -/
theorem choosePeer_iff : s.choosePeer q = some x ↔ 1 ≤ s.viewedIdle q x ∧ ∀ y, s.viewedIdle q y < s.viewedIdle q x ∨
    (s.viewedIdle q y = s.viewedIdle q x ∧ x - s.mpi.station - 1 ≤ y - s.mpi.station - 1) := by
  rw [choosePeer_eq_argmax, Option.filter_eq_some_iff, List.argmax_eq_some_iff, decide_eq_true_iff, and_comm]
  refine and_congr_right fun _ => ⟨fun ⟨_, most, first⟩ y => ?_,
    fun best => ⟨s.mem_stationsAfter x, fun y _ => ?_, fun y _ le => ?_⟩⟩
  · have before := first y (s.mem_stationsAfter y)
    rw [idxOf_stationsAfter, idxOf_stationsAfter] at before
    exact (most y (s.mem_stationsAfter y)).lt_or_eq.imp_right fun tie => ⟨tie, before tie.ge⟩
  · exact (best y).elim le_of_lt fun tie => tie.1.le
  · rw [idxOf_stationsAfter, idxOf_stationsAfter]
    exact (best y).elim (fun lt => absurd le lt.not_ge) fun tie => tie.2

/-! ## What an offer needs (R168, R170) -/

theorem slotServes_eq_false_iff : s.slotServes q = false ↔ ∀ o : SlotNo, ∀ d ∈ s.ofu.slots[o], d.queue ≠ q := by
  rw [slotServes, List.any_eq_false]
  refine ⟨fun h o d hd => ?_, fun h o _ => ?_⟩
  · have other := h o (List.mem_finRange o)
    rw [Option.mem_def] at hd
    simpa [hd] using other
  · cases hd : s.ofu.slots[o] with
    | none => simp
    | some d => simpa using h o d hd

theorem offerTrigger_iff : s.offerTrigger q t b = true ↔
    (0 < (s.queueItems q).ovfWait ∧ (s.queueItems q).ovfWait ≤ elapsed b.arrival s.now) ∨
      (0 < (s.queueItems q).ovfBand ∧ (s.queueItems q).ovfBand ≤ s.band q (s.queuePosition q t)) := by
  simp [offerTrigger, Nat.pos_iff_ne_zero]

/-- The call on `t`, the head eligible call of `q`, calls for an offer (R168). -/
structure CallsForOffer (s : State) (q : QueueNo) (t : Trunk) (b : CallBody) : Prop where
  head : s.headEligible q = some t
  call : s.call t = some b
  unserved : s.slotServes q = false
  trigger : s.offerTrigger q t b = true

/-- What one offer takes is there: the slot, the junctor, the places of the transmit queue, and the peer. -/
structure MeansOfOffer (s : State) (q : QueueNo) (o : SlotNo) (j : Junctor) (x : Station) : Prop where
  slot : s.freeSlot = some o
  junctor : s.sps.freeOrder.head? = some j
  places : Config.offerPlaces ≤ s.plc.freePlaces
  peer : s.choosePeer q = some x

theorem callsForOffer_iff : s.CallsForOffer q t b ↔
    s.headEligible q = some t ∧ s.call t = some b ∧ (∀ o : SlotNo, ∀ d ∈ s.ofu.slots[o], d.queue ≠ q) ∧
      ((0 < (s.queueItems q).ovfWait ∧ (s.queueItems q).ovfWait ≤ elapsed b.arrival s.now) ∨
        (0 < (s.queueItems q).ovfBand ∧ (s.queueItems q).ovfBand ≤ s.band q (s.queuePosition q t))) := by
  rw [← slotServes_eq_false_iff, ← offerTrigger_iff]
  exact ⟨fun ⟨head, call, unserved, trigger⟩ => ⟨head, call, unserved, trigger⟩,
    fun ⟨head, call, unserved, trigger⟩ => ⟨head, call, unserved, trigger⟩⟩

theorem freeSlot_iff : s.freeSlot = some o ↔ s.ofu.slots[o] = none ∧ ∀ k < o, s.ofu.slots[k] ≠ none := by
  simp [freeSlot, find?_finRange_iff, Option.isSome_iff_ne_none]

theorem offerPlaces_le_iff : Config.offerPlaces ≤ s.plc.freePlaces ↔ s.plc.frames ≤ 5 := by
  simp only [Config.offerPlaces, Plc.freePlaces, Config.txQueueSize]
  omega

theorem scanQueue_of_means (calls : s.CallsForOffer q t b) (means : s.MeansOfOffer q o j x) :
    s.scanQueue q = s.makeOffer q t b o j x := by
  obtain ⟨head, call, unserved, trigger⟩ := calls
  obtain ⟨slot, junctor, places, peer⟩ := means
  simp [scanQueue, unserved, head, call, slot, junctor, peer, trigger, places]

/-- A turn that does not leave the state as it is has a call and the means of an offer. -/
theorem scanQueue_idle_or_means (s : State) (q : QueueNo) :
    s.scanQueue q = s ∨ ∃ t b o j x, s.CallsForOffer q t b ∧ s.MeansOfOffer q o j x := by
  unfold scanQueue
  split
  · exact .inl rfl
  next unserved =>
    split
    · exact .inl rfl
    next t head =>
      split
      next b o j x call slot junctor peer =>
        split
        next ready =>
          obtain ⟨trigger, places⟩ := Bool.and_eq_true_iff.1 ready
          exact .inr ⟨t, b, o, j, x, ⟨head, call, Bool.eq_false_iff.2 unserved, trigger⟩,
            ⟨slot, junctor, of_decide_eq_true places, peer⟩⟩
        · exact .inl rfl
      · exact .inl rfl

end Sys2Proof.Machine.State

namespace Sys2Proof.Claims

open Machine State

variable {s : State} {q : QueueNo} {t : Trunk} {b : CallBody} {o : SlotNo} {j : Junctor} {x : Station}

/-! ## What an offer writes (R170, R136, R27, R164) -/

theorem only_modifyPeer (s : State) (x : Station) (f : PeerData → PeerData) : Only { peers := [x] } s (s.modifyPeer x f) := by
  unfold modifyPeer
  split
  · exact only_setPeer s x _
  all_goals exact (Only.refl s).mono (by constructor <;> simp)

theorem only_makeOffer (s : State) (q : QueueNo) (t : Trunk) (b : CallBody) (o : SlotNo) (j : Junctor) (x : Station) :
    Only
      { slots := [o], junctors := [j], freeOrder := true, calls := [t], peers := [x],
        frames := [(x, .offer ⟨s.tagOf t, q, b.priority, b.programme, j, clamp16 (elapsed b.arrival s.now)⟩)] }
      s (s.makeOffer q t b o j x) :=
  ((((((only_setSlot s o _).trans (only_setFreeOrder _ _)).trans (only_setJunctor _ j _)).trans (only_modifyCall _ t _)).trans
    (only_give _ x _)).trans (only_modifyPeer _ x _)).mono (by constructor <;> simp [Change.and])

theorem makeOffer_call (h : s.call t = some b) :
    (s.makeOffer q t b o j x).cqm.calls[t] = ⟨s.cqm.calls[t].gen, some { b with phase := .offered o x j }⟩ := by
  have body : s.cqm.calls[t.val].body = some b := h
  simp [makeOffer, setPhase, body]

theorem makeOffer_peer {d : PeerData} (h : s.pvt.peers[x] = .present d) :
    (s.makeOffer q t b o j x).pvt.peers[x] = .present { d with idle := d.idle.set q (d.idle[q] - 1) } := by
  simp [makeOffer, lowerView, modifyPeer, h]

end Sys2Proof.Claims

namespace Sys2Proof.Proofs

open Machine Claims State

/-- Settles O52: where a call calls for an offer and its means are there, the turn is that offer, else it is idle. -/
theorem offersAreMade : Obligations.OffersAreMade := by
  intro s q view rank best called
  have best_iff (x : Station) : s.choosePeer q = some x ↔ best x := choosePeer_iff
  have called_iff (t : Trunk) (b : CallBody) : s.CallsForOffer q t b ↔ called t b := callsForOffer_iff
  refine ⟨fun t b o j x rest calls free low order places chosen => ?_, fun lacks => ?_⟩
  · have means : s.MeansOfOffer q o j x :=
      ⟨freeSlot_iff.2 ⟨free, low⟩, by rw [order]; rfl, offerPlaces_le_iff.2 places, (best_iff x).2 chosen⟩
    have offer := scanQueue_of_means ((called_iff t b).2 calls) means
    obtain ⟨-, call, -⟩ := calls
    intro v
    rw [show v = s.makeOffer q t b o j x from offer]
    exact ⟨by simp [makeOffer], by simp [makeOffer], by simp [makeOffer, order], makeOffer_call call,
      fun d present => makeOffer_peer present, only_makeOffer s q t b o j x⟩
  · refine (s.scanQueue_idle_or_means q).resolve_right fun ⟨t, b, o, j, x, calls, means⟩ => ?_
    obtain ⟨slot, junctor, places, peer⟩ := means
    obtain uncalled | full | empty | crowded | nobody := lacks
    · exact uncalled t b ((called_iff t b).1 calls)
    · exact full o (freeSlot_iff.1 slot).1
    · simp [empty] at junctor
    · exact absurd (offerPlaces_le_iff.1 places) crowded.not_ge
    · exact nobody x ((best_iff x).1 peer)

end Sys2Proof.Proofs
end

section
/-! PROOF. The maintenance port: transactions by the count of their bytes and their code (TransactionsAreTakenWhole), the
report FIFO (ReportFifoHolds64), and the tables (TablesAreSelectedAndRead). -/

namespace Sys2Proof.Machine

variable {s : State}

/-! ## Transactions (R184, R195) -/

/-- The row of the table that brings a maintenance command with its data. -/
def Command.row : Command → List Byte → Instr
  | .set, d => .set d
  | .start, d => .start d
  | .restart, d => .restart d
  | .select, d => .select d
  | .readNext, d => .readNext d
  | .reportNext, d => .reportNext d
  | .status, d => .status d

theorem exec_row (k : Command) (d : List Byte) (s : State) : exec (k.row d) s = .next (s.command k d) := by
  cases k <;> rfl

@[simp] theorem Command.ofCode_code (k : Command) : Command.ofCode k.code = some k := by cases k <;> rfl

theorem Command.code_toNat (k : Command) : 1 ≤ k.code.toNat ∧ k.code.toNat ≤ 7 := by cases k <;> decide

theorem Command.code_of_ofCode {b : Byte} {k : Command} (h : Command.ofCode b = some k) : b = k.code := by
  refine BitVec.eq_of_toNat_eq ?_
  unfold Command.ofCode at h
  split at h <;> cases h <;> assumption

theorem Command.ofCode_eq_none {b : Byte} (h : b.toNat = 0 ∨ 7 < b.toNat) : Command.ofCode b = none := by
  refine Option.eq_none_iff_forall_ne_some.2 fun k named => ?_
  have range := k.code_toNat
  rw [← Command.code_of_ofCode named] at range
  omega

/-- A select period that brings as many bytes as its count byte states, of a command. -/
theorem transact_named {count code : Byte} {data : List Byte} {k : Command} (h : count.toNat = data.length + 1)
    (named : Command.ofCode code = some k) : s.transact (count :: code :: data) = s.command k data := by
  have all : (code :: data).take count.toNat = code :: data := List.take_of_length_le (by simp [h])
  rw [State.transact, if_neg (by simp [h]), all]
  simp only [named]

/-- As many bytes as the count byte states, of no command. -/
theorem transact_unnamed {count code : Byte} {data : List Byte} (h : count.toNat = data.length + 1)
    (unnamed : Command.ofCode code = none) : s.transact (count :: code :: data) = s.respond .length [] := by
  have all : (code :: data).take count.toNat = code :: data := List.take_of_length_le (by simp [h])
  rw [State.transact, if_neg (by simp [h]), all]
  simp only [unnamed]

theorem transact_abandoned {l : List Byte} (h : abandonedFits l = true) : s.transact l = s.setResponse none := by
  cases l with
  | nil => rfl
  | cons count arrived => exact if_pos (by simpa [abandonedFits] using h)

theorem transact_unknown {l : List Byte} (h : unknownCodeFits l = true) : s.transact l = s.respond .length [] := by
  match l with
  | [] => simp [unknownCodeFits] at h
  | [count] =>
    obtain rfl : count = 0 := by simpa [unknownCodeFits] using h
    rfl
  | count :: code :: data =>
    obtain ⟨size, unnamed⟩ : count.toNat = data.length + 1 ∧ Command.ofCode code = none := by
      simpa [unknownCodeFits] using h
    exact transact_unnamed size unnamed

theorem transact_commandBytes (k : Command) {data : List Byte} (h : data.length ≤ 254) :
    s.transact (commandBytes k data) = s.command k data :=
  transact_named (byte_toNat_of_lt (by omega)) k.ofCode_code

/-- A command that takes no data. -/
theorem bare_of_ne_nil {s t : State} {data : List Byte} (h : data ≠ []) : (if !data.isEmpty then s else t) = s :=
  if_pos (by simpa using h)

/-! ## Reports and STATUS (R190, R191) -/

theorem writeReport_room {r : Report} (h : s.mpi.fifo.length < 64) : s.writeReport r = s.setFifo (s.mpi.fifo ++ [r]) :=
  if_pos h

theorem writeReport_full {r : Report} (h : 64 ≤ s.mpi.fifo.length) :
    s.writeReport r = s.setLostReports (min (s.mpi.lostReports + 1) 255) :=
  if_neg (Nat.not_lt.2 h)

theorem commandReportNext_cons {r : Report} {rest : List Report} (h : s.mpi.fifo = r :: rest) :
    s.commandReportNext [] = (s.setFifo rest).refresh.respond .ok r.bytes := by
  simp [State.commandReportNext, h]

theorem commandReportNext_nil (h : s.mpi.fifo = []) : s.commandReportNext [] = s.respond .empty [] := by
  simp [State.commandReportNext, h]

/-- The close of a reading of the FIFO, which the connection map does not look at. -/
theorem refresh_setFifo (h : s.sps.map = s.connections) (l : List Report) :
    (s.setFifo l).refresh = (s.setFifo l).setAttn (s.running && l.any s.items.attnEnable.raises) := by
  have mapped : (s.setFifo l).setMap (s.setFifo l).connections = s.setFifo l := by
    rw [show (s.setFifo l).connections = s.sps.map from h.symm]
    rfl
  rw [State.refresh, mapped]
  rfl

/-! ## Tables (R189, TABLE 12-6) -/

theorem tableSize_eq (t : Fin 8) : tableSize t = (![32, 25, 8, 6, 8, 16, 16, 4] : Fin 8 → Nat) t := by
  fin_cases t <;> rfl

/-- Every index of a table has an entry. -/
theorem entryFields_of_lt (s : State) {t : Fin 8} {i : Nat} (h : i < tableSize t) : ∃ f, entryFields s t i = some f := by
  have named {α : Type} {n : Nat} (f : Fin n → α) (hi : i < n) : ∃ a, (index? n i).map f = some a :=
    ⟨f ⟨i, hi⟩, by rw [index?_of_lt hi, Option.map_some]⟩
  match t with
  | 0 => exact named (callFields s) h
  | 1 =>
    by_cases last : i = 24
    · exact ⟨huntFields s, if_pos last⟩
    · have agent : i < 24 := Nat.lt_of_le_of_ne (Nat.le_of_lt_succ h) last
      rw [entryFields, if_neg last]
      exact named (agentFields s) agent
  | 2 => exact named (estimateFields s) h
  | 3 => exact named (channelFields s) h
  | 4 => exact named (junctorFields s) h
  | 5 => exact named (guestFields s) h
  | 6 => exact named (peerFields s) h
  | 7 => exact ⟨counterFields s i, if_pos h⟩

theorem commandSelect_named (t : Fin 8) (i : Byte) :
    s.commandSelect [byte t.val, i] =
      if i.toNat < tableSize t then (s.setPointer ⟨t, i.toNat⟩).respond .ok [] else s.respond .badValue [] := by
  simp only [State.commandSelect, index?_byte 8 (by decide)]

theorem commandSelect_unnamed {t : Byte} (h : 7 < t.toNat) (i : Byte) : s.commandSelect [t, i] = s.respond .badItem [] := by
  simp only [State.commandSelect, index?_of_le (n := 8) h]

theorem commandSelect_length {data : List Byte} (h : data.length ≠ 2) : s.commandSelect data = s.respond .length [] := by
  match data with
  | [] | [_] | _ :: _ :: _ :: _ => rfl
  | [_, _] => exact absurd rfl h

theorem nextPointer_of_lt {t : Fin 8} {i : Nat} (h : i < tableSize t) :
    State.nextPointer ⟨t, i⟩ = ⟨t, if i + 1 = tableSize t then 0 else i + 1⟩ := by
  have next : (if i + 1 < tableSize t then i + 1 else 0) = if i + 1 = tableSize t then 0 else i + 1 := by
    split <;> split <;> omega
  exact congrArg (TablePointer.mk t) next

end Sys2Proof.Machine

namespace Sys2Proof.Proofs

open Machine Claims

/-- Settles O18: the two branches of `writeReport`, the head that REPORT_NEXT takes off, and STATUS. -/
theorem reportFifoHolds64 : Obligations.ReportFifoHolds64 := by
  refine ⟨fun s r => ⟨writeReport_room, writeReport_full⟩, fun s r rest held settled => ?_,
    fun s empty => ?_, fun s => ?_⟩
  · change Host.Outcome.next (s.commandReportNext []) = _
    rw [commandReportNext_cons held, refresh_setFifo settled]
    rfl
  · change Host.Outcome.next (s.commandReportNext []) = _
    rw [commandReportNext_nil empty]
    rfl
  · have code : byte s.mpi.mode.code = if s.running then 1 else 0 := by
      rw [modeCode_eq, bit, apply_ite byte]
      rfl
    rw [← code]
    rfl

/-- Settles O57: the branches of `commandSelect`, and an entry for every index of the table that is read. -/
theorem tablesAreSelectedAndRead : Obligations.TablesAreSelectedAndRead := by
  intro s size answers
  have sizes (t : Fin 8) : tableSize t = size t := tableSize_eq t
  refine ⟨fun t i low => ?_, fun t i high => ?_, fun t i high => ?_, fun data other => ?_, fun data some_data => ?_,
    fun t i pointed low => ?_⟩
  · change Host.Outcome.next (s.commandSelect [byte t.val, i]) = _
    rw [commandSelect_named, if_pos (by rwa [sizes])]
    rfl
  · change Host.Outcome.next (s.commandSelect [byte t.val, i]) = _
    rw [commandSelect_named, if_neg (by rwa [sizes, Nat.not_lt])]
    rfl
  · exact congrArg Host.Outcome.next (commandSelect_unnamed high i)
  · exact congrArg Host.Outcome.next (commandSelect_length other)
  · exact congrArg Host.Outcome.next (bare_of_ne_nil some_data)
  · rw [← sizes] at low
    obtain ⟨fields, entry⟩ := entryFields_of_lt s low
    refine ⟨fields, entry, ?_⟩
    change Host.Outcome.next (s.commandReadNext []) = _
    simp only [State.commandReadNext, pointed, nextPointer_of_lt low, entry, sizes]
    rfl

/-- Settles O59: a transaction is abandoned, unknown or whole by the count of its bytes and its code. -/
theorem transactionsAreTakenWhole : Obligations.TransactionsAreTakenWhole := by
  intro s silent refused
  have silent_of {l : List Byte} (h : abandonedFits l = true) : silent (.transactionAbandoned l) :=
    congrArg Host.Outcome.next (transact_abandoned h)
  have refused_of {l : List Byte} (h : unknownCodeFits l = true) : refused (.unknownCommandCode l) :=
    congrArg Host.Outcome.next (transact_unknown h)
  refine ⟨silent_of rfl, fun count arrived short => silent_of ?_, refused_of rfl, fun code data fit unnamed => refused_of ?_,
    fun data some_data => ⟨?_, ?_⟩, fun data fit e he => ?_⟩
  · simpa [abandonedFits] using short
  · simp [unknownCodeFits, byte_toNat_of_lt (show data.length + 1 < 256 by omega), Command.ofCode_eq_none unnamed]
  · exact congrArg Host.Outcome.next (bare_of_ne_nil some_data)
  · exact congrArg Host.Outcome.next (bare_of_ne_nil some_data)
  · have named : e ∈ [Command.set, .start, .restart, .select, .readNext, .reportNext, .status].map
        fun k => (k.code, k.row data) := he
    obtain ⟨k, -, rfl⟩ := List.mem_map.1 named
    rw [exec_row]
    exact congrArg Host.Outcome.next (transact_commandBytes k fit)

end Sys2Proof.Proofs
end

section
/-! PROOF. Which commands write the image, the station number and the mode (ModeAndImageAreKept), and the step that takes the
command in front (StepRunsTheFrontCommand). -/

namespace Sys2Proof.Machine

variable {s u : State}

/-- `u` has the image, the station number and the mode of `s`. -/
structure KeepsSetup (s u : State) : Prop where
  station : u.mpi.station = s.mpi.station
  image : u.mpi.image = s.mpi.image
  mode : u.mpi.mode = s.mpi.mode

namespace KeepsSetup

theorem refl (s : State) : KeepsSetup s s := ⟨rfl, rfl, rfl⟩

/-- A command that is taken only where `b` holds. -/
theorem guarded {b : Prop} [Decidable b] (h : KeepsSetup s u) : KeepsSetup s (if b then u else s) := by
  split
  · exact h
  · exact refl s

/-- The close of an event leaves them. -/
theorem event {f : State → State} (h : KeepsSetup s (f s)) : KeepsSetup s (s.event f) :=
  ⟨by simpa [State.event] using h.station, by simpa [State.event] using h.image, by simpa [State.event] using h.mode⟩

theorem scanReceiveAll (s : State) (l : List Byte) : KeepsSetup s (s.scanReceiveAll l) := ⟨by simp, by simp, by simp⟩

theorem frameReceived (s : State) (l : List Byte) (d e : Bool) : KeepsSetup s (s.frameReceived l d e) :=
  ⟨by simp, by simp, by simp⟩

theorem rowOf (s : State) (e : TickEvent) : KeepsSetup s (nextOf (Claims.rowOf e) s) := by
  by_cases row : s.running = true ∨ e ≠ .sweepEnd
  · rw [nextOf_rowOf s e row]
    exact ⟨by simp, by simp, by simp⟩
  · obtain ⟨stop, rfl⟩ := not_or.1 row |>.imp_right not_not.1
    have idle : nextOf (Claims.rowOf .sweepEnd) s = s := by simp [nextOf, Claims.rowOf, exec, execStartSweepEnd, stop]
    rw [idle]
    exact refl s

end KeepsSetup

/-! ## The commands of the maintenance port -/

theorem mode_of_stopped (h : s.running = false) : s.mpi.mode = .config := by
  unfold State.running at h
  cases m : s.mpi.mode with
  | config => rfl
  | run => simp [m] at h

/-- The mode after RESTART is CONFIG, so a mode that it changes was RUN. -/
theorem mode_run_of_ne_config {m : Mode} (h : Mode.config ≠ m) : m = .run := by
  cases m with
  | config => exact absurd rfl h
  | run => rfl

theorem KeepsSetup.respond {u : State} (h : KeepsSetup s u) (c : StatusCode) (d : List Byte) : KeepsSetup s (u.respond c d) :=
  ⟨h.station, h.image, h.mode⟩

theorem commandSet_cases (d : List Byte) :
    (∃ c, s.commandSet d = s.respond c []) ∨
      (s.running = false ∧ ∃ m, s.commandSet d = (s.setImage m).respond .ok []) := by
  unfold State.commandSet
  split
  · split
    · exact .inl ⟨_, rfl⟩
    · split
      · exact .inl ⟨_, rfl⟩
      · split
        · exact .inl ⟨_, rfl⟩
        next stop =>
          split
          · exact .inl ⟨_, rfl⟩
          · exact .inr ⟨by simpa using stop, _, rfl⟩
  · exact .inl ⟨_, rfl⟩

theorem commandStart_cases (d : List Byte) :
    (∃ c l, s.commandStart d = s.respond c l) ∨
      (d = [] ∧ s.running = false ∧ s.commandStart d = (s.event State.enterRun).respond .ok []) := by
  unfold State.commandStart
  split
  · exact .inl ⟨_, _, rfl⟩
  next bare =>
    split
    · exact .inl ⟨_, _, rfl⟩
    next stop =>
      split
      · exact .inl ⟨_, _, rfl⟩
      · exact .inr ⟨by simpa using bare, by simpa using stop, rfl⟩

theorem commandRestart_cases (d : List Byte) :
    s.commandRestart d = s.respond .length [] ∨ (d = [] ∧ s.commandRestart d = s.restart.respond .ok []) := by
  cases d with
  | nil => exact .inr ⟨rfl, rfl⟩
  | cons b d => exact .inl rfl

namespace KeepsSetup

theorem commandSelect (s : State) (d : List Byte) : KeepsSetup s (s.commandSelect d) := by
  unfold State.commandSelect
  split
  · split
    · exact (refl s).respond _ _
    · split
      · exact ⟨rfl, rfl, rfl⟩
      · exact (refl s).respond _ _
  · exact (refl s).respond _ _

theorem commandReadNext (s : State) (d : List Byte) : KeepsSetup s (s.commandReadNext d) := by
  cases d <;> exact ⟨rfl, rfl, rfl⟩

theorem commandReportNext (s : State) (d : List Byte) : KeepsSetup s (s.commandReportNext d) := by
  unfold State.commandReportNext
  split
  · exact (refl s).respond _ _
  · split
    · exact (refl s).respond _ _
    · exact ⟨rfl, rfl, rfl⟩

theorem commandStatus (s : State) (d : List Byte) : KeepsSetup s (s.commandStatus d) := by
  cases d <;> exact ⟨rfl, rfl, rfl⟩

end KeepsSetup

/-- A well-formed command but the RESET pin leaves the image, the station number and the mode, or is a command of the
maintenance port. -/
theorem keepsSetup_or_row {c : Instr} (fit : wellFormed c = true) (pin : ∀ x, c ≠ .resetPin x) :
    KeepsSetup s (nextOf c s) ∨ ∃ k d, c = Command.row k d := by
  have base := KeepsSetup.refl s
  cases c
  case resetPin x => exact absurd rfl (pin x)
  case set d => exact .inr ⟨.set, d, rfl⟩
  case start d => exact .inr ⟨.start, d, rfl⟩
  case restart d => exact .inr ⟨.restart, d, rfl⟩
  case select d => exact .inr ⟨.select, d, rfl⟩
  case readNext d => exact .inr ⟨.readNext, d, rfl⟩
  case reportNext d => exact .inr ⟨.reportNext, d, rfl⟩
  case status d => exact .inr ⟨.status, d, rfl⟩
  all_goals left
  case tick plan => exact KeepsSetup.guarded ⟨by simp, by simp, by simp⟩
  case blockBoundary order => exact KeepsSetup.guarded ⟨by simp, by simp, by simp⟩
  case seize | loop | headset | scanByteUndecodable | signOnKey | readyKey | notReadyKey | signOffKey | answerKey |
      releaseKey | moreTimeKey => exact KeepsSetup.scanReceiveAll s _
  case orderSent => exact ⟨rfl, rfl, rfl⟩
  case disconnectFilterExpiry t => exact KeepsSetup.rowOf s (.disconnectFilter t)
  case headsetFilterExpiry p => exact KeepsSetup.rowOf s (.headsetFilter p)
  case startSweepEnd => exact KeepsSetup.rowOf s .sweepEnd
  case ringDeadline p => exact KeepsSetup.rowOf s (.ring p)
  case wrapExpiry p => exact KeepsSetup.rowOf s (.wrapExpiry p)
  case readyAtMin p => exact KeepsSetup.rowOf s (.readyAtMin p)
  case nextDueReached t => exact KeepsSetup.rowOf s (.nextDue t)
  case junctorHoldoffEnd => exact KeepsSetup.rowOf s .holdoffEnd
  case offerDeadline => exact KeepsSetup.rowOf s .offer
  case lentDeadline => exact KeepsSetup.rowOf s .lent
  case connectDeadline => exact KeepsSetup.rowOf s .connect
  case availPeriodExpiry => exact KeepsSetup.rowOf s .availPeriod
  case presenceTimeout => exact KeepsSetup.rowOf s .presence
  case availSpacingEnd => exact KeepsSetup.rowOf s .spacingEnd
  case divisionComplete => exact KeepsSetup.rowOf s .division
  case fetchComplete samples fault => exact KeepsSetup.guarded (KeepsSetup.event ⟨by simp, by simp, by simp⟩)
  case attemptBegin sign =>
    have seen : KeepsSetup s (s.busSeen sign) := ⟨by simp, by simp, by simp⟩
    simp only [nextOf, exec, execAttemptBegin]
    split
    · exact base
    · split
      · exact seen.event
      · exact seen
  case attemptLost => exact KeepsSetup.guarded (KeepsSetup.event ⟨by simp, by simp, by simp⟩)
  case attemptComplete =>
    cases attempt : s.plc.attempt <;> simp only [nextOf, exec, execAttemptComplete, attempt]
    · exact base
    · exact KeepsSetup.event ⟨by simp, by simp, by simp⟩
  case avail | offer | take | decline | connect | answered | bounce | releaseAgentDone | releaseCallerGone |
      releaseTooLate | withdraw | lengthErrorFrame => exact KeepsSetup.frameReceived s _ _ _
  case transactionAbandoned b =>
    change KeepsSetup s (s.transact b)
    rw [transact_abandoned fit]
    exact ⟨rfl, rfl, rfl⟩
  case unknownCommandCode b =>
    change KeepsSetup s (s.transact b)
    rw [transact_unknown fit]
    exact base.respond _ _

/-- What a command of the maintenance port may do to the image, the station number and the mode (R185, R186, R188). -/
theorem command_keepsSetup_or_writes (k : Command) (d : List Byte) :
    KeepsSetup s (s.command k d) ∨
    (k = .set ∧ s.running = false ∧ ∃ m, s.command k d = (s.setImage m).respond .ok []) ∨
    (k = .start ∧ d = [] ∧ s.running = false ∧ s.command k d = (s.event State.enterRun).respond .ok []) ∨
    (k = .restart ∧ d = [] ∧ s.command k d = s.restart.respond .ok []) := by
  have base := KeepsSetup.refl s
  have refused {v : State} {c : StatusCode} {l : List Byte} (h : v = s.respond c l) : KeepsSetup s v := h ▸ base.respond c l
  cases k with
  | set =>
    rcases commandSet_cases (s := s) d with ⟨c, h⟩ | stored
    · exact .inl (refused h)
    · exact .inr (.inl ⟨rfl, stored⟩)
  | start =>
    rcases commandStart_cases (s := s) d with ⟨c, l, h⟩ | started
    · exact .inl (refused h)
    · exact .inr (.inr (.inl ⟨rfl, started⟩))
  | restart =>
    rcases commandRestart_cases (s := s) d with h | restarted
    · exact .inl (refused h)
    · exact .inr (.inr (.inr ⟨rfl, restarted⟩))
  | select => exact .inl (KeepsSetup.commandSelect s d)
  | readNext => exact .inl (KeepsSetup.commandReadNext s d)
  | reportNext => exact .inl (KeepsSetup.commandReportNext s d)
  | status => exact .inl (KeepsSetup.commandStatus s d)

/-- START enters RUN, and leaves the image and the station number. -/
theorem start_responds_mpi (s : State) :
    ((s.event State.enterRun).respond .ok []).mpi.station = s.mpi.station ∧
      ((s.event State.enterRun).respond .ok []).mpi.image = s.mpi.image := by
  simp [State.respond, State.event, State.enterRun_eq, State.started]

end Sys2Proof.Machine

namespace Sys2Proof.Proofs

open Machine

/-- Settles O1: `step` looks at the queue alone. -/
theorem stepRunsTheFrontCommand : Obligations.StepRunsTheFrontCommand := by
  refine ⟨fun s c rest => rfl, fun s idle => ?_⟩
  rw [step, idle]

/-- Settles O13: SET, START and RESTART are the only rows that write any of the three, by `keepsSetup_or_row` and
`command_keepsSetup_or_writes`. -/
theorem modeAndImageAreKept : Obligations.ModeAndImageAreKept := by
  intro c s u fit e pin
  have kept (h : KeepsSetup s u) : u.mpi.station = s.mpi.station ∧
      (u.mpi.image ≠ s.mpi.image → s.mpi.mode = .config ∧ ∃ d, c = .set d) ∧
      (u.mpi.mode ≠ s.mpi.mode → (s.mpi.mode = .config ∧ c = .start []) ∨ (s.mpi.mode = .run ∧ c = .restart [])) :=
    ⟨h.station, fun new => absurd h.image new, fun new => absurd h.mode new⟩
  rw [exec_next] at e
  cases e
  rcases keepsSetup_or_row (s := s) fit pin with stands | ⟨k, d, rfl⟩
  · exact kept stands
  · have next : nextOf (k.row d) s = s.command k d := by rw [nextOf, exec_row]
    rw [next] at kept ⊢
    rcases command_keepsSetup_or_writes (s := s) k d with stands | ⟨rfl, stop, m, w⟩ | ⟨rfl, rfl, stop, w⟩ | ⟨rfl, rfl, w⟩
    · exact kept stands
    · rw [w]
      exact ⟨rfl, fun _ => ⟨mode_of_stopped stop, d, rfl⟩, fun new => absurd rfl new⟩
    · rw [w]
      obtain ⟨station, image⟩ := start_responds_mpi s
      exact ⟨station, fun new => absurd image new, fun _ => .inl ⟨mode_of_stopped stop, rfl⟩⟩
    · rw [w]
      exact ⟨rfl, fun new => absurd rfl new, fun new => .inr ⟨mode_run_of_ne_config new, rfl⟩⟩

end Sys2Proof.Proofs
end

section
/-! PROOF. SET: the numbers of the items, what each item takes of a value, and which values it does not take
(SetWritesOneItem, SetIsRefused). -/

namespace Sys2Proof.Machine

open Claims

/-! ## The numbers of the items (TABLE 12-2) -/

theorem index?_eq_some_iff {n k : Nat} {i : Fin n} : index? n k = some i ↔ k = i.val := by
  constructor
  · intro h
    obtain ⟨_, e⟩ := Option.dite_none_right_eq_some.1 h
    cases e
    rfl
  · rintro rfl
    exact index?_of_lt i.isLt

/-- The number that names an item. -/
def Item.number : Item → Nat
  | .station row => 1 + row.val
  | .musicClip m => 16 + 2 * m.val
  | .musicSeg m => 17 + 2 * m.val
  | .queue q row => 32 + 16 * q.val + row.val
  | .profile f => 160 + f.val
  | .service k => 192 + k.val
  | .clip c => 256 + c.val

theorem itemOf_number (i : Item) : itemOf i.number = some i := by
  cases i with
  | station row =>
    have place : index? 12 (1 + row.val - 1) = some row := index?_eq_some_iff.2 (by omega)
    simp (disch := omega) only [itemOf, Item.number, if_pos, place, Option.map_some]
  | musicClip m =>
    have place : index? 4 ((16 + 2 * m.val - 16) / 2) = some m := index?_eq_some_iff.2 (by omega)
    rw [itemOf, Item.number, if_neg (by omega), if_pos (by omega), place, Option.map_some, if_pos (by omega)]
  | musicSeg m =>
    have place : index? 4 ((17 + 2 * m.val - 16) / 2) = some m := index?_eq_some_iff.2 (by omega)
    rw [itemOf, Item.number, if_neg (by omega), if_pos (by omega), place, Option.map_some, if_neg (by omega)]
  | queue q row =>
    have queue : index? 8 ((32 + 16 * q.val + row.val - 32) / 16) = some q := index?_eq_some_iff.2 (by omega)
    have place : index? 11 ((32 + 16 * q.val + row.val - 32) % 16) = some row := index?_eq_some_iff.2 (by omega)
    simp (disch := omega) only [itemOf, Item.number, if_pos, if_neg, queue, place]
  | profile f =>
    have place : index? 8 (160 + f.val - 160) = some f := index?_eq_some_iff.2 (by omega)
    simp (disch := omega) only [itemOf, Item.number, if_pos, if_neg, place, Option.map_some]
  | service k =>
    have place : index? 64 (192 + k.val - 192) = some k := index?_eq_some_iff.2 (by omega)
    simp (disch := omega) only [itemOf, Item.number, if_pos, if_neg, place, Option.map_some]
  | clip c =>
    have place : index? 32 (256 + c.val - 256) = some c := index?_eq_some_iff.2 (by omega)
    simp (disch := omega) only [itemOf, Item.number, if_neg, place, Option.map_some]

theorem number_of_itemOf {n : Nat} {i : Item} (h : itemOf n = some i) : i.number = n := by
  have placed {m k : Nat} {f : Fin m → Item} (e : (index? m k).map f = some i) : ∃ j : Fin m, f j = i ∧ k = j.val := by
    obtain ⟨j, place, e⟩ := Option.map_eq_some_iff.1 e
    exact ⟨j, e, index?_eq_some_iff.1 place⟩
  unfold itemOf at h
  split_ifs at h
  any_goals
    obtain ⟨k, rfl, place⟩ := placed h
    simp only [Item.number]
    omega
  split at h
  next q row queue place =>
    cases h
    have := index?_eq_some_iff.1 queue
    have := index?_eq_some_iff.1 place
    simp only [Item.number]
    omega
  next => cases h

/-- The numbers of the items whose value has two bytes. -/
def TwoByteItem (n : Nat) : Prop := (1 ≤ n ∧ n ≤ 12) ∨ (16 ≤ n ∧ n ≤ 23) ∨ (32 ≤ n ∧ n < 160 ∧ n % 16 ≤ 10)

/-- The item of the number `n` has a value of `l` bytes (TABLE 13-5). -/
def Takes (n l : Nat) : Prop :=
  (TwoByteItem n ∧ l = 2) ∨ (160 ≤ n ∧ n ≤ 167 ∧ l ≤ 8) ∨ (192 ≤ n ∧ n ≤ 255 ∧ l = 1) ∨ (256 ≤ n ∧ n ≤ 287 ∧ l = 6)

theorem lengthFits_iff (i : Item) (l : Nat) : i.lengthFits l = true ↔ Takes i.number l := by
  cases i <;> simp only [Item.lengthFits, Takes, TwoByteItem, Item.number, beq_iff_eq, decide_eq_true_eq] <;> omega

/-- The numbers that TABLE 12-2 gives to items. -/
def NamesItem (n : Nat) : Prop :=
  (1 ≤ n ∧ n ≤ 12) ∨ (16 ≤ n ∧ n ≤ 23) ∨ (32 ≤ n ∧ n < 160 ∧ n % 16 ≤ 10) ∨ (160 ≤ n ∧ n ≤ 167) ∨ (192 ≤ n ∧ n ≤ 287)

theorem namesItem_number (i : Item) : NamesItem i.number := by
  cases i <;> simp only [NamesItem, Item.number] <;> omega

theorem exists_number {n : Nat} (h : NamesItem n) : ∃ i : Item, i.number = n := by
  obtain h | h | h | h | h := h
  · exact ⟨.station ⟨n - 1, by omega⟩, by simp only [Item.number]; omega⟩
  · obtain even | odd := Nat.mod_two_eq_zero_or_one n
    · exact ⟨.musicClip ⟨(n - 16) / 2, by omega⟩, by simp only [Item.number]; omega⟩
    · exact ⟨.musicSeg ⟨(n - 16) / 2, by omega⟩, by simp only [Item.number]; omega⟩
  · exact ⟨.queue ⟨(n - 32) / 16, by omega⟩ ⟨n % 16, by omega⟩, by simp only [Item.number]; omega⟩
  · exact ⟨.profile ⟨n - 160, by omega⟩, by simp only [Item.number]; omega⟩
  · obtain service | clip := Nat.lt_or_ge n 256
    · exact ⟨.service ⟨n - 192, by omega⟩, by simp only [Item.number]; omega⟩
    · exact ⟨.clip ⟨n - 256, by omega⟩, by simp only [Item.number]; omega⟩

theorem itemOf_eq_none {n : Nat} (h : ¬NamesItem n) : itemOf n = none :=
  Option.eq_none_iff_forall_ne_some.2 fun i named => h (number_of_itemOf named ▸ namesItem_number i)

/-! ## The two bytes of an item's number (TABLE 13-4) -/

theorem number2_number (i : Item) : number2 (byte (i.number / 256)) (byte i.number) = i.number := by
  refine number2_bytes2 ?_
  have range := namesItem_number i
  unfold NamesItem at range
  omega

theorem number2_profile (f : ProfileNo) : number2 0 (byte (160 + f.val)) = (Item.profile f).number := by
  simp [number2, byte_toNat_of_lt (show 160 + f.val < 256 by omega), Item.number]

theorem number2_service (k : Fin 64) : number2 0 (byte (192 + k.val)) = (Item.service k).number := by
  simp [number2, byte_toNat_of_lt (show 192 + k.val < 256 by omega), Item.number]

theorem number2_clip (c : Clip) : number2 1 (byte c.val) = (Item.clip c).number := by
  simp [number2, byte_toNat_of_lt (show c.val < 256 by omega), Item.number]

/-! ## Station items (TABLE 12-3) -/

/-- A station item with a number written, in range or not. -/
def StationItems.write (x : StationItems) (row : Fin 12) (n : Nat) : StationItems :=
  match row with
  | 0 => { x with disconnectFilter := n }
  | 1 => { x with headsetFilter := n }
  | 2 => { x with ringLimit := n }
  | 3 => { x with offerLimit := n }
  | 4 => { x with connectLimit := n }
  | 5 => { x with lentLimit := n }
  | 6 => { x with availPeriod := n }
  | 7 => { x with presenceLimit := n }
  | 8 => { x with junctorHoldoff := n }
  | 9 => { x with guestLimit := n }
  | 10 => { x with bandWidth := n }
  | 11 => { x with attnEnable := readAttn n }

theorem inRange_iff {lo hi n : Nat} : inRange lo hi n = true ↔ lo ≤ n ∧ n ≤ hi := by simp [inRange]

theorem StationItems.put_eq (x : StationItems) {row : Fin 12} (h : row ≠ 11) (n : Nat) :
    x.put row n = if inRange (stationRange row).1 (stationRange row).2 n then some (x.write row n) else none := by
  match row with
  | 0 | 1 | 2 | 3 | 4 | 5 | 6 | 7 | 8 | 9 | 10 => rfl
  | 11 => exact absurd rfl h

theorem StationItems.put_of_range (x : StationItems) {row : Fin 12} {n : Nat} (lo : (stationRange row).1 ≤ n)
    (hi : n ≤ (stationRange row).2) : x.put row n = some (x.write row n) := by
  by_cases attn : row = 11
  · subst attn
    rfl
  · rw [x.put_eq attn, if_pos (inRange_iff.2 ⟨lo, hi⟩)]

theorem stationRange_le (row : Fin 12) : (stationRange row).2 ≤ 65535 := by
  fin_cases row <;> decide

/-- The five enables are the bits of the number. -/
theorem readAttn_value {n : Nat} (h : n ≤ 31) :
    bit (readAttn n).callEnd + 2 * bit (readAttn n).wrapEnd + 4 * bit (readAttn n).agentState +
      8 * bit (readAttn n).peerState + 16 * bit (readAttn n).storeFault = n := by
  have bits (k : Nat) : bit (bitOf n k) = n / 2 ^ k % 2 := by
    rw [bit, bitOf]
    split <;> simp_all
  simp only [readAttn, bits]
  omega

/-- The number written is the value of its row, and every other row keeps its value. -/
theorem StationItems.value_write (x : StationItems) {row : Fin 12} {n : Nat} (hi : n ≤ (stationRange row).2) :
    stationValue (x.write row n) = Function.update (stationValue x) row n := by
  funext k
  match row with
  | 0 | 1 | 2 | 3 | 4 | 5 | 6 | 7 | 8 | 9 | 10 => fin_cases k <;> rfl
  | 11 =>
    match k with
    | 0 | 1 | 2 | 3 | 4 | 5 | 6 | 7 | 8 | 9 | 10 => rfl
    | 11 => exact readAttn_value hi

/-! ## Queue items (TABLE 12-4) -/

/-- A queue item with a number written, in range or not. -/
def QueueItems.write (x : QueueItems) (row : Fin 11) (n : Nat) : QueueItems :=
  match row with
  | 0 => { x with policy := if n = 0 then .longestIdle else .circular }
  | 1 => { x with depthLimit := n }
  | 2 => { x with wrapTime := n }
  | 3 => { x with wrapMin := n }
  | 4 => { x with wrapExt := n }
  | 5 => { x with ahtSeed := n }
  | 6 => { x with initialClip := index? 32 n }
  | 7 => { x with bandBase := index? 32 n }
  | 8 => { x with annInterval := n }
  | 9 => { x with ovfWait := n }
  | 10 => { x with ovfBand := n }

theorem readClip_eq (n : Nat) : readClip n = if n ≤ 31 ∨ n = 255 then some (index? 32 n) else none := by
  unfold readClip
  by_cases absent : n = 255
  · rw [if_pos absent, if_pos (.inr absent), index?_of_le (by omega)]
  · rw [if_neg absent]
    by_cases clip : n ≤ 31
    · rw [if_pos (.inl clip), index?_of_lt (Nat.lt_succ_of_le clip), Option.map_some]
    · rw [if_neg (not_or.2 ⟨clip, absent⟩), index?_of_le (Nat.lt_of_not_le clip), Option.map_none]

theorem clipValue_index {n : Nat} (h : n ≤ 31 ∨ n = 255) : clipValue (index? 32 n) = n := by
  obtain clip | rfl := h
  · rw [index?_of_lt (Nat.lt_succ_of_le clip)]
    rfl
  · rfl

theorem QueueItems.put_eq (x : QueueItems) (row : Fin 11) (n : Nat) :
    x.put row n = if queueRange row n then some (x.write row n) else none := by
  have clip (f : Option Clip → QueueItems) :
      (readClip n).map f = if queueRange 6 n then some (f (index? 32 n)) else none := by
    rw [readClip_eq, apply_ite (Option.map f)]
    simp [queueRange]
  match row with
  | 0 =>
    match n with
    | 0 | 1 => rfl
    | n + 2 => simp [QueueItems.put, queueRange]
  | 6 | 7 => exact clip _
  | 1 | 2 | 3 | 4 | 5 | 8 | 9 | 10 => simp [QueueItems.put, queueRange, QueueItems.write, inRange]

theorem queueRange_le {row : Fin 11} {n : Nat} (h : queueRange row n = true) : n ≤ 65535 := by
  fin_cases row <;> simp [queueRange] at h <;> omega

theorem QueueItems.value_write (x : QueueItems) {row : Fin 11} {n : Nat} (h : queueRange row n = true) :
    queueValue (x.write row n) = Function.update (queueValue x) row n := by
  funext k
  match row with
  | 0 =>
    match k with
    | 0 =>
      have policy : n = 0 ∨ n = 1 := by
        simp [queueRange] at h
        omega
      obtain rfl | rfl := policy <;> rfl
    | 1 | 2 | 3 | 4 | 5 | 6 | 7 | 8 | 9 | 10 => rfl
  | 6 =>
    match k with
    | 6 => exact clipValue_index (by simpa [queueRange] using h)
    | 0 | 1 | 2 | 3 | 4 | 5 | 7 | 8 | 9 | 10 => rfl
  | 7 =>
    match k with
    | 7 => exact clipValue_index (by simpa [queueRange] using h)
    | 0 | 1 | 2 | 3 | 4 | 5 | 6 | 8 | 9 | 10 => rfl
  | 1 | 2 | 3 | 4 | 5 | 8 | 9 | 10 => fin_cases k <;> rfl

/-! ## Profiles, service map entries and clip table entries (R186, TABLE 13-5) -/

theorem filterMap_queues (queues : List QueueNo) :
    (queues.map fun q => byte q.val).filterMap (fun b => index? 8 b.toNat) = queues := by
  rw [List.filterMap_map]
  simp only [Function.comp_def, index?_byte 8 (by decide), List.filterMap_some]

theorem readProfile_queues {queues : List QueueNo} (h : queues.Nodup) :
    readProfile (queues.map fun q => byte q.val) = some queues := by
  rw [readProfile, filterMap_queues]
  simp [h]

/-- Bytes that make a profile are the numbers of queues, each once. -/
theorem bytes_of_readProfile {l : List Byte} {queues : List QueueNo} (h : readProfile l = some queues) :
    l.Nodup ∧ ∀ b ∈ l, b.toNat ≤ 7 := by
  simp only [readProfile, Option.ite_none_right_eq_some, Bool.and_eq_true, decide_eq_true_eq] at h
  obtain ⟨⟨size, once⟩, -⟩ := h
  have named : ∀ b ∈ l, ∃ q : QueueNo, index? 8 b.toNat = some q := fun b hb =>
    Option.isSome_iff_exists.1 (List.filterMap_length_eq_length.1 size b hb)
  constructor
  · refine (List.pairwise_filterMap.1 once).imp_of_mem fun {a b} ha _ distinct same => ?_
    obtain ⟨q, hq⟩ := named a ha
    exact distinct q hq q (same ▸ hq) rfl
  · intro b hb
    obtain ⟨q, hq⟩ := named b hb
    have := index?_eq_some_iff.1 hq
    omega

theorem readProfile_none {l : List Byte} (h : ¬l.Nodup ∨ ∃ b ∈ l, 7 < b.toNat) : readProfile l = none := by
  refine Option.eq_none_iff_forall_ne_some.2 fun queues read => ?_
  obtain ⟨once, low⟩ := bytes_of_readProfile read
  rcases h with twice | ⟨b, hb, high⟩
  · exact twice once
  · exact absurd (low b hb) (Nat.not_le.2 high)

theorem readService_byte (valid : Bool) (q : QueueNo) (priority : Priority) (programme : Programme) :
    readService (byte (128 * bit valid + 16 * q.val + 4 * priority.val + programme.val)) =
      ⟨valid, q, priority, programme⟩ := by
  have one : bit valid ≤ 1 := by cases valid <;> decide
  have value : (byte (128 * bit valid + 16 * q.val + 4 * priority.val + programme.val)).toNat =
      128 * bit valid + 16 * q.val + 4 * priority.val + programme.val := byte_toNat_of_lt (by omega)
  have top : (byte (128 * bit valid + 16 * q.val + 4 * priority.val + programme.val)).msb = valid := by
    rw [BitVec.msb_eq_decide, value]
    cases valid <;> simp [bit] <;> omega
  simp only [readService, value, top, ServiceEntry.mk.injEq, Fin.ext_iff, true_and]
  omega

theorem readClipEntry_bytes (valid : Bool) (page : BitVec 8) (offset : BitVec 16) {n : Nat} (lo : 1 ≤ n) (hi : n ≤ 4095) :
    readClipEntry [byte (bit valid), page, byte (offset.toNat / 256), byte offset.toNat, byte (n / 256), byte n] =
      some ⟨valid, page, offset, n⟩ := by
  have flag : (byte (bit valid)).toNat ≤ 1 ∧ ((byte (bit valid)).toNat == 1) = valid := by cases valid <;> decide
  have place : number2 (byte (offset.toNat / 256)) (byte offset.toNat) = offset.toNat := number2_bytes2 (by omega)
  have length : number2 (byte (n / 256)) (byte n) = n := number2_bytes2 (by omega)
  simp [readClipEntry, flag, place, length, inRange_iff.2 ⟨lo, hi⟩]

theorem readClipEntry_none {valid page o1 o0 l1 l0 : Byte}
    (h : 1 < valid.toNat ∨ number2 l1 l0 = 0 ∨ 4095 < number2 l1 l0) : readClipEntry [valid, page, o1, o0, l1, l0] = none := by
  refine if_neg ?_
  simp only [Bool.and_eq_true, decide_eq_true_eq, inRange_iff]
  omega

/-! ## What SET answers (R186, R195) -/

section Answers

variable {s : State} {i : Item} {a b : Byte} {value : List Byte}

theorem commandSet_short {data : List Byte} (h : data.length < 2) : s.commandSet data = s.respond .length [] := by
  match data with
  | [] | [_] => rfl
  | _ :: _ :: _ => simp at h

theorem commandSet_badItem (h : itemOf (number2 a b) = none) : s.commandSet (a :: b :: value) = s.respond .badItem [] := by
  simp only [State.commandSet, h]

theorem commandSet_badLength (h : number2 a b = i.number) (length : i.lengthFits value.length = false) :
    s.commandSet (a :: b :: value) = s.respond .length [] := by
  simp [State.commandSet, h, itemOf_number, length]

theorem commandSet_wrongMode (h : number2 a b = i.number) (length : i.lengthFits value.length = true)
    (run : s.running = true) : s.commandSet (a :: b :: value) = s.respond .wrongMode [] := by
  simp [State.commandSet, h, itemOf_number, length, run]

theorem commandSet_badValue (h : number2 a b = i.number) (length : i.lengthFits value.length = true)
    (stop : s.running = false) (put : s.mpi.image.put i value = none) :
    s.commandSet (a :: b :: value) = s.respond .badValue [] := by
  simp [State.commandSet, h, itemOf_number, length, stop, put]

theorem commandSet_stored {m : Image} (h : number2 a b = i.number) (length : i.lengthFits value.length = true)
    (stop : s.running = false) (put : s.mpi.image.put i value = some m) :
    s.commandSet (a :: b :: value) = (s.setImage m).respond .ok [] := by
  simp [State.commandSet, h, itemOf_number, length, stop, put]

end Answers

end Sys2Proof.Machine

namespace Sys2Proof.Proofs

open Machine Claims

section Rows

variable {s : State} {i : Item} {n : Nat} {m : Image}

/-- A value that its item takes, as the image that it leaves. -/
theorem exec_set_stored {a b : Byte} {value : List Byte} (h : number2 a b = i.number)
    (length : i.lengthFits value.length = true) (stop : s.running = false) (put : s.mpi.image.put i value = some m) :
    exec (.set (a :: b :: value)) s = .next { s with mpi := { s.mpi with image := m, response := some [0] } } :=
  congrArg Host.Outcome.next (commandSet_stored h length stop put)

/-- A value of two bytes (`setData`) that its item takes. -/
theorem exec_setData_stored (length : i.lengthFits 2 = true) (stop : s.running = false)
    (put : s.mpi.image.put i [byte (n / 256), byte n] = some m) :
    exec (.set (setData i.number n)) s = .next { s with mpi := { s.mpi with image := m, response := some [0] } } :=
  exec_set_stored (number2_number i) length stop put

/-- A value of two bytes that its item does not take. -/
theorem exec_setData_badValue (length : i.lengthFits 2 = true) (stop : s.running = false)
    (put : s.mpi.image.put i [byte (n / 256), byte n] = none) :
    exec (.set (setData i.number n)) s = .next (s.respond .badValue []) :=
  congrArg Host.Outcome.next (commandSet_badValue (number2_number i) length stop put)

end Rows

/-- Settles O53: the number of each item names it, its bytes read as its value, and what it takes is written alone. -/
theorem setWritesOneItem : Obligations.SetWritesOneItem := by
  intro s stop stored i
  refine ⟨fun row n lo hi => ?_, fun q row n range => ?_, fun m c => ?_, fun m n lo hi => ?_, fun f queues once => ?_,
    fun k valid q priority programme => ?_, fun c valid page offset n lo hi => ?_⟩
  · have word : n ≤ 65535 := hi.trans (stationRange_le row)
    have put : i.put (.station row) [byte (n / 256), byte n] = some { i with station := i.station.write row n } := by
      simp only [Image.put, number2_bytes2 word, i.station.put_of_range lo hi, Option.map_some]
    refine ⟨i.station.write row n, exec_setData_stored (i := .station row) rfl stop put, ?_, fun k other => ?_⟩
    · rw [i.station.value_write hi, Function.update_self]
    · rw [i.station.value_write hi, Function.update_of_ne other]
  · have put : i.put (.queue q row) [byte (n / 256), byte n] =
        some { i with queues := i.queues.set q (i.queues[q].write row n) } := by
      simp only [Image.put, number2_bytes2 (queueRange_le range), QueueItems.put_eq, range, if_true, Option.map_some]
    refine ⟨i.queues[q].write row n, exec_setData_stored (i := .queue q row) rfl stop put, ?_, fun k other => ?_⟩
    · rw [QueueItems.value_write _ range, Function.update_self]
    · rw [QueueItems.value_write _ range, Function.update_of_ne other]
  · refine exec_setData_stored (i := .musicClip m) rfl stop ?_
    simp only [Image.put, number2_bytes2 (show c.val ≤ 65535 by omega), index?_of_lt c.isLt, Option.map_some]
    rfl
  · refine exec_setData_stored (i := .musicSeg m) rfl stop ?_
    simp only [Image.put, number2_bytes2 (show n ≤ 65535 by omega), inRange_iff.2 ⟨lo, hi⟩, if_true]
    rfl
  · have length : (Item.profile f).lengthFits (queues.map fun q => byte q.val).length = true := by
      have few : queues.length ≤ 8 := once.length_le_card
      simpa [Item.lengthFits] using few
    have put : i.put (.profile f) (queues.map fun q => byte q.val) =
        some { i with profiles := i.profiles.set f queues } := by
      simp only [Image.put, readProfile_queues once, Option.map_some]
    exact exec_set_stored (number2_profile f) length stop put
  · refine exec_set_stored (number2_service k) rfl stop ?_
    simp only [Image.put, readService_byte]
    rfl
  · refine exec_set_stored (number2_clip c) rfl stop ?_
    simp only [Image.put, readClipEntry_bytes valid page offset lo hi, Option.map_some]
    rfl

/-- Settles O54: the checks of `commandSet` in their order, by the number of the item, the length of its value, the mode and
what the item takes. -/
theorem setIsRefused : Obligations.SetIsRefused := by
  intro s data answers item
  refine ⟨fun short => congrArg Host.Outcome.next (commandSet_short short), ?_, fun stop => ?_⟩
  · rintro a b value rfl n two fits
    refine ⟨fun unnamed => ?_, fun named other => ?_, fun named fit run => ?_⟩
    · exact congrArg Host.Outcome.next (commandSet_badItem (itemOf_eq_none unnamed))
    · obtain ⟨i, number⟩ := exists_number named
      have length : i.lengthFits value.length = false := by
        rw [← Bool.not_eq_true, lengthFits_iff, number]
        exact other
      exact congrArg Host.Outcome.next (commandSet_badLength number.symm length)
    · obtain ⟨i, number⟩ := exists_number named
      have length : i.lengthFits value.length = true := by
        rw [lengthFits_iff, number]
        exact fit
      exact congrArg Host.Outcome.next (commandSet_wrongMode number.symm length run)
  · refine ⟨fun row n number word out => ?_, fun q row n word out => ?_, fun m n word high => ?_, fun m n word out => ?_,
      fun f queues few bad => ?_, fun c valid page o1 o0 l1 l0 => ?_⟩
    · have outside : inRange (stationRange row).1 (stationRange row).2 n = false := by
        rw [← Bool.not_eq_true, inRange_iff]
        omega
      refine exec_setData_badValue (i := .station row) rfl stop ?_
      simp [Image.put, number2_bytes2 word, StationItems.put_eq _ number, outside]
    · refine exec_setData_badValue (i := .queue q row) rfl stop ?_
      simp [Image.put, number2_bytes2 word, QueueItems.put_eq, out]
    · refine exec_setData_badValue (i := .musicClip m) rfl stop ?_
      simp [Image.put, number2_bytes2 word, index?_of_le (n := 32) high]
    · have outside : inRange 1 255 n = false := by
        rw [← Bool.not_eq_true, inRange_iff]
        omega
      refine exec_setData_badValue (i := .musicSeg m) rfl stop ?_
      simp [Image.put, number2_bytes2 word, outside]
    · refine congrArg Host.Outcome.next (commandSet_badValue (value := queues) (number2_profile f) ?_ stop ?_)
      · simpa [Item.lengthFits] using few
      · simp only [Image.put, readProfile_none bad, Option.map_none]
    · intro n bad
      refine congrArg Host.Outcome.next (commandSet_badValue (number2_clip c) rfl stop ?_)
      simp only [Image.put, readClipEntry_none bad, Option.map_none]

end Sys2Proof.Proofs
end
